-- ==== Sys2Proof/Word.lean ====
section
/-! DEFINITION. The word types of the part: a frame byte, a 16-bit field and a tick of the capture counter. -/

namespace Sys2Proof

/-- One byte of a frame (R174). -/
abbrev Byte := BitVec 8

/-- A two-byte field of a frame, U16 or S16 (R180, R181). -/
abbrev Half := BitVec 16

/-- A reading of the 24-bit capture counter, in ticks of 0.125 µs; differences wrap modulo 2^24 (R67). -/
abbrev Tick := BitVec 24

end Sys2Proof
end

