-- ==== Sys2Proof/Config.lean ====
section
/-! DEFINITION. The fixed numbers of the part and the values the manual leaves open. -/

namespace Sys2Proof

/-- One engine cycle of 720 degrees in angle units (00_scope.md, Units). -/
def Config.cycle : Int := 11520

/-- One crank revolution in angle units. -/
def Config.revolution : Nat := 5760

/-- Capture ticks between two advances of the millisecond time base (R8). -/
def Config.ticksPerMs : Nat := 8000

/-- Ticks an input must hold its new level to be accepted (R66). -/
def Config.filterTicks : Nat := 16

/-- The battery voltage used while the engine condition record is stale, in mV (R105, R107). -/
def Config.nominalBattery : Nat := 13500

/-- FREE VALUE, log 13. R78 divides by N × T; the manual gives no speed for a period T of 0 ticks.
The argument is N. -/
opaque Config.speedAtZeroPeriod : Nat → BitVec 16

/-- FREE VALUE, log 14. R89 divides by the period D; the manual gives no place for an edge of offset 0 in a
period of 0 ticks. The argument is the span; the result is an offset from the bracketing tooth before R89's limit. -/
opaque Config.offsetAtZeroPeriod : Nat → Nat

/-- FREE VALUE, log 22. Whether the load is seen at a period end that the part takes by its own clock (R155): a property of
what is connected to the output. The argument counts the period ends taken (`Drivers.senses`). -/
opaque Config.loadSensed : Nat → Bool

end Sys2Proof
end

