-- ==== Sys2Proof/Syntax.lean ====
section
/-! DEFINITION. The commands and events of spec/opcode_table.json, one constructor of `Instr` each, and their operands. -/

namespace Sys2Proof

/-- The four phasers; the cam inputs and the valve outputs carry the same indices (00_scope.md). -/
inductive Phaser where
  | fi | fe | ri | re
  deriving DecidableEq, Repr

/-- The two groups, one per cylinder (00_scope.md). -/
inductive Group where
  | front | rear
  deriving DecidableEq, Repr

/-- One value for each phaser, cam or output. -/
structure Quad (α : Type) where
  fi : α
  fe : α
  ri : α
  re : α
  deriving DecidableEq, Repr

/-- Byte 1 of a command frame: issuer class in the high four bits, tag in the low four (R175). -/
structure Sender where
  rank : BitVec 4
  tag  : BitVec 4
  deriving DecidableEq, Repr

/-- A handle: slot number 0 to 31 as a frame carries it, and generation (R3, R180). -/
structure Handle where
  slot : BitVec 5
  gen  : BitVec 4
  deriving DecidableEq, Repr

/-- A key as a frame carries it: each byte is passed to the owner as received (R180). -/
structure KeyField where
  phaser : Byte
  cls    : Byte
  kind   : Byte
  deriving DecidableEq, Repr

/-- The six content bytes of a POST or a CHANGE; the kind says how they are read (10.8, Request records). -/
structure ContentField where
  w0        : Half
  w1        : Half
  flag      : Byte
  keepAlive : Byte
  deriving DecidableEq, Repr

/-- The nine bytes of a parameter value field (R181). -/
structure ValueField where
  b0 : Byte
  b1 : Byte
  b2 : Byte
  b3 : Byte
  b4 : Byte
  b5 : Byte
  b6 : Byte
  b7 : Byte
  b8 : Byte
  deriving DecidableEq, Repr

/-- The four angle fields of a tooth list value (R181). -/
structure AngleField where
  a0 : Half
  a1 : Half
  a2 : Half
  a3 : Half
  deriving DecidableEq, Repr

/-- Which bound of a pair a parameter row writes: Amin or Amax (R57), Dmin or Dmax (R144). -/
inductive Bound where
  | lower | upper
  deriving DecidableEq, Repr

/-- The parameters of SET_CRANK_GEOMETRY (R82). -/
inductive CrankParam where
  | teeth | missing | polarity
  deriving DecidableEq, Repr

/-- The parameters of SET_RELEASE_THRESHOLDS (R108, R126). -/
inductive ThresholdParam where
  | temperature | speed | hysteresis
  deriving DecidableEq, Repr

/-- The parameters of SET_TRACK_FAULT_TIME (R126). -/
inductive TimeParam where
  | track | fault
  deriving DecidableEq, Repr

/-- The three driver conditions of an output (R149). -/
inductive DriverCause where
  | drvOpen | drvShort | drvHot
  deriving DecidableEq, Repr

/-- DESIGN CHOICE, log 7. The order of the four parts of one crank tooth event that the manual leaves free: each group's
mark-crossing apply before or after the tooth's cam edges (R39, R44), the two applies one before the other where they fall on
the same side, and the evaluation that the changed speed causes in one of the four places among them (R108), the first one
before the handling of a departure (R124). Every order of the four parts has a value. -/
structure ToothOrder where
  frontFirst      : Bool
  rearFirst       : Bool
  rearBeforeFront : Bool
  evaluation      : Fin 4
  deriving DecidableEq, Repr

/-- The commands and events of the part, one constructor per row of spec/opcode_table.json. -/
inductive Instr where
  /-- R28, R171. `hot` says which channels are above their overtemperature limit when the reset ends (R161). -/
  | powerOn (hot : Quad Bool)
  /-- R28, R171. -/
  | resetPin (hot : Quad Bool)
  /-- R28, R171. -/
  | vddUndervoltageReset (hot : Quad Bool)
  /-- CS falls (R176). -/
  | transactionStart
  /-- CS rises (R177); `sdi` are the bits sampled on SDI in this transaction, first bit first (R174). -/
  | transactionEnd (sdi : List Bool)
  /-- R180. -/
  | nop (snd : Sender)
  /-- R11, R12. -/
  | post (snd : Sender) (key : KeyField) (content : ContentField)
  /-- R13 to R16. -/
  | change (snd : Sender) (h : Handle) (kind : Byte) (content : ContentField)
  /-- R17. -/
  | retire (snd : Sender) (h : Handle)
  /-- R19. -/
  | renew (snd : Sender) (h : Handle)
  /-- R20. -/
  | renewClass (snd : Sender) (cls : Byte)
  /-- R36. -/
  | apply (snd : Sender) (selection : Byte)
  /-- R21. -/
  | find (snd : Sender) (key : KeyField)
  /-- R22. -/
  | readRecord (snd : Sender) (h : Handle)
  /-- R23. -/
  | list (snd : Sender)
  /-- R182. -/
  | readPhaser (snd : Sender) (phaser : Byte)
  /-- R62. -/
  | resolve (snd : Sender) (phaser : Byte)
  /-- R81, R127. -/
  | readEngine (snd : Sender)
  /-- R106. -/
  | reportConditions (snd : Sender) (oil : Byte) (temperature : Half) (battery : Half)
  /-- R122, R123. -/
  | enablePhaser (snd : Sender) (phaser : Byte) (setting : Byte)
  /-- R121. -/
  | clearFault (snd : Sender) (phaser : Byte)
  /-- R168. -/
  | readEvents (snd : Sender) (group : Byte)
  /-- R170. -/
  | setEventEnables (snd : Sender) (group : Byte) (enables : Half) (groupEnable : Byte)
  /-- R183. -/
  | resetDevice (snd : Sender)
  /-- R181. -/
  | getParam (snd : Sender) (ident : Byte)
  /-- R181, for a parameter that has no row of its own and for an identifier that is not listed. -/
  | setParam (snd : Sender) (ident : Byte) (value : ValueField)
  /-- R31. -/
  | setApplyMode (snd : Sender) (g : Group) (value : Byte)
  /-- R31. -/
  | setMarkAngle (snd : Sender) (g : Group) (value : Half)
  /-- R57, R58. -/
  | setAuthorityWindow (snd : Sender) (p : Phaser) (b : Bound) (value : Half)
  /-- R82. -/
  | setCrankGeometry (snd : Sender) (which : CrankParam) (value : Byte)
  /-- R82, R83. -/
  | setSyncCam (snd : Sender) (value : Byte)
  /-- R99. -/
  | setToothList (snd : Sender) (c : Phaser) (count : Byte) (angles : AngleField)
  /-- R100. -/
  | setCamPolarity (snd : Sender) (c : Phaser) (value : Byte)
  /-- R100. -/
  | setWindowMargin (snd : Sender) (value : Half)
  /-- R100. -/
  | setCamLostCount (snd : Sender) (value : Half)
  /-- R126. -/
  | setReleaseDuty (snd : Sender) (value : Half)
  /-- R108, R126. -/
  | setReleaseThresholds (snd : Sender) (which : ThresholdParam) (value : Half)
  /-- R126. -/
  | setTrackFaultTime (snd : Sender) (which : TimeParam) (value : Half)
  /-- R145. -/
  | setIntegratorLimit (snd : Sender) (p : Phaser) (value : Half)
  /-- R144. -/
  | setDutyLimit (snd : Sender) (p : Phaser) (b : Bound) (value : Half)
  /-- R150. -/
  | setPwmFrequency (snd : Sender) (value : Half)
  /-- R8. -/
  | timeBaseAdvance
  /-- The expiry of the record in one slot (R24). -/
  | expiry (slot : Fin 24)
  /-- R48. -/
  | recompute (p : Phaser)
  /-- A transition on CRANK to the level `rising`, at tick `stamp`, that held its new level for `held` ticks
  (R66, R70). -/
  | crankTooth (rising : Bool) (held : Nat) (stamp : Tick) (order : ToothOrder)
  /-- R132. -/
  | controlStep (p : Phaser)
  /-- A transition on CAMc to the level `rising`, at tick `stamp`, that held its new level for `held` ticks
  (R66, R87). -/
  | camEdge (c : Phaser) (rising : Bool) (held : Nat) (stamp : Tick)
  /-- R68. -/
  | stopTimerExpiry
  /-- R124. -/
  | syncDepartureHandling
  /-- R107. -/
  | freshnessTimerExpiry
  /-- R113. -/
  | releaseIntervalExpiry (p : Phaser)
  /-- R116. -/
  | returnTimeoutExpiry (p : Phaser)
  /-- R116. -/
  | latchIntervalExpiry (p : Phaser)
  /-- R115. -/
  | overBandTrackTime (p : Phaser)
  /-- R115. -/
  | overBandFaultTime (p : Phaser)
  /-- R151. -/
  | periodStart (p : Phaser)
  /-- R151. -/
  | endOfOnTime (p : Phaser)
  /-- R153, R155; `loadSeen` says whether the output sees its valve connected. -/
  | periodEnd (p : Phaser) (loadSeen : Bool)
  /-- R153. -/
  | overcurrent (p : Phaser)
  /-- R157. -/
  | thermalHoldSet (p : Phaser)
  /-- R157. -/
  | thermalHoldClear (p : Phaser)
  /-- R158: the Sequencer takes a declared driver condition. -/
  | driverConditionFault (p : Phaser) (cause : DriverCause)
  deriving DecidableEq, Repr

/-- The value of one phaser. -/
def Quad.get {α : Type} (q : Quad α) : Phaser → α
  | .fi => q.fi
  | .fe => q.fe
  | .ri => q.ri
  | .re => q.re

/-- The four values with that of one phaser replaced. -/
def Quad.set {α : Type} (q : Quad α) (p : Phaser) (x : α) : Quad α :=
  match p with
  | .fi => { q with fi := x }
  | .fe => { q with fe := x }
  | .ri => { q with ri := x }
  | .re => { q with re := x }

/-- The four values, each changed by the same function. -/
def Quad.map {α β : Type} (f : α → β) (q : Quad α) : Quad β :=
  ⟨f q.fi, f q.fe, f q.ri, f q.re⟩

/-- One value for all four. -/
def Quad.all {α : Type} (x : α) : Quad α := ⟨x, x, x, x⟩

/-- The phasers in index order. -/
def Phaser.list : List Phaser := [.fi, .fe, .ri, .re]

/-- The group of a phaser (00_scope.md). -/
def Phaser.group : Phaser → Group
  | .fi | .fe => .front
  | .ri | .re => .rear

end Sys2Proof
end

