-- ==== Sys2Proof/Decode.lean ====
section
/-! DEFINITION. Bytes and words, the CRC-8, the frame check and the frame decoder of the Frame Port (R174, R175, R178,
R180, R181, section 10.8), a frame encoder, and the host's `decodeTableWord`. -/

namespace Sys2Proof

/-! ### Bytes and words, most significant byte first (R180) -/

/-- The high byte of a two-byte field. -/
def hiByte (h : Half) : Byte := h.extractLsb' 8 8

/-- The low byte of a two-byte field. -/
def loByte (h : Half) : Byte := h.extractLsb' 0 8

/-- A two-byte field from its bytes, the most significant first. -/
def mkHalf (hi lo : Byte) : Half := hi ++ lo

/-- The two bytes of a field in sending order. -/
def halfBytes (h : Half) : List Byte := [hiByte h, loByte h]

/-- A byte from its eight bits, the most significant first (R174). -/
def byteOfBits (b7 b6 b5 b4 b3 b2 b1 b0 : Bool) : Byte :=
  BitVec.ofNat 8 (b7.toNat * 128 + b6.toNat * 64 + b5.toNat * 32 + b4.toNat * 16 + b3.toNat * 8 + b2.toNat * 4 +
    b1.toNat * 2 + b0.toNat)

/-- The bytes of a transaction: each group of eight bits is one byte, fewer than eight left over form none (R174). -/
def bytesOfBits : List Bool → List Byte
  | b7 :: b6 :: b5 :: b4 :: b3 :: b2 :: b1 :: b0 :: rest => byteOfBits b7 b6 b5 b4 b3 b2 b1 b0 :: bytesOfBits rest
  | _ => []

/-- The bits of a byte in sending order (R174). -/
def bitsOfByte (b : Byte) : List Bool :=
  [b.getLsbD 7, b.getLsbD 6, b.getLsbD 5, b.getLsbD 4, b.getLsbD 3, b.getLsbD 2, b.getLsbD 1, b.getLsbD 0]

/-- The bits of a run of bytes in sending order. -/
def bitsOfBytes : List Byte → List Bool
  | [] => []
  | b :: rest => bitsOfByte b ++ bitsOfBytes rest

/-! ### CRC-8 (R175): polynomial 0x2F, start 0xFF, no reflection, final exclusive-or 0xFF -/

/-- One bit of the register's shift. -/
def crcBit (r : Byte) : Byte := if r.getLsbD 7 then (r <<< 1) ^^^ 0x2F#8 else r <<< 1

/-- One byte shifted in, most significant bit first. -/
def crcByte (r b : Byte) : Byte :=
  crcBit (crcBit (crcBit (crcBit (crcBit (crcBit (crcBit (crcBit (r ^^^ b))))))))

/-- The check byte over a run of bytes. -/
def crc8 (bytes : List Byte) : Byte := bytes.foldl crcByte 0xFF#8 ^^^ 0xFF#8

/-! ### Statuses (10.7, 10.8) -/

/-- The statuses of a response. -/
inductive Status where
  | ok | partly | badFrame | unknownCommand | badField | badValue | full | exists_ | notFound | cls | notStopped
  | stillPresent | notFaulted | notReady
  deriving DecidableEq, Repr

/-- The status byte (10.8, Frames and statuses). -/
def Status.byte : Status → Byte
  | .ok => 0x00#8
  | .partly => 0x01#8
  | .badFrame => 0x80#8
  | .unknownCommand => 0x81#8
  | .badField => 0x82#8
  | .badValue => 0x83#8
  | .full => 0x84#8
  | .exists_ => 0x85#8
  | .notFound => 0x86#8
  | .cls => 0x87#8
  | .notStopped => 0x88#8
  | .stillPresent => 0x89#8
  | .notFaulted => 0x8A#8
  | .notReady => 0x8B#8

/-! ### Command codes (10.8, Commands) -/

/-- The commands of the port. -/
inductive Command where
  | nop | post | change | retire | renew | renewClass | apply | find | readRecord | list | readPhaser | resolve
  | readEngine | reportConditions | setParam | getParam | enablePhaser | clearFault | readEvents | setEventEnables
  | resetDevice
  deriving DecidableEq, Repr

/-- Every command of the port. -/
def Command.all : List Command :=
  [.nop, .post, .change, .retire, .renew, .renewClass, .apply, .find, .readRecord, .list, .readPhaser, .resolve,
   .readEngine, .reportConditions, .setParam, .getParam, .enablePhaser, .clearFault, .readEvents, .setEventEnables,
   .resetDevice]

/-- The command code (10.8, Commands). -/
def Command.code : Command → Byte
  | .nop => 0x01#8
  | .post => 0x02#8
  | .change => 0x03#8
  | .retire => 0x04#8
  | .renew => 0x05#8
  | .renewClass => 0x06#8
  | .apply => 0x07#8
  | .find => 0x08#8
  | .readRecord => 0x09#8
  | .list => 0x0A#8
  | .readPhaser => 0x10#8
  | .resolve => 0x11#8
  | .readEngine => 0x12#8
  | .reportConditions => 0x13#8
  | .setParam => 0x18#8
  | .getParam => 0x19#8
  | .enablePhaser => 0x1A#8
  | .clearFault => 0x1B#8
  | .readEvents => 0x20#8
  | .setEventEnables => 0x21#8
  | .resetDevice => 0x3C#8

/-- The command of a code byte, if it is one. -/
def Command.ofCode (b : Byte) : Option Command := Command.all.find? fun c => c.code == b

/-- The payload length of a command; the command length is 3 more (R175, 10.8). -/
def Command.payloadLength : Command → Nat
  | .nop | .list | .readEngine | .resetDevice => 0
  | .renewClass | .apply | .readPhaser | .resolve | .getParam | .clearFault | .readEvents => 1
  | .retire | .renew | .readRecord | .enablePhaser => 2
  | .find => 3
  | .setEventEnables => 4
  | .reportConditions => 5
  | .post | .change => 9
  | .setParam => 10

/-! ### Parameters (10.8, Parameter identifiers) -/

/-- The parameters of the part. -/
inductive Param where
  | applyMode (g : Group) | markAngle (g : Group)
  | authority (b : Bound) (p : Phaser)
  | crank (w : CrankParam) | syncCam | stopTime | firingOffset
  | toothList (c : Phaser) | camPolarity (c : Phaser) | windowMargin | camLostCount
  | releaseDuty | threshold (w : ThresholdParam) | homeBand | releaseInterval | returnTimeout | latchInterval
  | trackBand | time (w : TimeParam) | freshnessTime
  | kp (p : Phaser) | ki (p : Phaser) | ilim (p : Phaser) | nd (p : Phaser) | dutyLimit (b : Bound) (p : Phaser)
  | pwmFrequency
  deriving DecidableEq, Repr

/-- The index of a phaser, cam or output (00_scope.md). -/
def Phaser.index : Phaser → Nat
  | .fi => 0
  | .fe => 1
  | .ri => 2
  | .re => 3

/-- An identifier of a row `base + p` of the table. -/
def identAt (base : Nat) (p : Phaser) : Byte := BitVec.ofNat 8 (base + p.index)

/-- The identifier of a parameter (10.8, Parameter identifiers). -/
def Param.ident : Param → Byte
  | .applyMode .front => 0x01#8
  | .applyMode .rear => 0x03#8
  | .markAngle .front => 0x02#8
  | .markAngle .rear => 0x04#8
  | .authority .lower p => identAt 0x10 p
  | .authority .upper p => identAt 0x14 p
  | .crank .teeth => 0x20#8
  | .crank .missing => 0x21#8
  | .crank .polarity => 0x22#8
  | .syncCam => 0x23#8
  | .stopTime => 0x24#8
  | .firingOffset => 0x25#8
  | .toothList c => identAt 0x28 c
  | .camPolarity c => identAt 0x2C c
  | .windowMargin => 0x30#8
  | .camLostCount => 0x31#8
  | .releaseDuty => 0x40#8
  | .threshold .temperature => 0x41#8
  | .threshold .speed => 0x42#8
  | .threshold .hysteresis => 0x43#8
  | .homeBand => 0x44#8
  | .releaseInterval => 0x45#8
  | .returnTimeout => 0x46#8
  | .latchInterval => 0x47#8
  | .trackBand => 0x48#8
  | .time .track => 0x49#8
  | .time .fault => 0x4A#8
  | .freshnessTime => 0x4B#8
  | .kp p => identAt 0x50 p
  | .ki p => identAt 0x54 p
  | .ilim p => identAt 0x58 p
  | .nd p => identAt 0x5C p
  | .dutyLimit .lower p => identAt 0x60 p
  | .dutyLimit .upper p => identAt 0x64 p
  | .pwmFrequency => 0x70#8

/-- Every parameter of the part. -/
def Param.all : List Param := List.flatten
  [[.applyMode .front, .markAngle .front, .applyMode .rear, .markAngle .rear],
   Phaser.list.map (Param.authority .lower), Phaser.list.map (Param.authority .upper),
   [.crank .teeth, .crank .missing, .crank .polarity, .syncCam, .stopTime, .firingOffset],
   Phaser.list.map Param.toothList, Phaser.list.map Param.camPolarity,
   [.windowMargin, .camLostCount, .releaseDuty, .threshold .temperature, .threshold .speed, .threshold .hysteresis],
   [.homeBand, .releaseInterval, .returnTimeout, .latchInterval, .trackBand, .time .track, .time .fault],
   [.freshnessTime],
   Phaser.list.map Param.kp, Phaser.list.map Param.ki, Phaser.list.map Param.ilim, Phaser.list.map Param.nd,
   Phaser.list.map (Param.dutyLimit .lower), Phaser.list.map (Param.dutyLimit .upper), [.pwmFrequency]]

/-- The parameter of an identifier, if it is listed. -/
def Param.ofIdent (b : Byte) : Option Param := Param.all.find? fun q => q.ident == b

/-- The U16 or S16 of a value field: bytes 0 and 1 (R181). -/
def ValueField.half (v : ValueField) : Half := mkHalf v.b0 v.b1

/-- The four angles of a LIST value field: bytes 1 to 8 (R181). -/
def ValueField.angles (v : ValueField) : AngleField :=
  ⟨mkHalf v.b1 v.b2, mkHalf v.b3 v.b4, mkHalf v.b5 v.b6, mkHalf v.b7 v.b8⟩

/-- A value field that carries a U16 or an S16; the unused bytes are 0x00 (R180, R181). -/
def ValueField.ofHalf (h : Half) : ValueField := ⟨hiByte h, loByte h, 0, 0, 0, 0, 0, 0, 0⟩

/-- A value field that carries an enumeration. -/
def ValueField.ofByte (b : Byte) : ValueField := ⟨b, 0, 0, 0, 0, 0, 0, 0, 0⟩

/-- A value field that carries a tooth list. -/
def ValueField.ofList (count : Byte) (a : AngleField) : ValueField :=
  ⟨count, hiByte a.a0, loByte a.a0, hiByte a.a1, loByte a.a1, hiByte a.a2, loByte a.a2, hiByte a.a3, loByte a.a3⟩

/-- The nine bytes of a value field. -/
def ValueField.bytes (v : ValueField) : List Byte := [v.b0, v.b1, v.b2, v.b3, v.b4, v.b5, v.b6, v.b7, v.b8]

/-- The row of a SET_PARAM frame: the parameter's own row where the table gives it one, SET_PARAM otherwise
(R181 and the summaries of spec/opcode_table.json). -/
def decodeSetParam (snd : Sender) (ident : Byte) (v : ValueField) : Instr :=
  match Param.ofIdent ident with
  | some (.applyMode g) => .setApplyMode snd g v.b0
  | some (.markAngle g) => .setMarkAngle snd g v.half
  | some (.authority b p) => .setAuthorityWindow snd p b v.half
  | some (.crank w) => .setCrankGeometry snd w v.b0
  | some .syncCam => .setSyncCam snd v.b0
  | some (.toothList c) => .setToothList snd c v.b0 v.angles
  | some (.camPolarity c) => .setCamPolarity snd c v.b0
  | some .windowMargin => .setWindowMargin snd v.half
  | some .camLostCount => .setCamLostCount snd v.half
  | some .releaseDuty => .setReleaseDuty snd v.half
  | some (.threshold w) => .setReleaseThresholds snd w v.half
  | some (.time w) => .setTrackFaultTime snd w v.half
  | some (.ilim p) => .setIntegratorLimit snd p v.half
  | some (.dutyLimit b p) => .setDutyLimit snd p b v.half
  | some .pwmFrequency => .setPwmFrequency snd v.half
  | _ => .setParam snd ident v

/-! ### Frames -/

/-- Byte 1 of a frame (R175). -/
def Sender.byte (s : Sender) : Byte := s.rank ++ s.tag

/-- The sender of a byte 1. -/
def Sender.ofByte (b : Byte) : Sender := ⟨b.extractLsb' 4 4, b.extractLsb' 0 4⟩

/-- The issuer class is 1 to 5 (R178, check 5). -/
def Sender.valid (s : Sender) : Bool := decide (1 ≤ s.rank.toNat ∧ s.rank.toNat ≤ 5)

/-- A handle from its two bytes; the high three bits of the slot byte and the high four of the generation byte are
ignored (R180). -/
def Handle.ofBytes (s g : Byte) : Handle := ⟨s.extractLsb' 0 5, g.extractLsb' 0 4⟩

/-- The two bytes of a handle; the high bits that R180 ignores on receipt are sent as 0 (DESIGN CHOICE, log 47). -/
def Handle.bytes (h : Handle) : List Byte := [h.slot.setWidth 8, h.gen.setWidth 8]

/-- The six content bytes of a frame. -/
def ContentField.bytes (c : ContentField) : List Byte := halfBytes c.w0 ++ halfBytes c.w1 ++ [c.flag, c.keepAlive]

/-- The command of a payload by the layouts of 10.8, with the payload length of the code; `none` for another length. -/
def decodePayload (c : Command) (snd : Sender) (payload : List Byte) : Option Instr :=
  match c with
  | .nop =>
    match payload with
    | [] => some (.nop snd)
    | _ => none
  | .post =>
    match payload with
    | [p, k, d, c0, c1, c2, c3, f, ka] => some (.post snd ⟨p, k, d⟩ ⟨mkHalf c0 c1, mkHalf c2 c3, f, ka⟩)
    | _ => none
  | .change =>
    match payload with
    | [s, g, d, c0, c1, c2, c3, f, ka] => some (.change snd (Handle.ofBytes s g) d ⟨mkHalf c0 c1, mkHalf c2 c3, f, ka⟩)
    | _ => none
  | .retire =>
    match payload with
    | [s, g] => some (.retire snd (Handle.ofBytes s g))
    | _ => none
  | .renew =>
    match payload with
    | [s, g] => some (.renew snd (Handle.ofBytes s g))
    | _ => none
  | .renewClass =>
    match payload with
    | [k] => some (.renewClass snd k)
    | _ => none
  | .apply =>
    match payload with
    | [sel] => some (.apply snd sel)
    | _ => none
  | .find =>
    match payload with
    | [p, k, d] => some (.find snd ⟨p, k, d⟩)
    | _ => none
  | .readRecord =>
    match payload with
    | [s, g] => some (.readRecord snd (Handle.ofBytes s g))
    | _ => none
  | .list =>
    match payload with
    | [] => some (.list snd)
    | _ => none
  | .readPhaser =>
    match payload with
    | [p] => some (.readPhaser snd p)
    | _ => none
  | .resolve =>
    match payload with
    | [p] => some (.resolve snd p)
    | _ => none
  | .readEngine =>
    match payload with
    | [] => some (.readEngine snd)
    | _ => none
  | .reportConditions =>
    match payload with
    | [oil, t0, t1, b0, b1] => some (.reportConditions snd oil (mkHalf t0 t1) (mkHalf b0 b1))
    | _ => none
  | .setParam =>
    match payload with
    | [i, b0, b1, b2, b3, b4, b5, b6, b7, b8] => some (decodeSetParam snd i ⟨b0, b1, b2, b3, b4, b5, b6, b7, b8⟩)
    | _ => none
  | .getParam =>
    match payload with
    | [i] => some (.getParam snd i)
    | _ => none
  | .enablePhaser =>
    match payload with
    | [p, e] => some (.enablePhaser snd p e)
    | _ => none
  | .clearFault =>
    match payload with
    | [p] => some (.clearFault snd p)
    | _ => none
  | .readEvents =>
    match payload with
    | [g] => some (.readEvents snd g)
    | _ => none
  | .setEventEnables =>
    match payload with
    | [g, e0, e1, ge] => some (.setEventEnables snd g (mkHalf e0 e1) ge)
    | _ => none
  | .resetDevice =>
    match payload with
    | [] => some (.resetDevice snd)
    | _ => none

/-- What the check of a frame answers: the status of the first check that fails, or the command. -/
inductive FrameVerdict where
  | bad (status : Status)
  | good (i : Instr)
  deriving DecidableEq, Repr

/-- The frame check at the CS rise, its five checks in order (R178); bytes beyond the command length take no part
(R175). -/
def checkFrame (bytes : List Byte) : FrameVerdict :=
  match bytes with
  | [] => .bad .badFrame
  | code :: rest =>
    match Command.ofCode code with
    | none => .bad .unknownCommand
    | some c =>
      if rest.length < c.payloadLength + 2 then .bad .badFrame
      else
        let byte1 := rest.getD 0 0
        let payload := (rest.drop 1).take c.payloadLength
        if rest.getD (c.payloadLength + 1) 0 = crc8 (code :: byte1 :: payload) then
          if (Sender.ofByte byte1).valid then
            match decodePayload c (Sender.ofByte byte1) payload with
            | some i => .good i
            | none => .bad .unknownCommand
          else .bad .badFrame
        else .bad .badFrame

/-- The frame of a command: code, byte 1, payload, CRC (R175). -/
def mkFrame (c : Command) (snd : Sender) (payload : List Byte) : List Byte :=
  (c.code :: snd.byte :: payload) ++ [crc8 (c.code :: snd.byte :: payload)]

/-- The frame of a SET_PARAM (10.8). -/
def paramFrame (snd : Sender) (q : Param) (v : ValueField) : List Byte :=
  mkFrame .setParam snd (q.ident :: v.bytes)

/-- The frame that carries a command, `none` for an event that no frame carries. -/
def encodeFrame : Instr → Option (List Byte)
  | .nop snd => some (mkFrame .nop snd [])
  | .post snd key c => some (mkFrame .post snd ([key.phaser, key.cls, key.kind] ++ c.bytes))
  | .change snd h k c => some (mkFrame .change snd (h.bytes ++ [k] ++ c.bytes))
  | .retire snd h => some (mkFrame .retire snd h.bytes)
  | .renew snd h => some (mkFrame .renew snd h.bytes)
  | .renewClass snd k => some (mkFrame .renewClass snd [k])
  | .apply snd sel => some (mkFrame .apply snd [sel])
  | .find snd key => some (mkFrame .find snd [key.phaser, key.cls, key.kind])
  | .readRecord snd h => some (mkFrame .readRecord snd h.bytes)
  | .list snd => some (mkFrame .list snd [])
  | .readPhaser snd p => some (mkFrame .readPhaser snd [p])
  | .resolve snd p => some (mkFrame .resolve snd [p])
  | .readEngine snd => some (mkFrame .readEngine snd [])
  | .reportConditions snd oil t b => some (mkFrame .reportConditions snd ([oil] ++ halfBytes t ++ halfBytes b))
  | .enablePhaser snd p e => some (mkFrame .enablePhaser snd [p, e])
  | .clearFault snd p => some (mkFrame .clearFault snd [p])
  | .readEvents snd g => some (mkFrame .readEvents snd [g])
  | .setEventEnables snd g e ge => some (mkFrame .setEventEnables snd ([g] ++ halfBytes e ++ [ge]))
  | .resetDevice snd => some (mkFrame .resetDevice snd [])
  | .getParam snd i => some (mkFrame .getParam snd [i])
  | .setParam snd i v => some (mkFrame .setParam snd (i :: v.bytes))
  | .setApplyMode snd g v => some (paramFrame snd (.applyMode g) (.ofByte v))
  | .setMarkAngle snd g v => some (paramFrame snd (.markAngle g) (.ofHalf v))
  | .setAuthorityWindow snd p b v => some (paramFrame snd (.authority b p) (.ofHalf v))
  | .setCrankGeometry snd w v => some (paramFrame snd (.crank w) (.ofByte v))
  | .setSyncCam snd v => some (paramFrame snd .syncCam (.ofByte v))
  | .setToothList snd c n a => some (paramFrame snd (.toothList c) (.ofList n a))
  | .setCamPolarity snd c v => some (paramFrame snd (.camPolarity c) (.ofByte v))
  | .setWindowMargin snd v => some (paramFrame snd .windowMargin (.ofHalf v))
  | .setCamLostCount snd v => some (paramFrame snd .camLostCount (.ofHalf v))
  | .setReleaseDuty snd v => some (paramFrame snd .releaseDuty (.ofHalf v))
  | .setReleaseThresholds snd w v => some (paramFrame snd (.threshold w) (.ofHalf v))
  | .setTrackFaultTime snd w v => some (paramFrame snd (.time w) (.ofHalf v))
  | .setIntegratorLimit snd p v => some (paramFrame snd (.ilim p) (.ofHalf v))
  | .setDutyLimit snd p b v => some (paramFrame snd (.dutyLimit b p) (.ofHalf v))
  | .setPwmFrequency snd v => some (paramFrame snd .pwmFrequency (.ofHalf v))
  | .powerOn _ | .resetPin _ | .vddUndervoltageReset _ | .transactionStart | .transactionEnd _ | .timeBaseAdvance
  | .expiry _ | .recompute _ | .crankTooth _ _ _ _ | .controlStep _ | .camEdge _ _ _ _ | .stopTimerExpiry
  | .syncDepartureHandling | .freshnessTimerExpiry | .releaseIntervalExpiry _ | .returnTimeoutExpiry _
  | .latchIntervalExpiry _ | .overBandTrackTime _ | .overBandFaultTime _ | .periodStart _ | .endOfOnTime _
  | .periodEnd _ _ | .overcurrent _ | .thermalHoldSet _ | .thermalHoldClear _ | .driverConditionFault _ _ => none

/-- The command a word spells by the table's bits. No row of spec/opcode_table.json gives bits: none (log 3). -/
def decodeTableWord (_nbits _w : Nat) : Option Instr := none

end Sys2Proof
end

