-- ==== Sys2Proof/Machine/State.lean ====
section
/-! DEFINITION. The state of the part, block by block, as plain data, the reset state, and the reasons a step can stop. -/

namespace Sys2Proof.Machine

open Sys2Proof

/-! ### Request Table (R1 to R9, R30) -/

/-- The five classes (00_scope.md, Classes and kinds). -/
inductive Cls where
  | base | mode | transient | protect | service
  deriving DecidableEq, Repr

/-- The three kinds of record (00_scope.md, Classes and kinds). -/
inductive Kind where
  | setpoint | trim | limit
  deriving DecidableEq, Repr

/-- A target: a phase in au, or PARK (R6). -/
inductive Target where
  | au (v : Int)
  | park
  deriving DecidableEq, Repr

/-- A content (R6); the keep-alive interval is in steps of 10 ms. -/
inductive Content where
  | setpoint (target : Target) (slew : Nat) (parkOnRetire : Bool) (keepAlive : Nat)
  | trim (offset : Int) (keepAlive : Nat)
  | limit (lower upper : Int) (keepAlive : Nat)
  deriving DecidableEq, Repr

/-- The state of a record with the contents that state holds (R4). -/
inductive Life where
  | posted (pending : Content)
  | live (active : Content)
  | changed (active pending : Content)
  | retiring (active : Content)
  deriving DecidableEq, Repr

/-- A key: phaser, class and kind (R1, R2). -/
structure Key where
  phaser : Phaser
  cls    : Cls
  kind   : Kind
  deriving DecidableEq, Repr

/-- A request record (R1). `deadline` is the ms remaining; 0 means that it has run out and its expiry is owed (log 8). -/
structure Record where
  key      : Key
  life     : Life
  deadline : Option Nat
  deriving DecidableEq, Repr

/-- One slot: its generation, and the record it holds, `none` for FREE (R1). -/
structure Slot where
  gen    : BitVec 4
  record : Option Record
  deriving DecidableEq, Repr

/-- The 24 slots in slot order (R1). -/
structure Slots where
  list : List Slot
  len  : list.length = 24
  deriving DecidableEq, Repr

/-- Apply modes (R30). -/
inductive ApplyMode where
  | software | mark
  deriving DecidableEq, Repr

/-- The apply configuration of one group (R30). -/
structure ApplyConfig where
  mode : ApplyMode
  mark : Nat
  deriving DecidableEq, Repr

/-- The Request Table (R1, R30). -/
structure RequestTable where
  slots : Slots
  front : ApplyConfig
  rear  : ApplyConfig
  deriving DecidableEq, Repr

/-! ### Target Resolver (R46, R52, R57) -/

/-- The disposition with the fields that are present exactly in it (R46). -/
inductive Disposition where
  | setpoint (winner : Handle)
  | hold (value : Int) (cls : Cls)
  | parkDefault
  deriving DecidableEq, Repr

/-- A resolution record (R46). -/
structure Resolution where
  target      : Target
  disposition : Disposition
  trims       : List Handle
  limits      : List Handle
  authClamp   : Bool
  limited     : Bool
  deriving DecidableEq, Repr

/-- How a setpoint left the table (R52). -/
inductive Departure where
  | retired (parkOnRetire : Bool)
  | expired
  deriving DecidableEq, Repr

/-- A departure note (R52). -/
structure Note where
  handle : Handle
  how    : Departure
  deriving DecidableEq, Repr

/-- Who asked for a recompute that has not been taken: an apply by command, an apply at a mark crossing, or an expiry
(R39, R44, R48). -/
inductive Asker where
  | apply | mark | expiry
  deriving DecidableEq, Repr

/-- What the Resolver holds for one phaser. `winnerClass` and `winnerSlew` are the MODEL's own fields (log 16): the class
of the last winner, which becomes the held class once its record has left the table (R53), and the slew its active
content had at the last recompute. -/
structure Resolver where
  record     : Resolution
  notes      : List Note
  asked      : List Asker
  winnerClass : Cls
  winnerSlew : Nat
  amin       : Int
  amax       : Int
  deriving DecidableEq, Repr

/-! ### Angle Decoder (R67, R82) -/

/-- Sync states (R67). -/
inductive Sync where
  | stopped | seeking | crankSync | cycleSync
  deriving DecidableEq, Repr

/-- The half of the cycle the last tooth belongs to (R67). -/
inductive Half2 where
  | first | second
  deriving DecidableEq, Repr

/-- The decoder record (R67), its parameters (R82) and the CRANK input filter (R66). A stop timer of 0 has run out and
its expiry is owed (log 8). `pulseOpen`: the input differs from its last accepted level because a short pulse was
ignored (log 6). -/
structure Decoder where
  sync       : Sync
  prevTooth  : Option Tick
  lastNormal : Option Nat
  toothIndex : Option Nat
  half       : Option Half2
  edgeCount  : Nat
  doubt      : Nat
  speed      : Nat
  stopTimer  : Option Nat
  teeth      : Nat
  missing    : Nat
  crankRises : Bool
  syncCam    : Phaser
  stopTime   : Nat
  firingOffset : Nat
  pulseOpen  : Bool
  deriving DecidableEq, Repr

/-! ### Edge Capture (R86, R99, R100) -/

/-- A measurement and its age in ms (R86). -/
structure Measurement where
  phase : Int
  age   : Nat
  deriving DecidableEq, Repr

/-- The record of one cam and of its phaser (R86), its parameters (R99, R100) and its input filter (R66). A tooth mark
is `true` while satisfied. -/
structure Cam where
  queue     : List Tick
  marks     : List Bool
  miss      : Nat
  last      : Option Measurement
  rejects   : Nat
  teeth     : List Nat
  rises     : Bool
  pulseOpen : Bool
  deriving DecidableEq, Repr

/-- The bracketing tooth (R86). -/
structure Bracket where
  time  : Tick
  angle : Nat
  deriving DecidableEq, Repr

/-- Edge Capture (R86, R100). -/
structure Capture where
  bracket   : Option Bracket
  cams      : Quad Cam
  margin    : Nat
  lostCount : Nat
  deriving DecidableEq, Repr

/-! ### Phaser Sequencer (R104, R106, R126) -/

/-- The eight sequencing states (R104). -/
inductive PhaserState where
  | stopped | parked | releasing | tracking | returning | latching | faulted | off
  deriving DecidableEq, Repr

/-- The fault cause set (R104). -/
structure CauseSet where
  drvOpen   : Bool
  drvShort  : Bool
  drvHot    : Bool
  camLost   : Bool
  trackErr  : Bool
  latchFail : Bool
  deriving DecidableEq, Repr

/-- The cause list of RELEASE_HELD (R104, R110). -/
structure HeldCauses where
  stale    : Bool
  oilLow   : Bool
  oilCold  : Bool
  speedLow : Bool
  deriving DecidableEq, Repr

/-- Driver conditions the Valve Drivers have declared and the Sequencer has not yet taken (R158). DESIGN CHOICE, log 46: one flag
each, so two declarations of one condition that both wait are taken as one. -/
structure DriverSet where
  drvOpen  : Bool
  drvShort : Bool
  drvHot   : Bool
  deriving DecidableEq, Repr

/-- A phaser record (R104). A state timer of 0 has run out and its expiry is owed; `trackDue` and `faultDue` say that the
over-band time was found at the track time or the fault time and the step is owed (log 8). -/
structure PhaserRec where
  state     : PhaserState
  enable    : Bool
  timer     : Option Nat
  overBand  : Option Nat
  trackDue  : Bool
  faultDue  : Bool
  causes    : CauseSet
  held      : HeldCauses
  declared  : DriverSet
  deriving DecidableEq, Repr

/-- The engine condition record (R106). A freshness timer of 0 has run out and its expiry is owed (log 8). -/
structure EngineCond where
  oilOk       : Bool
  temperature : Int
  battery     : Nat
  fresh       : Bool
  timer       : Option Nat
  deriving DecidableEq, Repr

/-- The twelve parameters of the Sequencer (R126). -/
structure SeqParams where
  releaseDuty     : Nat
  releaseTemp     : Int
  releaseSpeed    : Nat
  hysteresis      : Nat
  homeBand        : Nat
  releaseInterval : Nat
  returnTimeout   : Nat
  latchInterval   : Nat
  trackBand       : Nat
  trackTime       : Nat
  faultTime       : Nat
  freshnessTime   : Nat
  deriving DecidableEq, Repr

/-- The Phaser Sequencer. `departed`: a departure from CYCLE_SYNC was handed on and not yet handled (R77, R124). -/
structure Sequencer where
  phasers  : Quad PhaserRec
  cond     : EngineCond
  departed : Bool
  params   : SeqParams
  deriving DecidableEq, Repr

/-! ### Loop Unit (R131, R144) -/

/-- SAT (R131). -/
inductive Sat where
  | none | upper | lower
  deriving DecidableEq, Repr

/-- The six loop parameters (R144). -/
structure LoopParams where
  kp   : Nat
  ki   : Nat
  ilim : Nat
  nd   : Nat
  dmin : Nat
  dmax : Nat
  deriving DecidableEq, Repr

/-- A loop record (R131), the measurements delivered to the loop and not yet stepped on, oldest first (R93, R132), and
the loop parameters (R144). -/
structure Loop where
  ramp       : Int
  integrator : Int
  lastStep   : Option Tick
  stepAge    : Option Nat
  output     : Nat
  sat        : Sat
  delivered  : List Int
  params     : LoopParams
  deriving DecidableEq, Repr

/-! ### Valve Drivers (R149) -/

/-- A channel record (R149). `start` is the tick at which the running period began or, between two periods, at which the next
one begins (R150); `offAt` is the place in the period, in ticks from its start, since which the output has
been OFF (R155); `ocPeriod` and `conducted` are the period's marks of R153. -/
structure Channel where
  commanded : Nat
  active    : Nat
  start     : Tick
  length    : Nat
  running   : Bool
  on        : Bool
  offAt     : Nat
  ocPeriod  : Bool
  conducted : Bool
  ocCount   : Nat
  openFail  : Nat
  openPass  : Nat
  hold      : Bool
  suspended : Bool
  deriving DecidableEq, Repr

/-- The Valve Drivers (R149). `senses` is the MODEL's own field (log 22): the count of period ends taken, the argument of the
free value `Config.loadSensed`. -/
structure Drivers where
  frequency : Nat
  channels  : Quad Channel
  senses    : Nat
  deriving DecidableEq, Repr

/-! ### Condition Monitor (R163) -/

/-- The level conditions of a phaser group, in bit order (09_conditions_and_attention.md 9.1, 10.8 Event sets). -/
inductive PhCond where
  | camLost | trackErr | releaseHeld | limited | faulted | drvOpen | drvShort | drvHot
  deriving DecidableEq, Repr

/-- The level conditions of DEV, in bit order. -/
inductive DevCond where
  | cycleSync | engineStopped | condStale
  deriving DecidableEq, Repr

/-- The latch record of a level condition: transition count and first transition (R163). -/
structure LevelLatch where
  count         : Nat
  firstDeclared : Bool
  deriving DecidableEq, Repr

/-- A level condition: its status, and its latch record, if latched (R163). -/
structure Cond where
  declared : Bool
  latch    : Option LevelLatch
  deriving DecidableEq, Repr

/-- The latch record of a pure event: occurrence count and carried value (R163). -/
structure PureLatch (α : Type) where
  count : Nat
  value : α
  deriving DecidableEq, Repr

/-- The reset kinds that RESET_OCCURRED carries (R163). -/
inductive ResetKind where
  | power | pin | soft
  deriving DecidableEq, Repr

/-- The level conditions of one phaser group. -/
structure PhConds where
  camLost     : Cond
  trackErr    : Cond
  releaseHeld : Cond
  limited     : Cond
  faulted     : Cond
  drvOpen     : Cond
  drvShort    : Cond
  drvHot      : Cond
  deriving DecidableEq, Repr

/-- A phaser group PH0 to PH3 (R163). `enables` is the word SET_EVENT_ENABLES writes, one bit per event (10.8). -/
structure PhGroup where
  conds       : PhConds
  expired     : Option (PureLatch Handle)
  overrun     : Option (PureLatch Unit)
  reject      : Option (PureLatch Unit)
  enables     : Half
  groupEnable : Bool
  deriving DecidableEq, Repr

/-- The group DEV (R163). -/
structure DevGroup where
  cycleSync     : Cond
  engineStopped : Cond
  condStale     : Cond
  syncDoubt     : Option (PureLatch Unit)
  resetOccurred : Option (PureLatch ResetKind)
  frameError    : Option (PureLatch Status)
  enables       : Half
  groupEnable   : Bool
  deriving DecidableEq, Repr

/-- The Condition Monitor (R163). -/
structure Monitor where
  ph  : Quad PhGroup
  dev : DevGroup
  deriving DecidableEq, Repr

/-! ### Frame Port (R176, R177, R179) -/

/-- A response: status, echoed code, echoed byte 1, payload; its frame adds the length and the CRC (R179). -/
structure Response where
  status  : Status
  code    : Byte
  byte1   : Byte
  payload : List Byte
  deriving DecidableEq, Repr

/-- The transaction: none while CS is high; in progress, with the readiness at its CS fall and the response that SDO
sends; or CS still low from before a reset (R176, R184). -/
inductive Transaction where
  | idle
  | active (begunReady : Bool) (sdo : Response)
  | abandoned
  deriving DecidableEq, Repr

/-- The Frame Port: the transaction, the pending response slot, and the checked command in hand. The port is BUSY
exactly while a command is in hand (R176, R177). -/
structure Port where
  transaction : Transaction
  slot        : Option Response
  work        : Option Instr
  deriving DecidableEq, Repr

/-! ### The part -/

/-- The state of the part: the nine blocks, the capture counter, the ticks since the last advance of the millisecond
time base (R8), and the queue of waiting commands. -/
structure State where
  rt      : RequestTable
  tr      : Quad Resolver
  ad      : Decoder
  ec      : Capture
  ps      : Sequencer
  lu      : Quad Loop
  vd      : Drivers
  cm      : Monitor
  fp      : Port
  counter : Tick
  msTicks : Nat
  pending : List Instr
  deriving DecidableEq, Repr

/-- No step of this part stops with a fault: a command that is turned away is answered with a status and the part goes
on (R178, R179), so no one raises a `Fault`. -/
inductive Fault where
  deriving DecidableEq, Repr

/-- The one reason a step can be refused. -/
inductive Refusal where
  /-- Raised by `exec` for a command that has no meaning yet; safe. No arm of this model uses it. -/
  | notModelled (mnemonic : String)
  deriving DecidableEq, Repr

/-! ### Reset values -/

/-- The empty table: every slot FREE with generation 0 (R28). -/
def Slots.empty : Slots := ⟨List.replicate 24 ⟨0#4, none⟩, by simp⟩

/-- R28, R30. -/
def RequestTable.reset : RequestTable :=
  { slots := Slots.empty, front := ⟨.mark, 3840⟩, rear := ⟨.mark, 8160⟩ }

/-- The resolution record after a reset of any kind (R63, R64). -/
def Resolution.reset : Resolution :=
  { target := .park, disposition := .parkDefault, trims := [], limits := [], authClamp := false, limited := false }

/-- R63, with the authority window given (R57). -/
def Resolver.fresh (amin amax : Int) : Resolver :=
  { record := Resolution.reset, notes := [], asked := [], winnerClass := .base, winnerSlew := 0, amin := amin, amax := amax }

/-- R57, R63. -/
def Resolver.resets : Quad Resolver :=
  ⟨Resolver.fresh (-160) 960, Resolver.fresh (-960) 160, Resolver.fresh (-160) 960, Resolver.fresh (-960) 160⟩

/-- R82, R84. -/
def Decoder.reset : Decoder :=
  { sync := .stopped, prevTooth := none, lastNormal := none, toothIndex := none, half := none, edgeCount := 0,
    doubt := 0, speed := 0, stopTimer := none, teeth := 24, missing := 2, crankRises := false, syncCam := .fi,
    stopTime := 200, firingOffset := 4320, pulseOpen := false }

/-- R100, R102, with the tooth list given (R99). -/
def Cam.fresh (teeth : List Nat) : Cam :=
  { queue := [], marks := teeth.map fun _ => true, miss := 0, last := none, rejects := 0, teeth := teeth,
    rises := true, pulseOpen := false }

/-- R99, R100, R102. -/
def Capture.reset : Capture :=
  { bracket := none,
    cams := ⟨Cam.fresh [960, 3200, 6720], Cam.fresh [2400, 8160], Cam.fresh [5280, 10080], Cam.fresh [6720, 480]⟩,
    margin := 160, lostCount := 3 }

/-- The empty cause set. -/
def CauseSet.empty : CauseSet := ⟨false, false, false, false, false, false⟩

/-- The empty cause list. -/
def HeldCauses.empty : HeldCauses := ⟨false, false, false, false⟩

/-- No driver condition. -/
def DriverSet.empty : DriverSet := ⟨false, false, false⟩

/-- R128. -/
def PhaserRec.reset : PhaserRec :=
  { state := .stopped, enable := true, timer := none, overBand := none, trackDue := false, faultDue := false,
    causes := .empty, held := .empty, declared := .empty }

/-- R126, R128. -/
def Sequencer.reset : Sequencer :=
  { phasers := Quad.all PhaserRec.reset,
    cond := { oilOk := false, temperature := -40, battery := 13500, fresh := false, timer := none },
    departed := false,
    params := { releaseDuty := 7000, releaseTemp := 20, releaseSpeed := 1500, hysteresis := 200, homeBand := 24,
                releaseInterval := 60, returnTimeout := 500, latchInterval := 40, trackBand := 80, trackTime := 200,
                faultTime := 1000, freshnessTime := 250 } }

/-- R144, R147. -/
def Loop.fresh (kp : Nat) : Loop :=
  { ramp := 0, integrator := 0, lastStep := none, stepAge := none, output := 0, sat := .none, delivered := [],
    params := { kp := kp, ki := 40, ilim := 2500, nd := 5000, dmin := 500, dmax := 9500 } }

/-- R144, R147. -/
def Loop.resets : Quad Loop := ⟨Loop.fresh 320, Loop.fresh 280, Loop.fresh 320, Loop.fresh 280⟩

/-- R161, with the tick of the first period start and the thermal hold given. -/
def Channel.fresh (start : Tick) (hot : Bool) : Channel :=
  { commanded := 0, active := 0, start := start, length := 32000, running := false, on := false, offAt := 0,
    ocPeriod := false, conducted := false, ocCount := 0, openFail := 0, openPass := 0, hold := hot,
    suspended := false }

/-- R161: the first periods are staggered by a quarter of the default period. -/
def Drivers.fresh (hot : Quad Bool) : Drivers :=
  { frequency := 250,
    channels := ⟨Channel.fresh 0#24 hot.fi, Channel.fresh 8000#24 hot.fe, Channel.fresh 16000#24 hot.ri,
                 Channel.fresh 24000#24 hot.re⟩,
    senses := 0 }

/-- A condition that stands clear, not latched. -/
def Cond.clear : Cond := ⟨false, none⟩

/-- A condition that stands declared, not latched. -/
def Cond.standing : Cond := ⟨true, none⟩

/-- All conditions of a phaser group clear and not latched. -/
def PhConds.clear : PhConds :=
  ⟨.clear, .clear, .clear, .clear, .clear, .clear, .clear, .clear⟩

/-- R171: FAULTED alone is enabled (bit 4 of 10.8's event set). -/
def PhGroup.reset : PhGroup :=
  { conds := .clear, expired := none, overrun := none, reject := none, enables := 0x0010#16, groupEnable := true }

/-- R171: ENGINE_STOPPED and COND_STALE stand declared, RESET_OCCURRED alone is enabled (bit 4), and RESET_OCCURRED is
latched with the reset's kind. -/
def DevGroup.fresh (kind : ResetKind) : DevGroup :=
  { cycleSync := .clear, engineStopped := .standing, condStale := .standing, syncDoubt := none,
    resetOccurred := some ⟨1, kind⟩, frameError := none, enables := 0x0010#16, groupEnable := true }

/-- R171. -/
def Monitor.fresh (kind : ResetKind) : Monitor := { ph := Quad.all PhGroup.reset, dev := DevGroup.fresh kind }

/-- R184, with CS high. -/
def Port.reset : Port := { transaction := .idle, slot := none, work := none }

/-- The part right after a power-on reset with CS high and no output above its overtemperature limit (R28, R63, R84,
R102, R128, R147, R161, R171, R184; logs 4, 23, 26, 29). The queue is empty. -/
def State.reset : State :=
  { rt := RequestTable.reset, tr := Resolver.resets, ad := Decoder.reset, ec := Capture.reset, ps := Sequencer.reset,
    lu := Loop.resets, vd := Drivers.fresh (Quad.all false), cm := Monitor.fresh .power, fp := Port.reset,
    counter := 0#24, msTicks := 0, pending := [] }

end Sys2Proof.Machine
end

