-- ==== Sys2Proof/Machine/Ops.lean ====
section
/-! DEFINITION. The shared operations: arithmetic (R130, 00_scope.md), access to the per-phaser records, slots of the
Request Table, timers, and the answer of a command (R177, R179). -/

namespace Sys2Proof.Machine

open Sys2Proof

/-! ### Arithmetic (00_scope.md Arithmetic, R130) -/

/-- "Round" of x / d: floor((2x + d) / (2d)), a half going up (R130). `/` on Int is floor for a positive divisor. -/
def roundDiv (x d : Int) : Int := (2 * x + d) / (2 * d)

/-- Clamp to [lo, hi] (00_scope.md). -/
def clampInt (lo hi x : Int) : Int := if x < lo then lo else if hi < x then hi else x

/-- Clamp to [lo, hi] (00_scope.md). -/
def clampNat (lo hi x : Nat) : Nat := if x < lo then lo else if hi < x then hi else x

/-- An angle taken into one cycle, 0 to 11,519 (00_scope.md). -/
def cyc (x : Int) : Nat := (x % Config.cycle).toNat

/-- The time from `b` to `a` in ticks, modulo 2^24 (00_scope.md, R67). -/
def tickDiff (a b : Tick) : Nat := (a - b).toNat

/-- One more, saturating (R67, R86, R95, R131, R155, R163). -/
def bump (limit n : Nat) : Nat := min limit (n + 1)

/-- A ms timer at an advance of the time base: it decreases by one and stays at 0 once it has run out (R8, R68, R104,
R107; log 8). -/
def tickDown (t : Option Nat) : Option Nat := t.map fun n => n - 1

/-- A ms timer whose expiry is owed (log 8). -/
def runOut (t : Option Nat) : Bool := t == some 0

/-- A ms timer as a readout shows it: its last remaining time while its expiry is owed, 0xFFFF while absent
(R22, R26, R127, 10.8; log 8). -/
def shownTimer (t : Option Nat) : Half :=
  match t with
  | none => 0xFFFF#16
  | some n => BitVec.ofNat 16 (max 1 n)

/-! ### The per-phaser records -/

/-- The Resolver's record of a phaser. -/
def State.resolver (s : State) (p : Phaser) : Resolver := s.tr.get p

/-- Replace the Resolver's record of a phaser. -/
def State.setResolver (s : State) (p : Phaser) (x : Resolver) : State := { s with tr := s.tr.set p x }

/-- The Sequencer's record of a phaser. -/
def State.phaser (s : State) (p : Phaser) : PhaserRec := s.ps.phasers.get p

/-- Replace the Sequencer's record of a phaser. -/
def State.setPhaser (s : State) (p : Phaser) (x : PhaserRec) : State :=
  { s with ps := { s.ps with phasers := s.ps.phasers.set p x } }

/-- The loop record of a phaser. -/
def State.loop (s : State) (p : Phaser) : Loop := s.lu.get p

/-- Replace the loop record of a phaser. -/
def State.setLoop (s : State) (p : Phaser) (x : Loop) : State := { s with lu := s.lu.set p x }

/-- The channel of a phaser's output. -/
def State.channel (s : State) (p : Phaser) : Channel := s.vd.channels.get p

/-- Replace the channel of a phaser's output. -/
def State.setChannel (s : State) (p : Phaser) (x : Channel) : State :=
  { s with vd := { s.vd with channels := s.vd.channels.set p x } }

/-- The record of a cam. -/
def State.cam (s : State) (c : Phaser) : Cam := s.ec.cams.get c

/-- Replace the record of a cam. -/
def State.setCam (s : State) (c : Phaser) (x : Cam) : State :=
  { s with ec := { s.ec with cams := s.ec.cams.set c x } }

/-- The Monitor's group of a phaser, PH0 to PH3. -/
def State.phGroup (s : State) (p : Phaser) : PhGroup := s.cm.ph.get p

/-- Replace the Monitor's group of a phaser. -/
def State.setPhGroup (s : State) (p : Phaser) (x : PhGroup) : State :=
  { s with cm := { s.cm with ph := s.cm.ph.set p x } }

/-- Replace the Monitor's group DEV. -/
def State.setDev (s : State) (x : DevGroup) : State := { s with cm := { s.cm with dev := x } }

/-- Replace the decoder record. -/
def State.setDecoder (s : State) (x : Decoder) : State := { s with ad := x }

/-- Replace the slots of the Request Table. -/
def State.setSlots (s : State) (x : Slots) : State := { s with rt := { s.rt with slots := x } }

/-- The duty handed to a phaser's output (R152): it replaces the commanded duty and leaves the running period. -/
def State.setCommanded (s : State) (p : Phaser) (duty : Nat) : State :=
  s.setChannel p { s.channel p with commanded := duty }

/-- Replace the Sequencer's parameters. -/
def State.setSeqParams (s : State) (x : SeqParams) : State := { s with ps := { s.ps with params := x } }

/-- Replace the loop parameters of a phaser. -/
def State.setLoopParams (s : State) (p : Phaser) (x : LoopParams) : State :=
  s.setLoop p { s.loop p with params := x }

/-- The apply configuration of a group (R30). -/
def State.config (s : State) : Group → ApplyConfig
  | .front => s.rt.front
  | .rear => s.rt.rear

/-- Replace the apply configuration of a group. -/
def State.setConfig (s : State) (g : Group) (x : ApplyConfig) : State :=
  match g with
  | .front => { s with rt := { s.rt with front := x } }
  | .rear => { s with rt := { s.rt with rear := x } }

/-! ### Classes, kinds, keys -/

/-- The rank of a class (00_scope.md). -/
def Cls.rank : Cls → Nat
  | .base => 1
  | .mode => 2
  | .transient => 3
  | .protect => 4
  | .service => 5

/-- The classes in ascending order. -/
def Cls.ascending : List Cls := [.base, .mode, .transient, .protect, .service]

/-- The class of a class byte, if it is in the set (10.8). -/
def Cls.ofByte (b : Byte) : Option Cls := Cls.ascending.find? fun c => c.rank == b.toNat

/-- The encoding of a kind (10.8). -/
def Kind.code : Kind → Nat
  | .setpoint => 0
  | .trim => 1
  | .limit => 2

/-- The kind of a kind byte, if it is in the set (10.8). -/
def Kind.ofByte (b : Byte) : Option Kind := [Kind.setpoint, Kind.trim, Kind.limit].find? fun k => k.code == b.toNat

/-- The phaser of a phaser byte, if it is in the set (10.8). -/
def phaserOfByte (b : Byte) : Option Phaser := Phaser.list.find? fun p => p.index == b.toNat

/-- The issuer class compared with a class by rank (R10): the issuer may act on records of the class. -/
def outranks (snd : Sender) (c : Cls) : Bool := decide (c.rank ≤ snd.rank.toNat)

/-! ### Contents and records -/

/-- The kind of a content (R6). -/
def Content.kind : Content → Kind
  | .setpoint _ _ _ _ => .setpoint
  | .trim _ _ => .trim
  | .limit _ _ _ => .limit

/-- The keep-alive interval of a content, in steps of 10 ms (R6). -/
def Content.keepAlive : Content → Nat
  | .setpoint _ _ _ k => k
  | .trim _ k => k
  | .limit _ _ k => k

/-- The deadline started at a content's interval: K × 10 ms, none for 0 (R8, R33). -/
def Content.deadline (c : Content) : Option Nat := if c.keepAlive = 0 then none else some (c.keepAlive * 10)

/-- The slew of a content; a TRIM or a LIMIT has none and is shown as 0 (10.8; log 12). -/
def Content.slew : Content → Nat
  | .setpoint _ slew _ _ => slew
  | _ => 0

/-- The active content of a record, if its state holds one (R4). -/
def Life.active : Life → Option Content
  | .posted _ => none
  | .live a => some a
  | .changed a _ => some a
  | .retiring a => some a

/-- The pending content of a record, if its state holds one (R4). -/
def Life.pending : Life → Option Content
  | .posted p => some p
  | .live _ => none
  | .changed _ p => some p
  | .retiring _ => none

/-- The content a record holds for its next apply: the pending content, or the active one (R15). -/
def Life.prospect : Life → Content
  | .posted p => p
  | .live a => a
  | .changed _ p => p
  | .retiring a => a

/-- The record state byte (10.8, Request records). -/
def Life.code : Life → Byte
  | .posted _ => 1#8
  | .live _ => 2#8
  | .changed _ _ => 3#8
  | .retiring _ => 4#8

/-- The record with its deadline restarted at the active interval, if it has a deadline (R8, R9). -/
def Record.restarted (r : Record) : Record :=
  match r.deadline, r.life.active with
  | some _, some a => { r with deadline := some (a.keepAlive * 10) }
  | _, _ => r

/-! ### Slots -/

/-- The slot of a number. -/
def Slots.get (t : Slots) (i : Fin 24) : Slot := t.list[i.val]'(by rw [t.len]; exact i.isLt)

/-- The table with one slot replaced. -/
def Slots.set (t : Slots) (i : Fin 24) (x : Slot) : Slots :=
  ⟨t.list.set i.val x, by rw [List.length_set]; exact t.len⟩

/-- The table with every slot changed by the same function. -/
def Slots.map (f : Slot → Slot) (t : Slots) : Slots := ⟨t.list.map f, by rw [List.length_map]; exact t.len⟩

/-- The slot numbers in order. -/
def slotNumbers : List (Fin 24) := List.finRange 24

/-- The lowest-numbered slot that holds a record for which `f` answers true. -/
def Slots.findRecord (t : Slots) (f : Record → Bool) : Option (Fin 24) :=
  slotNumbers.find? fun i => (t.get i).record.any f

/-- The slot of the record that holds a key, if one does (R2). -/
def Slots.findKey (t : Slots) (k : Key) : Option (Fin 24) := t.findRecord fun r => r.key == k

/-- The lowest-numbered FREE slot, if there is one (R12). -/
def Slots.findFree (t : Slots) : Option (Fin 24) := slotNumbers.find? fun i => (t.get i).record.isNone

/-- The handle of a slot: its number and its present generation (R3). -/
def Slots.handle (t : Slots) (i : Fin 24) : Handle := ⟨BitVec.ofNat 5 i.val, (t.get i).gen⟩

/-- The slot with its record replaced and its generation kept. -/
def Slots.setRecord (t : Slots) (i : Fin 24) (r : Option Record) : Slots := t.set i { t.get i with record := r }

/-- A handle resolved against the table (R3). -/
def Slots.resolve (t : Slots) (h : Handle) : Except Status (Fin 24 × Record) :=
  if hs : h.slot.toNat < 24 then
    let slot := t.get ⟨h.slot.toNat, hs⟩
    match slot.record with
    | none => .error .notFound
    | some r => if slot.gen = h.gen then .ok (⟨h.slot.toNat, hs⟩, r) else .error .notFound
  else .error .badField

/-- The active content a handle names, if it names a record that has one. -/
def Slots.activeOf (t : Slots) (h : Handle) : Option Content :=
  match t.resolve h with
  | .ok (_, r) => r.life.active
  | .error _ => none

/-! ### Answering a command (R177, R179) -/

/-- The outcome of a step of this part. -/
abbrev Result := Host.Outcome State Fault Refusal

/-- An owner's answer: a status and a payload (R179). -/
structure Reply where
  status  : Status
  payload : List Byte
  deriving DecidableEq, Repr

/-- A refusal: a status and no payload (R179). -/
def Reply.no (st : Status) : Reply := ⟨st, []⟩

/-- An OK with its payload (R179). -/
def Reply.yes (payload : List Byte) : Reply := ⟨.ok, payload⟩

/-- The answer of an owner that may refuse: a refusal leaves the state as it was. -/
def answer (s : State) (r : Except Status (State × List Byte)) : State × Reply :=
  match r with
  | .ok (t, payload) => (t, Reply.yes payload)
  | .error st => (s, Reply.no st)

/-- The response built and placed in the pending slot, and the port READY (R177). -/
def State.respond (s : State) (c : Command) (snd : Sender) (r : Reply) : State :=
  { s with fp := { s.fp with slot := some ⟨r.status, c.code, snd.byte, r.payload⟩, work := none } }

end Sys2Proof.Machine
end

