-- ==== Sys2Proof/Machine/Flags.lean ====
section
/-! DEFINITION. Every flag computation: latching of conditions and events (R164 to R166), summaries and ATTN (R167), and
the status, enable and summary words of the readouts (10.8, Event sets). -/

namespace Sys2Proof.Machine

open Sys2Proof

/-! ### Latching -/

/-- A transition of a level condition: the new status, and its latch record created or counted up (R164). -/
def Cond.transition (c : Cond) (declared : Bool) : Cond :=
  { declared := declared,
    latch := match c.latch with
      | none => some ⟨1, declared⟩
      | some l => some { l with count := bump 255 l.count } }

/-- The owner's declaration or clearance: made only where it changes the condition (R164). -/
def Cond.drive (c : Cond) (declared : Bool) : Cond := if c.declared = declared then c else c.transition declared

/-- A status change that latches nothing (R164, R171, R172). -/
def Cond.put (c : Cond) (declared : Bool) : Cond := { c with declared := declared }

/-- A condition with its latch record deleted (R168, R172). -/
def Cond.unlatched (c : Cond) : Cond := { c with latch := none }

/-- A pure event: its latch record created, or counted up with the latest value (R165). -/
def latchEvent {α : Type} (l : Option (PureLatch α)) (value : α) : Option (PureLatch α) :=
  match l with
  | none => some ⟨1, value⟩
  | some l => some ⟨bump 255 l.count, value⟩

/-- One condition of a phaser group. -/
def PhConds.get (c : PhConds) : PhCond → Cond
  | .camLost => c.camLost
  | .trackErr => c.trackErr
  | .releaseHeld => c.releaseHeld
  | .limited => c.limited
  | .faulted => c.faulted
  | .drvOpen => c.drvOpen
  | .drvShort => c.drvShort
  | .drvHot => c.drvHot

/-- The conditions of a phaser group with one replaced. -/
def PhConds.set (c : PhConds) (e : PhCond) (x : Cond) : PhConds :=
  match e with
  | .camLost => { c with camLost := x }
  | .trackErr => { c with trackErr := x }
  | .releaseHeld => { c with releaseHeld := x }
  | .limited => { c with limited := x }
  | .faulted => { c with faulted := x }
  | .drvOpen => { c with drvOpen := x }
  | .drvShort => { c with drvShort := x }
  | .drvHot => { c with drvHot := x }

/-- The conditions of a phaser group, each changed by the same function. -/
def PhConds.map (f : Cond → Cond) (c : PhConds) : PhConds :=
  ⟨f c.camLost, f c.trackErr, f c.releaseHeld, f c.limited, f c.faulted, f c.drvOpen, f c.drvShort, f c.drvHot⟩

/-- One condition of DEV. -/
def DevGroup.get (d : DevGroup) : DevCond → Cond
  | .cycleSync => d.cycleSync
  | .engineStopped => d.engineStopped
  | .condStale => d.condStale

/-- DEV with one condition replaced. -/
def DevGroup.set (d : DevGroup) (e : DevCond) (x : Cond) : DevGroup :=
  match e with
  | .cycleSync => { d with cycleSync := x }
  | .engineStopped => { d with engineStopped := x }
  | .condStale => { d with condStale := x }

/-- Whether a condition of a phaser stands declared: the one home of CAM_LOST, TRACK_ERR, RELEASE_HELD, FAULTED and the
driver conditions (R86, R104, R149, R163; log 25). -/
def State.stands (s : State) (p : Phaser) (e : PhCond) : Bool := ((s.phGroup p).conds.get e).declared

/-- A phaser's condition declared or cleared by its owner (R164). -/
def State.drive (s : State) (p : Phaser) (e : PhCond) (declared : Bool) : State :=
  s.setPhGroup p { s.phGroup p with conds := (s.phGroup p).conds.set e (((s.phGroup p).conds.get e).drive declared) }

/-- A phaser's condition set without latching (R164, R172). -/
def State.put (s : State) (p : Phaser) (e : PhCond) (declared : Bool) : State :=
  s.setPhGroup p { s.phGroup p with conds := (s.phGroup p).conds.set e (((s.phGroup p).conds.get e).put declared) }

/-- A condition of DEV declared or cleared by its owner (R164). -/
def State.driveDev (s : State) (e : DevCond) (declared : Bool) : State :=
  s.setDev (s.cm.dev.set e ((s.cm.dev.get e).drive declared))

/-- EXPIRED latched with a handle (R25, R165). -/
def State.latchExpired (s : State) (p : Phaser) (h : Handle) : State :=
  s.setPhGroup p { s.phGroup p with expired := latchEvent (s.phGroup p).expired h }

/-- EDGE_OVERRUN latched (R88, R165). -/
def State.latchOverrun (s : State) (p : Phaser) : State :=
  s.setPhGroup p { s.phGroup p with overrun := latchEvent (s.phGroup p).overrun () }

/-- WINDOW_REJECT latched (R94, R165). -/
def State.latchReject (s : State) (p : Phaser) : State :=
  s.setPhGroup p { s.phGroup p with reject := latchEvent (s.phGroup p).reject () }

/-- SYNC_DOUBT latched (R76, R165). -/
def State.latchDoubt (s : State) : State :=
  s.setDev { s.cm.dev with syncDoubt := latchEvent s.cm.dev.syncDoubt () }

/-- FRAME_ERROR latched with the refusal status (R178, R165). -/
def State.latchFrameError (s : State) (st : Status) : State :=
  s.setDev { s.cm.dev with frameError := latchEvent s.cm.dev.frameError st }

/-- A phaser group with every latch record deleted (R168, R172). -/
def PhGroup.unlatched (g : PhGroup) : PhGroup :=
  { g with conds := g.conds.map Cond.unlatched, expired := none, overrun := none, reject := none }

/-- DEV with every latch record deleted (R168, R172). -/
def DevGroup.unlatched (d : DevGroup) : DevGroup :=
  { d with cycleSync := d.cycleSync.unlatched, engineStopped := d.engineStopped.unlatched,
           condStale := d.condStale.unlatched, syncDoubt := none, resetOccurred := none, frameError := none }

/-! ### Summaries and ATTN (R167) -/

/-- Which events of a phaser group are latched, in bit order (10.8, Event sets). -/
def PhGroup.latched (g : PhGroup) : List Bool :=
  [g.conds.camLost.latch.isSome, g.conds.trackErr.latch.isSome, g.conds.releaseHeld.latch.isSome,
   g.conds.limited.latch.isSome, g.conds.faulted.latch.isSome, g.conds.drvOpen.latch.isSome,
   g.conds.drvShort.latch.isSome, g.conds.drvHot.latch.isSome, g.expired.isSome, g.overrun.isSome, g.reject.isSome]

/-- Which events of DEV are latched, in bit order (10.8, Event sets). -/
def DevGroup.latched (d : DevGroup) : List Bool :=
  [d.cycleSync.latch.isSome, d.engineStopped.latch.isSome, d.condStale.latch.isSome, d.syncDoubt.isSome,
   d.resetOccurred.isSome, d.frameError.isSome]

/-- Some latched event, counted from bit `n`, has its enable on (R167). -/
def someEnabled (latched : List Bool) (enables : Half) (n : Nat) : Bool :=
  match latched with
  | [] => false
  | l :: rest => (l && enables.getLsbD n) || someEnabled rest enables (n + 1)

/-- The summary of a phaser group (R167). -/
def PhGroup.summary (g : PhGroup) : Bool := someEnabled g.latched g.enables 0

/-- The summary of DEV (R167). -/
def DevGroup.summary (d : DevGroup) : Bool := someEnabled d.latched d.enables 0

/-- ATTN is asserted: some group has its summary set and its group enable on (R167). -/
def State.attn (s : State) : Bool :=
  Phaser.list.any (fun p => (s.phGroup p).summary && (s.phGroup p).groupEnable) ||
    (s.cm.dev.summary && s.cm.dev.groupEnable)

/-! ### Words of the readouts (10.8) -/

/-- A byte with bit k set where the k-th entry holds, counted from bit 0. DESIGN CHOICE, log 47: a bit without an entry is 0. -/
def byteOfFlags (flags : List Bool) : Byte :=
  BitVec.ofNat 8 (flags.foldr (fun b n => b.toNat + 2 * n) 0)

/-- The condition status byte of a phaser group (10.8, Event sets). -/
def PhConds.statusByte (c : PhConds) : Byte :=
  byteOfFlags [c.camLost.declared, c.trackErr.declared, c.releaseHeld.declared, c.limited.declared,
    c.faulted.declared, c.drvOpen.declared, c.drvShort.declared, c.drvHot.declared]

/-- The condition status byte of DEV (10.8, Event sets); bits 3 to 7, which have no condition, are 0 (DESIGN CHOICE, log 47). -/
def DevGroup.statusByte (d : DevGroup) : Byte :=
  byteOfFlags [d.cycleSync.declared, d.engineStopped.declared, d.condStale.declared]

/-- The five summaries, bit g for group g (R168, 10.8); bits 5 to 7 are 0 (DESIGN CHOICE, log 47). -/
def State.summaryByte (s : State) : Byte :=
  byteOfFlags ((Phaser.list.map fun p => (s.phGroup p).summary) ++ [s.cm.dev.summary])

/-- The five group enables, bit g for group g (R168, 10.8); bits 5 to 7 are 0 (DESIGN CHOICE, log 47). -/
def State.groupEnableByte (s : State) : Byte :=
  byteOfFlags ((Phaser.list.map fun p => (s.phGroup p).groupEnable) ++ [s.cm.dev.groupEnable])

/-- The RELEASE_HELD cause byte (10.8, phaser readout byte 26); bits 4 to 7 are 0 (DESIGN CHOICE, log 47). -/
def HeldCauses.byte (h : HeldCauses) : Byte := byteOfFlags [h.stale, h.oilLow, h.oilCold, h.speedLow]

/-- The fault cause byte (10.8, phaser readout byte 27); bits 6 and 7 are 0 (DESIGN CHOICE, log 47). -/
def CauseSet.byte (c : CauseSet) : Byte :=
  byteOfFlags [c.drvOpen, c.drvShort, c.drvHot, c.camLost, c.trackErr, c.latchFail]

/-- The two bytes of a level condition in an event readout: count and first transition (10.8). Of a condition that is not
latched, 10.8 states the count 0; its first-transition byte is sent as 0 (DESIGN CHOICE, log 41). -/
def Cond.readout (c : Cond) : List Byte :=
  match c.latch with
  | none => [0#8, 0#8]
  | some l => [BitVec.ofNat 8 l.count, if l.firstDeclared then 0#8 else 1#8]

/-- The two bytes of a pure event in an event readout: count and 0 (10.8). -/
def eventReadout {α : Type} (l : Option (PureLatch α)) : List Byte :=
  match l with
  | none => [0#8, 0#8]
  | some l => [BitVec.ofNat 8 l.count, 0#8]

end Sys2Proof.Machine
end

