-- ==== Sys2Proof/Machine/Drivers.lean ====
section
/-! DEFINITION. The Valve Drivers: PWM periods, overcurrent, open-load checks, the thermal hold and the driver conditions
(R149 to R162). -/

namespace Sys2Proof.Machine

open Sys2Proof

/-- The condition of a driver cause. -/
def driverCond : DriverCause → PhCond
  | .drvOpen => .drvOpen
  | .drvShort => .drvShort
  | .drvHot => .drvHot

/-- A set of driver conditions with one added. DESIGN CHOICE, log 46: where a declaration of the condition waits for the Sequencer
already, a second one is taken with it. -/
def DriverSet.add (d : DriverSet) : DriverCause → DriverSet
  | .drvOpen => { d with drvOpen := true }
  | .drvShort => { d with drvShort := true }
  | .drvHot => { d with drvHot := true }

/-- A set of driver conditions with one taken out. -/
def DriverSet.remove (d : DriverSet) : DriverCause → DriverSet
  | .drvOpen => { d with drvOpen := false }
  | .drvShort => { d with drvShort := false }
  | .drvHot => { d with drvHot := false }

/-- Whether a set of driver conditions holds one. -/
def DriverSet.has (d : DriverSet) : DriverCause → Bool
  | .drvOpen => d.drvOpen
  | .drvShort => d.drvShort
  | .drvHot => d.drvHot

/-- The period length of a frequency, in ticks (R150). -/
def periodLength (f : Nat) : Nat := (roundDiv 8000000 f).toNat

/-- The on-time of a duty in a period of a length, in ticks (R151). -/
def onTime (duty length : Nat) : Nat := (roundDiv (duty * length : Nat) 10000).toNat

/-- The place of the present moment in the channel's period, at most its length (R149; log 21). -/
def Channel.position (c : Channel) (now : Tick) : Nat := min c.length (tickDiff now c.start)

/-- The output switched OFF for the rest of the period at a place in it; an output already OFF stays as it is (R151,
R153, R157, R158). A cut shortens the on-time and never lengthens it (R151), so the output is OFF from the end of its scheduled
on-time at the latest, and the open-load check of a scheduled off-time of 800 ticks is made (R155). -/
def Channel.cut (c : Channel) (position : Nat) : Channel :=
  if c.on then { c with on := false, offAt := min position (onTime c.active c.length) } else c

/-- Some driver condition of the output stands declared (R151). -/
def State.driverStands (s : State) (p : Phaser) : Bool :=
  s.stands p .drvShort || s.stands p .drvOpen || s.stands p .drvHot

/-- A driver condition declared: the output goes OFF at once, the declaration goes to the Monitor, and the Sequencer is
owed it; a condition already declared is left as it is (R158). -/
def declareDriver (p : Phaser) (d : DriverCause) (s : State) : State :=
  if s.stands p (driverCond d) then s
  else
    let s := s.drive p (driverCond d) true
    let s := s.setChannel p ((s.channel p).cut ((s.channel p).position s.counter))
    s.setPhaser p { s.phaser p with declared := (s.phaser p).declared.add d }

/-- A driver condition cleared, if it is declared (R158). -/
def clearDriver (p : Phaser) (d : DriverCause) (s : State) : State := s.drive p (driverCond d) false

/-- DRV_HOT brought to the thermal hold while the diagnostics are ACTIVE (R157). -/
def followHold (p : Phaser) (s : State) : State :=
  if (s.channel p).suspended then s
  else if (s.channel p).hold then declareDriver p .drvHot s
  else clearDriver p .drvHot s

/-- A period start is due: no period runs, and the tick at which the next one begins is not ahead (R150, R161; log 21). -/
def Channel.startDue (c : Channel) (now : Tick) : Bool := !c.running && decide (tickDiff now c.start < 8388608)

/-- The end of the scheduled on-time is due (R151). -/
def Channel.offDue (c : Channel) (now : Tick) : Bool :=
  c.running && c.on && decide (onTime c.active c.length < c.length ∧ onTime c.active c.length ≤ tickDiff now c.start)

/-- The end of the running period is due: the period runs to its end at the length it began with (R150). -/
def Channel.endDue (c : Channel) (now : Tick) : Bool := c.running && decide (c.length ≤ tickDiff now c.start)

/-- The channel at a period start with its active duty: the output is ON for the on-time from the start (R151). -/
def Channel.begin (c : Channel) (length duty : Nat) : Channel :=
  { c with length := length, running := true, active := duty,
           on := decide (0 < onTime duty length), conducted := decide (0 < onTime duty length), offAt := 0,
           ocPeriod := false }

/-- The channel after a period end: the next period begins where this one ends, without pause (R150). -/
def Channel.finish (c : Channel) : Channel := { c with running := false, start := c.start + BitVec.ofNat 24 c.length }

/-- The duty a channel takes at a period start: 0 under a thermal hold or a declared driver condition (R151). -/
def State.dutyTaken (s : State) (p : Phaser) : Nat :=
  if (s.channel p).hold || s.driverStands p then 0 else (s.channel p).commanded

/-- The period start of a channel at its tick (R150, R151, R157). -/
def periodStartAt (p : Phaser) (s : State) : State :=
  if (s.channel p).startDue s.counter then
    let s := followHold p s
    s.setChannel p ((s.channel p).begin (periodLength s.vd.frequency) (s.dutyTaken p))
  else s

/-- The end of the scheduled on-time at its tick: the output goes OFF for the rest of the period (R151). -/
def Channel.endOn (c : Channel) (now : Tick) : Channel :=
  if c.offDue now then { c with on := false, offAt := onTime c.active c.length } else c

/-- The place since which the output has been OFF when the period ends (R155). -/
def Channel.offSince (c : Channel) : Nat := if c.on then c.length else c.offAt

/-- An open-load check is made: the output was OFF for at least the last 800 ticks of the period (R155). -/
def Channel.checked (c : Channel) : Bool := decide (c.offSince + 800 ≤ c.length)

/-- The overcurrent count at a period end (R153). -/
def Channel.judgeOvercurrent (c : Channel) : Channel :=
  if c.ocPeriod then { c with ocCount := c.ocCount + 1 }
  else if c.conducted then { c with ocCount := 0 }
  else c

/-- The open-fail and open-pass counts after an open-load check (R155). -/
def Channel.judgeOpenLoad (c : Channel) (loadSeen : Bool) : Channel :=
  if loadSeen then { c with openFail := 0, openPass := bump 4 c.openPass }
  else { c with openFail := bump 4 c.openFail, openPass := 0 }

/-- The overcurrent part of a period end: a count of 3 declares DRV_SHORT and is set to 0 (R153). -/
def judgeShort (p : Phaser) (s : State) : State :=
  let c := (s.channel p).judgeOvercurrent
  if c.ocCount ≥ 3 then declareDriver p .drvShort (s.setChannel p { c with ocCount := 0 })
  else s.setChannel p c

/-- The open-load part of a period end: DRV_OPEN after four failing checks, cleared after four passing ones (R155,
R156). -/
def judgeOpen (p : Phaser) (loadSeen : Bool) (s : State) : State :=
  if (s.channel p).checked then
    let s := s.setChannel p ((s.channel p).judgeOpenLoad loadSeen)
    if loadSeen then
      if (s.channel p).openPass = 4 then clearDriver p .drvOpen s else s
    else
      if (s.channel p).openFail = 4 then declareDriver p .drvOpen s else s
  else s

/-- One more period end counted, for the free value of the next load check (log 22). -/
def State.countSense (s : State) : State := { s with vd := { s.vd with senses := s.vd.senses + 1 } }

/-- The period end of a channel at its tick; the scheduled on-time is over by then, and suspended diagnostics judge nothing
(R150, R151, R153, R155, R159). -/
def periodEndAt (p : Phaser) (loadSeen : Bool) (s : State) : State :=
  if (s.channel p).endDue s.counter then
    let s := (s.setChannel p ((s.channel p).endOn s.counter)).countSense
    let s := if (s.channel p).suspended then s else judgeShort p (judgeOpen p loadSeen s)
    s.setChannel p (s.channel p).finish
  else s

/-- An overcurrent of a channel: while the output is ON, it goes OFF for the rest of the period, which is marked (R153). -/
def Channel.overcurrent (c : Channel) (now : Tick) : Channel :=
  if c.on then { c.cut (c.position now) with ocPeriod := true } else c

/-- An overcurrent, detected while the output is ON (R153). An output that a full duty has kept ON past a period end is within
the next period already, since periods follow without pause (R150), so the owed period start is taken first (log 31). -/
def overcurrentAt (p : Phaser) (s : State) : State :=
  if (s.channel p).on then
    let s := periodStartAt p s
    s.setChannel p ((s.channel p).overcurrent s.counter)
  else s

/-- The diagnostics of a channel suspended, each count set to 0 (R159). -/
def Channel.suspend (c : Channel) : Channel :=
  { c with suspended := true, ocCount := 0, openFail := 0, openPass := 0 }

/-- The diagnostics of a channel ACTIVE again (R159). -/
def Channel.resume (c : Channel) : Channel := { c with suspended := false }

/-- A CLEAR_FAULT that is taken clears DRV_SHORT of the output and its overcurrent count; the declaration is no longer
owed (R121, R154; log 18). DESIGN CHOICE, log 45: the count is set to 0 also where DRV_SHORT is not declared. -/
def clearShort (p : Phaser) (s : State) : State :=
  let s := clearDriver p .drvShort s
  let s := s.setChannel p { s.channel p with ocCount := 0 }
  s.setPhaser p { s.phaser p with declared := (s.phaser p).declared.remove .drvShort }

/-- PERIOD_START (R151). -/
def execPeriodStart (p : Phaser) (s : State) : Result := .next (periodStartAt p s)

/-- END_OF_ON_TIME (R151). -/
def execEndOfOnTime (p : Phaser) (s : State) : Result := .next (s.setChannel p ((s.channel p).endOn s.counter))

/-- PERIOD_END (R153, R155). -/
def execPeriodEnd (p : Phaser) (loadSeen : Bool) (s : State) : Result := .next (periodEndAt p loadSeen s)

/-- OVERCURRENT (R153). -/
def execOvercurrent (p : Phaser) (s : State) : Result := .next (overcurrentAt p s)

/-- THERMAL_HOLD_SET: the hold acts in any diagnostics state; DRV_HOT follows it while they are ACTIVE (R157, R159). DESIGN
CHOICE, log 40: with the hold already set and DRV_HOT clear, DRV_HOT is declared by this event, not only at the next period
start. -/
def execThermalHoldSet (p : Phaser) (s : State) : Result :=
  let c := s.channel p
  .next (followHold p (s.setChannel p { c.cut (c.position s.counter) with hold := true }))

/-- THERMAL_HOLD_CLEAR (R157, R159). DESIGN CHOICE, log 40: with the hold already clear and DRV_HOT still declared, DRV_HOT is
cleared by this event, not only at the next period start. -/
def execThermalHoldClear (p : Phaser) (s : State) : Result :=
  .next (followHold p (s.setChannel p { s.channel p with hold := false }))

end Sys2Proof.Machine
end

