-- ==== Sys2Proof/Machine/Loop.lean ====
section
/-! DEFINITION. The arithmetic of the Loop Unit, stage by stage (R133 to R140), and what TRACKING entry and departure do to
the loop record (R142, R143). -/

namespace Sys2Proof.Machine

open Sys2Proof

/-- Stage 1: the elapsed time in µs since the last step, capped at 16,000 (R133). -/
def elapsed (stepAge : Option Nat) (lastStep : Option Tick) (now : Tick) : Nat :=
  if stepAge = some 17 then 16000
  else min 16000 (tickDiff now (lastStep.getD now) / 8)

/-- Stage 2: the ramp target moved toward the effective target (R134). -/
def rampStep (r target : Int) (slew elapsed : Nat) : Int :=
  if slew = 0 then target
  else
    let step : Int := max 1 (slew * elapsed / 1000 : Nat)
    if target - r ≤ step ∧ r - target ≤ step then target
    else if r < target then r + step
    else r - step

/-- Stage 3: the error, saturated to 16 bits (R135). -/
def loopError (r phase : Int) : Int := clampInt (-32768) 32767 (r - phase)

/-- Stage 4: the proportional term (R136). -/
def proportional (kp : Nat) (e : Int) : Int := clampInt (-10000) 10000 (roundDiv (kp * e) 256)

/-- Stage 5: the integral increment, from the whole quarter-milliseconds of the elapsed time (R137). -/
def increment (ki : Nat) (e : Int) (elapsed : Nat) : Int := roundDiv (ki * e * (min 64 (elapsed / 250) : Nat)) 64

/-- Stage 6: the integrator with its anti-windup (R138). -/
def integrate (q : LoopParams) (p e inc i : Int) : Int :=
  let pre := (q.nd : Int) + p + roundDiv i 256
  if (q.dmax : Int) ≤ pre ∧ 0 < e then i
  else if pre ≤ (q.dmin : Int) ∧ e < 0 then i
  else clampInt (-(q.ilim * 256 : Nat)) (q.ilim * 256 : Nat) (i + inc)

/-- Stage 7: the loop output of an unclamped sum, and SAT (R139). -/
def loopOutput (q : LoopParams) (sum : Int) : Nat × Sat :=
  if (q.dmax : Int) ≤ sum then (q.dmax, .upper)
  else if sum ≤ (q.dmin : Int) then (q.dmin, .lower)
  else (sum.toNat, .none)

/-- The battery voltage the Sequencer hands the loop: the stored report while it is fresh, 13,500 mV while it is stale
(R105, R107). -/
def handedBattery (c : EngineCond) : Nat := if c.fresh then c.battery else Config.nominalBattery

/-- The last stage: the duty compensated for battery voltage, the voltage clamped to 8,000 to 18,000 mV (R140). -/
def compensate (u battery : Nat) : Nat :=
  min 10000 (roundDiv (u * 13500 : Nat) (clampNat 8000 18000 battery)).toNat

/-- The loop record and the duty after a control step on a measured phase, with the inputs as they stand (R133 to
R141). -/
def loopStep (l : Loop) (target : Int) (slew battery : Nat) (now : Tick) (phase : Int) : Loop × Nat :=
  let e := elapsed l.stepAge l.lastStep now
  let r := rampStep l.ramp target slew e
  let err := loopError r phase
  let p := proportional l.params.kp err
  let i := integrate l.params p err (increment l.params.ki err e) l.integrator
  let out := loopOutput l.params (l.params.nd + p + roundDiv i 256)
  ({ l with ramp := r, integrator := i, lastStep := some now, stepAge := some 0, output := out.1, sat := out.2 },
   compensate out.1 battery)

/-- The loop record and the duty on TRACKING entry: the ramp target from the last measurement, or 0, clamped to the
authority window; the output a step would give with no proportional or integral part (R114, R142). -/
def loopEntry (l : Loop) (amin amax : Int) (last : Option Measurement) (battery : Nat) (now : Tick) : Loop × Nat :=
  let out := loopOutput l.params l.params.nd
  let phase := match last with
    | some m => m.phase
    | none => 0
  ({ l with ramp := clampInt amin amax phase, integrator := 0, lastStep := some now, stepAge := some 0,
            output := out.1, sat := out.2 },
   compensate out.1 battery)

/-- The loop record on a departure: the integrator 0, no last step time, the step age stopped, and every measurement delivered
and not stepped on discarded, so that the first step after the next entry is at the next valid measurement (R114, R118, R132,
R142, R143). -/
def Loop.departed (l : Loop) : Loop := { l with integrator := 0, lastStep := none, stepAge := none, delivered := [] }

end Sys2Proof.Machine
end

