-- ==== Sys2Proof/Machine/Operands.lean ====
section
/-! DEFINITION. Every operand form of the commands: keys, contents and groups as frames carry them (R7, R180, 10.8), and
the encodings of the same things in responses. -/

namespace Sys2Proof.Machine

open Sys2Proof

/-- The key a frame carries, `none` when its phaser, class or kind is outside its set (R11, R21). -/
def readKey (k : KeyField) : Option Key :=
  match phaserOfByte k.phaser, Cls.ofByte k.cls, Kind.ofByte k.kind with
  | some p, some c, some d => some ⟨p, c, d⟩
  | _, _, _ => none

/-- The value that carries PARK in a frame (00_scope.md, Units). -/
def parkWord : Int := -32768

/-- A target field: PARK, or −5,760 to 5,759; refused otherwise (R7). -/
def readTarget (h : Half) : Option Target :=
  if h.toInt = parkWord then some .park
  else if -5760 ≤ h.toInt ∧ h.toInt ≤ 5759 then some (.au h.toInt)
  else none

/-- A no or yes field; refused otherwise (R7). -/
def readFlag (b : Byte) : Option Bool :=
  if b = 0#8 then some false else if b = 1#8 then some true else none

/-- The content a frame carries, by the kind, checked field by field; `none` is the refusal BAD_FIELD (R7). A slew above
4,000 is stored as 4,000. -/
def readContent (k : Kind) (c : ContentField) : Option Content :=
  match k with
  | .setpoint =>
    match readTarget c.w0, readFlag c.flag with
    | some t, some f => some (.setpoint t (min 4000 c.w1.toNat) f c.keepAlive.toNat)
    | _, _ => none
  | .trim =>
    if -2048 ≤ c.w0.toInt ∧ c.w0.toInt ≤ 2047 then some (.trim c.w0.toInt c.keepAlive.toNat) else none
  | .limit =>
    if -5760 ≤ c.w0.toInt ∧ c.w1.toInt ≤ 5759 ∧ c.w0.toInt ≤ c.w1.toInt then
      some (.limit c.w0.toInt c.w1.toInt c.keepAlive.toNat)
    else none

/-- The groups of an APPLY selection, FRONT then REAR: 1 FRONT, 2 REAR, 3 both; refused otherwise (R36, 10.8). -/
def readSelection (b : Byte) : Option (Bool × Bool) :=
  if b = 1#8 then some (true, false)
  else if b = 2#8 then some (false, true)
  else if b = 3#8 then some (true, true)
  else none

/-- A group index of the Monitor: `some p` for PH0 to PH3, `none` for DEV (R168, 10.8). -/
def readGroup (b : Byte) : Option (Option Phaser) :=
  if b = 4#8 then some none else (phaserOfByte b).map some

/-! ### Encodings (10.8) -/

/-- A target as a frame carries it. -/
def Target.half : Target → Half
  | .park => BitVec.ofInt 16 parkWord
  | .au v => BitVec.ofInt 16 v

/-- The six content bytes of a readout, zeros when the content is absent. -/
def contentBytes : Option Content → List Byte
  | none => [0#8, 0#8, 0#8, 0#8, 0#8, 0#8]
  | some (.setpoint t slew f k) =>
    halfBytes t.half ++ halfBytes (BitVec.ofNat 16 slew) ++ [if f then 1#8 else 0#8, BitVec.ofNat 8 k]
  | some (.trim o k) => halfBytes (BitVec.ofInt 16 o) ++ [0#8, 0#8, 0#8, BitVec.ofNat 8 k]
  | some (.limit lo hi k) =>
    halfBytes (BitVec.ofInt 16 lo) ++ halfBytes (BitVec.ofInt 16 hi) ++ [0#8, BitVec.ofNat 8 k]

/-- The three key bytes of a readout. -/
def Key.bytes (k : Key) : List Byte :=
  [BitVec.ofNat 8 k.phaser.index, BitVec.ofNat 8 k.cls.rank, BitVec.ofNat 8 k.kind.code]

/-- A handle or 0xFF 0xFF for none. -/
def handleBytes : Option Handle → List Byte
  | none => [0xFF#8, 0xFF#8]
  | some h => h.bytes

/-- The phaser state byte. -/
def PhaserState.byte : PhaserState → Byte
  | .stopped => 0#8
  | .parked => 1#8
  | .releasing => 2#8
  | .tracking => 3#8
  | .returning => 4#8
  | .latching => 5#8
  | .faulted => 6#8
  | .off => 7#8

/-- The disposition byte. -/
def Disposition.byte : Disposition → Byte
  | .setpoint _ => 0#8
  | .hold _ _ => 1#8
  | .parkDefault => 2#8

/-- The SAT byte. -/
def Sat.byte : Sat → Byte
  | .none => 0#8
  | .upper => 1#8
  | .lower => 2#8

/-- The sync state byte. -/
def Sync.byte : Sync → Byte
  | .stopped => 0#8
  | .seeking => 1#8
  | .crankSync => 2#8
  | .cycleSync => 3#8

/-- The reset kind byte. -/
def ResetKind.byte : ResetKind → Byte
  | .power => 0#8
  | .pin => 1#8
  | .soft => 2#8

/-- A flag byte. -/
def flagByte (b : Bool) : Byte := if b then 1#8 else 0#8

end Sys2Proof.Machine
end

