-- ==== Sys2Proof/Machine/Port.lean ====
section
/-! DEFINITION. The Frame Port: the two edges of CS, the frame check's outcome, the taking of a command by its owner, and
NOP (R174 to R180). -/

namespace Sys2Proof.Machine

open Sys2Proof

/-- The bytes of a response frame on SDO: status, code, byte 1, length, payload, CRC (R179). -/
def Response.frame (r : Response) : List Byte :=
  (r.status.byte :: r.code :: r.byte1 :: BitVec.ofNat 8 r.payload.length :: r.payload) ++
    [crc8 (r.status.byte :: r.code :: r.byte1 :: BitVec.ofNat 8 r.payload.length :: r.payload)]

/-- Byte k that SDO sends in a transaction: the frame, then 0x00 (R176, R179). -/
def Response.sdoByte (r : Response) (k : Nat) : Byte := r.frame.getD k 0#8

/-- The NOT_READY frame (R176). -/
def notReady : Response := ⟨.notReady, 0#8, 0#8, []⟩

/-- READY: no command is in hand (R176, R177). -/
def Port.ready (f : Port) : Bool := f.work.isNone

/-- The CS fall begins a transaction by the port's readiness (R176). -/
def Port.csFall (f : Port) : Port :=
  match f.transaction with
  | .idle =>
    if f.ready then { f with transaction := .active true (f.slot.getD notReady), slot := none }
    else { f with transaction := .active false notReady }
  | _ => f

/-- A frame that fails a check: answered with the status, the code byte and byte 1 as received, and no payload;
FRAME_ERROR is latched in DEV; the port is READY (R178). -/
def rejectFrame (s : State) (st : Status) (code byte1 : Byte) : State :=
  { s with fp := { s.fp with slot := some ⟨st, code, byte1, []⟩, work := none } }.latchFrameError st

/-- The end of a transaction begun READY: the frame is checked; one that passes is in hand and the port is BUSY, one
that fails is answered at once (R177, R178). -/
def endFrame (bytes : List Byte) (s : State) : State :=
  match checkFrame bytes with
  | .good i => { s with fp := { s.fp with work := some i } }
  | .bad st => rejectFrame s st (bytes.getD 0 0#8) (bytes.getD 1 0#8)

/-- The CS rise: a transaction begun READY ends with the frame check; one begun BUSY is ignored; the rise after a reset
that found CS low ends no transaction (R176, R177, R184). -/
def csRise (bytes : List Byte) (s : State) : State :=
  match s.fp.transaction with
  | .active true _ => endFrame bytes { s with fp := { s.fp with transaction := .idle } }
  | .active false _ => { s with fp := { s.fp with transaction := .idle } }
  | .abandoned => { s with fp := { s.fp with transaction := .idle } }
  | .idle => s

/-- An owner takes a command: the port has no other command in hand, and the issuer class has passed the port's check.
The owner's answer becomes the pending response and the port is READY. A command while another one is in hand is that
of a transaction begun BUSY and is ignored (R176, R177, R180; log 10). Only the command in hand is tested: a command placed while
CS is low and none is in hand is taken as well, whatever the transaction (DESIGN CHOICE, log 10). An issuer class outside 1 to 5
never reaches the owner and is answered BAD_FRAME (R178). -/
def takeCommand (i : Instr) (c : Command) (snd : Sender) (owner : State → State × Reply) (s : State) : State :=
  if s.fp.work = none ∨ s.fp.work = some i then
    if snd.valid then
      let r := owner s
      r.1.respond c snd r.2
    else rejectFrame s .badFrame c.code snd.byte
  else s

/-- TRANSACTION_START (R176). -/
def execTransactionStart (s : State) : Result := .next { s with fp := s.fp.csFall }

/-- TRANSACTION_END (R177). -/
def execTransactionEnd (sdi : List Bool) (s : State) : Result := .next (csRise (bytesOfBits sdi) s)

/-- NOP is answered OK with no payload and changes nothing (R180). -/
def execNop (snd : Sender) (s : State) : Result :=
  .next (takeCommand (.nop snd) .nop snd (fun t => (t, Reply.yes [])) s)

end Sys2Proof.Machine
end

