-- ==== Sys2Proof/Machine/Sequencer.lean ====
section
/-! DEFINITION. The Phaser Sequencer: release permission, the eight states, faults, enabling, stop and restart, and its
commands and timers (R104 to R129). -/

namespace Sys2Proof.Machine

open Sys2Proof

/-! ### Permission (R107 to R110) -/

/-- The phaser's effective target is numeric. -/
def State.numeric (s : State) (p : Phaser) : Bool :=
  match (s.resolver p).record.target with
  | .au _ => true
  | .park => false

/-- Oil pressure counts as OK: reported OK and fresh (R107). -/
def State.oilCounts (s : State) : Bool := s.ps.cond.fresh && s.ps.cond.oilOk

/-- The checks of release permission that fail, the sync check apart (R108). -/
def State.failing (s : State) : HeldCauses :=
  { stale := !s.ps.cond.fresh,
    oilLow := !s.oilCounts,
    oilCold := decide (s.ps.cond.temperature < s.ps.params.releaseTemp),
    speedLow := decide (s.ad.speed < s.ps.params.releaseSpeed) }

/-- Release permission (R108). -/
def State.permission (s : State) : Bool := decide (s.ad.sync = .cycleSync ∧ s.failing = HeldCauses.empty)

/-- Release permission is withdrawn (R109). -/
def State.withdrawn (s : State) : Bool :=
  !s.ps.cond.fresh || !s.oilCounts || decide (s.ad.speed + s.ps.params.hysteresis < s.ps.params.releaseSpeed)

/-- The three conditions under which RELEASE_HELD holds (R110). -/
def State.holds (s : State) (p : Phaser) : Bool :=
  s.numeric p && !s.permission &&
    decide ((s.phaser p).state = .parked ∨ (s.phaser p).state = .returning ∨ (s.phaser p).state = .latching)

/-- RELEASE_HELD and its cause list brought to the present state, at an evaluation (R110). MODEL'S CHOICE, log 36: while the
condition is clear the list is empty; the manual states the list only while it holds. MODEL'S CHOICE, log 38: the three conditions
decide alone, so at an evaluation between a departure from CYCLE_SYNC and its handling, where the sync check can be the only one
that fails, RELEASE_HELD is declared or kept with an empty list. -/
def updateHeld (p : Phaser) (s : State) : State :=
  (s.setPhaser p { s.phaser p with held := if s.holds p then s.failing else HeldCauses.empty }).drive p .releaseHeld
    (s.holds p)

/-! ### Changes of state (R104, R105, R118) -/

/-- The duty of a state entered; TRACKING's is set by its entry (R105). -/
def State.stateDuty (s : State) : PhaserState → Nat
  | .releasing => s.ps.params.releaseDuty
  | _ => 0

/-- What leaving the present state does: a departure from RELEASING or TRACKING is handed to the Loop Unit; leaving
TRACKING stops the over-band time and clears TRACK_ERR (R118, R143). -/
def leaveState (p : Phaser) (s : State) : State :=
  match (s.phaser p).state with
  | .tracking =>
    let s := s.setLoop p (s.loop p).departed
    let s := s.setPhaser p { s.phaser p with overBand := none, trackDue := false, faultDue := false }
    s.drive p .trackErr false
  | .releasing => s.setLoop p (s.loop p).departed
  | _ => s

/-- A change of state: the running state timer is cancelled before the new one starts, and the duty of the new state is
commanded in the same event (R104, R105). -/
def moveTo (p : Phaser) (st : PhaserState) (timer : Option Nat) (s : State) : State :=
  let s := leaveState p s
  let s := s.setPhaser p { s.phaser p with state := st, timer := timer }
  s.setCommanded p (s.stateDuty st)

/-- TRACKING entered: the over-band time starts not running, and the loop record and the commanded duty are set in the event of
the entry (R114, R142). -/
def moveToTracking (p : Phaser) (s : State) : State :=
  let s := moveTo p .tracking none s
  let s := s.setPhaser p { s.phaser p with overBand := none, trackDue := false, faultDue := false }
  let e := loopEntry (s.loop p) (s.resolver p).amin (s.resolver p).amax (s.cam p).last (handedBattery s.ps.cond)
    s.counter
  (s.setLoop p e.1).setCommanded p e.2

/-! ### Faults (R119, R120) -/

/-- The union of two cause sets. -/
def CauseSet.union (a b : CauseSet) : CauseSet :=
  ⟨a.drvOpen || b.drvOpen, a.drvShort || b.drvShort, a.drvHot || b.drvHot, a.camLost || b.camLost,
   a.trackErr || b.trackErr, a.latchFail || b.latchFail⟩

/-- The cause set of one driver condition. -/
def driverCause : DriverCause → CauseSet
  | .drvOpen => { CauseSet.empty with drvOpen := true }
  | .drvShort => { CauseSet.empty with drvShort := true }
  | .drvHot => { CauseSet.empty with drvHot := true }

/-- CAM_LOST faults a phaser in this state (R119). -/
def camFaults (st : PhaserState) : Bool :=
  match st with
  | .releasing | .tracking | .returning => true
  | _ => false

/-- The conditions that stand declared and would cause fault entry from a state (R119). -/
def State.standing (s : State) (p : Phaser) (st : PhaserState) : CauseSet :=
  { CauseSet.empty with
    drvOpen := s.stands p .drvOpen, drvShort := s.stands p .drvShort, drvHot := s.stands p .drvHot,
    camLost := s.stands p .camLost && camFaults st }

/-- Fault entry with the entering causes and every other cause that stands declared and would cause entry from the state
left; FAULTED is declared (R119). -/
def faultEntry (p : Phaser) (entering : CauseSet) (s : State) : State :=
  let causes := entering.union (s.standing p (s.phaser p).state)
  let s := moveTo p .faulted none s
  (s.setPhaser p { s.phaser p with causes := causes }).drive p .faulted true

/-- A cause added to the set of a FAULTED phaser; nothing else changes (R120). -/
def addCause (p : Phaser) (c : CauseSet) (s : State) : State :=
  s.setPhaser p { s.phaser p with causes := (s.phaser p).causes.union c }

/-- Fault entry at the moment a phaser enters a state in which a standing condition faults it (R119). -/
def faultStanding (p : Phaser) (s : State) : State :=
  match (s.phaser p).state with
  | .off | .faulted => s
  | st => if s.standing p st = CauseSet.empty then s else faultEntry p CauseSet.empty s

/-! ### The over-band events (R115, R127) -/

/-- The over-band time has been found at the track time: TRACK_ERR is declared (R115). -/
def declareTrackErr (p : Phaser) (s : State) : State :=
  if (s.phaser p).trackDue then (s.setPhaser p { s.phaser p with trackDue := false }).drive p .trackErr true
  else s

/-- What the over-band time has been found to cause at the last advance, in one event: TRACK_ERR declared at the track time;
at the fault time the phaser FAULTED, with TRACK_ERR declared before and cleared by the move where both fell due (R115, R119,
R127). Every event that moves a TRACKING phaser, steps its loop or measures it takes this first, since the advance has already
been taken (R115, R141; log 9). -/
def overBandEvent (p : Phaser) (s : State) : State :=
  if (s.phaser p).state = .tracking then
    if (s.phaser p).faultDue then
      updateHeld p (faultEntry p { CauseSet.empty with trackErr := true } (declareTrackErr p s))
    else declareTrackErr p s
  else s

/-! ### Entries to the states, with the checks made on entry (R111 to R117) -/

/-- R111. -/
def enterStopped (p : Phaser) (s : State) : State := faultStanding p (moveTo p .stopped none s)

/-- R113. -/
def enterReleasing (p : Phaser) (s : State) : State :=
  faultStanding p (moveTo p .releasing (some s.ps.params.releaseInterval) s)

/-- R114. -/
def enterTracking (p : Phaser) (s : State) : State := faultStanding p (moveToTracking p s)

/-- R116. -/
def enterLatching (p : Phaser) (s : State) : State :=
  faultStanding p (moveTo p .latching (some s.ps.params.latchInterval) s)

/-- The release check of a PARKED phaser (R112). -/
def checkParked (p : Phaser) (s : State) : State :=
  if (s.phaser p).state = .parked ∧ s.numeric p ∧ s.permission then enterReleasing p s else s

/-- The check of a RETURNING phaser (R117). -/
def checkReturning (p : Phaser) (s : State) : State :=
  if (s.phaser p).state = .returning ∧ s.numeric p ∧ s.permission then enterTracking p s else s

/-- R112. -/
def enterParked (p : Phaser) (s : State) : State := checkParked p (faultStanding p (moveTo p .parked none s))

/-- R116, R117. A standing condition faults the phaser before the check of R117 (log 17). -/
def enterReturning (p : Phaser) (s : State) : State :=
  checkReturning p (faultStanding p (moveTo p .returning (some s.ps.params.returnTimeout) s))

/-! ### Evaluations, measurements, targets (R108 to R117) -/

/-- The evaluation of one phaser by its state (R108, R109, R110). -/
def evaluateNow (p : Phaser) (s : State) : State :=
  updateHeld p <|
    match (s.phaser p).state with
    | .parked => checkParked p s
    | .returning => checkReturning p s
    | .releasing | .tracking => if s.withdrawn then enterReturning p s else s
    | _ => s

/-- An evaluation of release permission and withdrawal for one phaser (R108, R109, R110). -/
def evaluate (p : Phaser) (s : State) : State := evaluateNow p (overBandEvent p s)

/-- An evaluation for all four phasers (R106, R107, R108). -/
def evaluateAll (s : State) : State := evaluate .re (evaluate .ri (evaluate .fe (evaluate .fi s)))

/-- A measurement within the home band (R111, R116). -/
def inHomeBand (s : State) (phase : Int) : Bool := decide (phase.natAbs ≤ s.ps.params.homeBand)

/-- What the Sequencer does with a measurement delivered to it (R111, R116, R117). -/
def measured (p : Phaser) (phase : Int) (s : State) : State :=
  match (s.phaser p).state with
  | .stopped => updateHeld p (if inHomeBand s phase then enterParked p s else enterReturning p s)
  | .returning =>
    updateHeld p <|
      if s.numeric p ∧ s.permission then enterTracking p s
      else if inHomeBand s phase then enterLatching p s
      else s
  | _ => s

/-- What the Sequencer does with an effective target handed on by the Resolver, which was `was` before (R60, R108, R112, R113, R115,
R117). PARK sends a RELEASING or TRACKING phaser home, and a numeric target leaves one as it is. In any other state a numeric
target in place of PARK is an evaluation, a target handed on unchanged causes nothing, and otherwise RELEASE_HELD follows its three
conditions (R110). DESIGN CHOICE, log 35: a change from one numeric value to another moves no phaser (R60), though R108 evaluates at
every change of the effective target; of that evaluation only RELEASE_HELD and its list are taken. -/
def targetHandled (p : Phaser) (was : Target) (s : State) : State :=
  match s.numeric p, (s.phaser p).state with
  | false, .releasing | false, .tracking => updateHeld p (enterReturning p s)
  | true, .releasing | true, .tracking => s
  | _, _ =>
    if (s.resolver p).record.target = was then s
    else if was = .park then evaluateNow p s
    else updateHeld p s

/-- CAM_LOST declared: it faults a phaser that is RELEASING, TRACKING or RETURNING, and is added to the set of a FAULTED
one (R97, R119, R120). -/
def camLostDeclared (p : Phaser) (s : State) : State :=
  let s := (overBandEvent p s).drive p .camLost true
  let cause := { CauseSet.empty with camLost := true }
  match (s.phaser p).state with
  | .releasing | .tracking | .returning => updateHeld p (faultEntry p cause s)
  | .faulted => addCause p cause s
  | _ => s

/-- The departure from CYCLE_SYNC for one phaser: any state but OFF and FAULTED goes to STOPPED (R124). -/
def stopPhaser (p : Phaser) (s : State) : State :=
  let s := overBandEvent p s
  match (s.phaser p).state with
  | .off | .faulted | .stopped => s
  | _ => updateHeld p (enterStopped p s)

/-- The Sequencer's handling of a departure from CYCLE_SYNC, one event for all four phasers (R124). -/
def handleDeparture (s : State) : State :=
  if s.ps.departed then
    let s := stopPhaser .re (stopPhaser .ri (stopPhaser .fe (stopPhaser .fi s)))
    { s with ps := { s.ps with departed := false } }
  else s

/-! ### Commands -/

/-- The report of REPORT_CONDITIONS taken (R106). -/
def takeReport (ok : Bool) (temperature : Int) (battery : Nat) (s : State) : State :=
  let s := { s with ps := { s.ps with
    cond := { oilOk := ok, temperature := clampInt (-40) 150 temperature, battery := clampNat 6000 20000 battery,
              fresh := true, timer := some s.ps.params.freshnessTime } } }
  evaluateAll (s.driveDev .condStale false)

/-- The payload of a report's response: the three stored values (R106, 10.8). -/
def reportPayload (s : State) : List Byte :=
  flagByte s.ps.cond.oilOk :: halfBytes (BitVec.ofInt 16 s.ps.cond.temperature) ++
    halfBytes (BitVec.ofNat 16 s.ps.cond.battery)

/-- R106. -/
def ownReport (oil : Byte) (temperature battery : Half) (s : State) : State × Reply :=
  match readFlag oil with
  | none => (s, Reply.no .badField)
  | some ok =>
    let t := takeReport ok temperature.toInt battery.toNat s
    (t, Reply.yes (reportPayload t))

/-- A phaser moved to OFF from any state (R122). -/
def disable (p : Phaser) (s : State) : State :=
  if (s.phaser p).state = .off then s
  else
    let s := moveTo p .off none (overBandEvent p s)
    let s := s.setPhaser p { s.phaser p with enable := false, causes := CauseSet.empty }
    let s := (updateHeld p s).drive p .faulted false
    s.setChannel p (s.channel p).suspend

/-- An OFF phaser moved to STOPPED (R123). -/
def enable (p : Phaser) (s : State) : State :=
  if (s.phaser p).state = .off then
    let s := s.setPhaser p { s.phaser p with enable := true }
    let s := s.setChannel p (s.channel p).resume
    updateHeld p (enterStopped p s)
  else s

/-- R122, R123. -/
def ownEnable (phaser setting : Byte) (s : State) : State × Reply :=
  match phaserOfByte phaser, readFlag setting with
  | some p, some on =>
    let t := if on then enable p s else disable p s
    (t, Reply.yes [(t.phaser p).state.byte])
  | _, _ => (s, Reply.no .badField)

/-- A condition that blocks CLEAR_FAULT stands declared (R121). -/
def State.blocked (s : State) (p : Phaser) : Bool :=
  s.stands p .camLost || s.stands p .drvOpen || s.stands p .drvHot

/-- A CLEAR_FAULT taken: the set is emptied, FAULTED and a declared DRV_SHORT are cleared, and the phaser goes to
STOPPED or RETURNING (R121, R154). -/
def clearFaulted (p : Phaser) (s : State) : State :=
  let s := s.setPhaser p { s.phaser p with causes := CauseSet.empty }
  let s := clearShort p (s.drive p .faulted false)
  updateHeld p (if s.ad.sync = .cycleSync then enterReturning p s else enterStopped p s)

/-- R121. The state answered is the one the clear leads into (log 33). -/
def ownClear (phaser : Byte) (s : State) : State × Reply :=
  match phaserOfByte phaser with
  | none => (s, Reply.no .badField)
  | some p =>
    if (s.phaser p).state = .faulted then
      if s.blocked p then (s, Reply.no .stillPresent)
      else
        (clearFaulted p s,
         Reply.yes [(if s.ad.sync = .cycleSync then PhaserState.returning else PhaserState.stopped).byte])
    else (s, Reply.no .notFaulted)

/-- REPORT_CONDITIONS (R106). -/
def execReportConditions (snd : Sender) (oil : Byte) (temperature battery : Half) (s : State) : Result :=
  .next (takeCommand (.reportConditions snd oil temperature battery) .reportConditions snd
    (ownReport oil temperature battery) s)

/-- ENABLE_PHASER (R122, R123). -/
def execEnablePhaser (snd : Sender) (phaser setting : Byte) (s : State) : Result :=
  .next (takeCommand (.enablePhaser snd phaser setting) .enablePhaser snd (ownEnable phaser setting) s)

/-- CLEAR_FAULT (R121). -/
def execClearFault (snd : Sender) (phaser : Byte) (s : State) : Result :=
  .next (takeCommand (.clearFault snd phaser) .clearFault snd (ownClear phaser) s)

/-! ### Timers and handed events -/

/-- The freshness timer expires: the record becomes STALE (R107). -/
def goStale (s : State) : State :=
  if runOut s.ps.cond.timer then
    evaluateAll ({ s with ps := { s.ps with cond := { s.ps.cond with fresh := false, timer := none } } }.driveDev
      .condStale true)
  else s

/-- The state timer has run out in a state. -/
def State.timerDue (s : State) (p : Phaser) (st : PhaserState) : Bool :=
  decide ((s.phaser p).state = st) && runOut (s.phaser p).timer

/-- FRESHNESS_TIMER_EXPIRY (R107). -/
def execFreshnessTimerExpiry (s : State) : Result := .next (goStale s)

/-- The release interval expires: the phaser enters TRACKING, and the change of its state is an evaluation, which withdraws it
where a withdrawal check holds (R108, R109, R113, R114). -/
def endRelease (p : Phaser) (s : State) : State :=
  if s.timerDue p .releasing then evaluateNow p (enterTracking p s) else s

/-- The return timeout expires (R116, R119). -/
def endReturn (p : Phaser) (s : State) : State :=
  if s.timerDue p .returning then updateHeld p (faultEntry p { CauseSet.empty with latchFail := true } s) else s

/-- The latch interval expires (R112, R116). -/
def endLatch (p : Phaser) (s : State) : State :=
  if s.timerDue p .latching then updateHeld p (enterParked p s) else s

/-- Every timer event of one phaser that an advance of the time base has found due (R113, R115, R116). -/
def takeTimers (p : Phaser) (s : State) : State := overBandEvent p (endLatch p (endReturn p (endRelease p s)))

/-- RELEASE_INTERVAL_EXPIRY (R113). -/
def execReleaseIntervalExpiry (p : Phaser) (s : State) : Result := .next (endRelease p s)

/-- RETURN_TIMEOUT_EXPIRY (R116). -/
def execReturnTimeoutExpiry (p : Phaser) (s : State) : Result := .next (endReturn p s)

/-- LATCH_INTERVAL_EXPIRY (R116). -/
def execLatchIntervalExpiry (p : Phaser) (s : State) : Result := .next (endLatch p s)

/-- OVER_BAND_TRACK_TIME: where the fault time was found reached as well, the phaser enters FAULTED in the same event (R115,
R127). -/
def execOverBandTrackTime (p : Phaser) (s : State) : Result :=
  .next (if (s.phaser p).trackDue then overBandEvent p s else s)

/-- OVER_BAND_FAULT_TIME (R115, R119, R127). -/
def execOverBandFaultTime (p : Phaser) (s : State) : Result :=
  .next (if (s.phaser p).faultDue then overBandEvent p s else s)

/-- SYNC_DEPARTURE_HANDLING (R124). -/
def execSyncDepartureHandling (s : State) : Result := .next (handleDeparture s)

/-- The Sequencer takes a driver condition declared to it (R119, R120, R122, R158). -/
def takeDriverFault (p : Phaser) (d : DriverCause) (s : State) : State :=
  if (s.phaser p).declared.has d then
    let s := overBandEvent p (s.setPhaser p { s.phaser p with declared := (s.phaser p).declared.remove d })
    match (s.phaser p).state with
    | .off => s
    | .faulted => addCause p (driverCause d) s
    | _ => updateHeld p (faultEntry p (driverCause d) s)
  else s

/-- DRIVER_CONDITION_FAULT (R158). -/
def execDriverConditionFault (p : Phaser) (cause : DriverCause) (s : State) : Result :=
  .next (takeDriverFault p cause s)

end Sys2Proof.Machine
end

