-- ==== Sys2Proof/Machine/Wheel.lean ====
section
/-! DEFINITION. The geometry of the wheels: the crank wheel's pitch and spans (R65), the halves of a tooth list (section
4.5), the spacing check of a tooth list (R99) and the crossing test (R37). -/

namespace Sys2Proof.Machine

open Sys2Proof

/-- The pitch P = 5,760 / N (R65). -/
def Decoder.pitch (d : Decoder) : Nat := Config.revolution / d.teeth

/-- The highest tooth index of a revolution, N − M − 1 (R65). -/
def Decoder.lastIndex (d : Decoder) : Nat := d.teeth - d.missing - 1

/-- The cycle angle of the last tooth: k × P, and 5,760 more in the second half (R65). -/
def Decoder.angle (d : Decoder) : Nat :=
  d.toothIndex.getD 0 * d.pitch + (if d.half = some .second then Config.revolution else 0)

/-- The teeth of a list in the first half, n1 (section 4.5). -/
def firstHalf (teeth : List Nat) : Nat := (teeth.filter fun a => a < Config.revolution).length

/-- The teeth of a list in the second half, n2 (section 4.5). -/
def secondHalf (teeth : List Nat) : Nat := (teeth.filter fun a => Config.revolution ≤ a).length

/-- The counts of a tooth list in the two halves differ (R83). -/
def tellsHalves (teeth : List Nat) : Bool := firstHalf teeth != secondHalf teeth

/-- The cyclic distance of two angles (R99). -/
def cyclicDistance (a b : Nat) : Nat := min (cyc (a - b)) (cyc (b - a))

/-- W = Amax − Amin + 2 × margin (R99, check 3). -/
def windowWidth (amin amax : Int) (margin : Nat) : Int := amax - amin + 2 * margin

/-- The spacing check: every two teeth are farther apart cyclically than W (R99, check 3). -/
def spaced (w : Int) : List Nat → Bool
  | [] => true
  | a :: rest => rest.all (fun b => decide (w < cyclicDistance a b)) && spaced w rest

/-- The crossing test: an angle lies in the cyclic interval from the previous tooth, exclusive, to this tooth, inclusive
(R37, R96). -/
def crossed (angle prev now : Nat) : Bool :=
  decide (1 ≤ cyc (angle - prev) ∧ cyc (angle - prev) ≤ cyc (now - prev))

end Sys2Proof.Machine
end

