-- ==== Sys2Proof/Machine/Edges.lean ====
section
/-! DEFINITION. The input filter (R66) and Edge Capture: taking, placing and associating cam edges, measurements, window
rejects, window ends and CAM_LOST (R86 to R103). -/

namespace Sys2Proof.Machine

open Sys2Proof

/-! ### The input filter (R66) -/

/-- A transition at an input: whether the filter accepts it, and whether a short pulse is open after it. A level held
for fewer than 16 ticks is ignored together with the transition that ends it (R66; log 6). -/
def filterInput (pulseOpen : Bool) (held : Nat) : Bool × Bool :=
  if pulseOpen then (false, false)
  else if held < Config.filterTicks then (false, true)
  else (true, false)

/-! ### Taking a cam edge (R87, R88, R74) -/

/-- A sync-cam edge counted by the decoder in CRANK_SYNC and CYCLE_SYNC (R74). -/
def Decoder.countEdge (d : Decoder) (c : Phaser) : Decoder :=
  if c = d.syncCam ∧ (d.sync = .crankSync ∨ d.sync = .cycleSync) then { d with edgeCount := bump 255 d.edgeCount }
  else d

/-- An edge joins its cam's queue, or is dropped at a full one (R88). -/
def queueEdge (c : Phaser) (stamp : Tick) (s : State) : State :=
  let k := s.cam c
  if k.queue.length < 2 then s.setCam c { k with queue := k.queue ++ [stamp] } else s.latchOverrun c

/-- A cam edge taken (R74, R87). -/
def takeEdge (c : Phaser) (stamp : Tick) (s : State) : State :=
  let s := s.setDecoder (s.ad.countEdge c)
  if s.ad.sync = .cycleSync then queueEdge c stamp s else s

/-- A transition on a cam input (R66, R87). -/
def camTransition (c : Phaser) (rising : Bool) (held : Nat) (stamp : Tick) (s : State) : State :=
  let f := filterInput (s.cam c).pulseOpen held
  let s := s.setCam c { s.cam c with pulseOpen := f.2 }
  if f.1 ∧ rising = (s.cam c).rises then takeEdge c stamp s else s

/-! ### Placing and associating an edge (R89, R92) -/

/-- The angle of a queued edge between the bracketing tooth and the new one (R89). -/
def placeEdge (b : Bracket) (t1 : Tick) (span : Nat) (te : Tick) : Nat :=
  let o := tickDiff te b.time
  let d := tickDiff t1 b.time
  if o ≤ d then
    b.angle + min (if d = 0 then Config.offsetAtZeroPeriod span else (roundDiv (o * span : Nat) d).toNat) (span - 1)
  else b.angle

/-- The phase of an edge against a nominal tooth (R92). -/
def edgePhase (tooth edge : Nat) : Int := (cyc (tooth - edge + 5760) : Int) - 5760

/-- The teeth that qualify for an edge, by their place in the list and their phase (R92). -/
def qualifying (teeth : List Nat) (edge : Nat) (lo hi : Int) : List (Nat × Int) :=
  (teeth.zipIdx.map fun x => (x.2, edgePhase x.1 edge)).filter fun x => lo ≤ x.2 ∧ x.2 ≤ hi

/-- The tooth an edge belongs to: the qualifying one of the smallest magnitude, the earlier in the list on a tie
(R92). -/
def associate (teeth : List Nat) (edge : Nat) (lo hi : Int) : Option (Nat × Int) :=
  (qualifying teeth edge lo hi).foldl (fun best x => match best with
    | none => some x
    | some b => if x.2.natAbs < b.2.natAbs then some x else some b) none

/-! ### Measurements and rejects (R93, R94) -/

/-- A measurement handed to the Loop Unit if the phaser is TRACKING at the delivery (R93; log 34). -/
def deliverLoop (p : Phaser) (phase : Int) (s : State) : State :=
  if (s.phaser p).state = .tracking then
    s.setLoop p { s.loop p with delivered := (s.loop p).delivered ++ [phase] }
  else s

/-- A measurement delivered to the Loop Unit and to the Sequencer, after the over-band events that the advances before it have
found (R93, R115). -/
def deliver (p : Phaser) (phase : Int) (s : State) : State := measured p phase (deliverLoop p phase (overBandEvent p s))

/-- A valid measurement of a cam's tooth (R93). -/
def takeMeasurement (c : Phaser) (tooth : Nat) (phase : Int) (s : State) : State :=
  let k := s.cam c
  let s := s.setCam c { k with last := some ⟨phase, 0⟩, miss := 0, marks := k.marks.set tooth true }
  deliver c phase (s.drive c .camLost false)

/-- An edge that fits no tooth (R94). -/
def rejectEdge (c : Phaser) (s : State) : State :=
  (s.setCam c { s.cam c with rejects := bump 255 (s.cam c).rejects }).latchReject c

/-- A placed edge associated with the window as it stands (R92). -/
def associateEdge (c : Phaser) (edge : Nat) (s : State) : State :=
  let r := s.resolver c
  match associate (s.cam c).teeth edge (r.amin - s.ec.margin) (r.amax + s.ec.margin) with
  | none => rejectEdge c s
  | some (k, phase) => takeMeasurement c k phase s

/-- The queued edges of one cam completed in capture order (R89). -/
def completeCam (b : Bracket) (t1 : Tick) (span : Nat) (c : Phaser) (s : State) : State :=
  let q := (s.cam c).queue
  q.foldl (fun s te => associateEdge c (placeEdge b t1 span te) s) (s.setCam c { s.cam c with queue := [] })

/-- The queued edges of all four cams completed (R89). -/
def completeEdges (b : Bracket) (t1 : Tick) (span : Nat) (s : State) : State :=
  completeCam b t1 span .re (completeCam b t1 span .ri (completeCam b t1 span .fe (completeCam b t1 span .fi s)))

/-! ### Window ends (R96, R97) -/

/-- The window end of a tooth (R96). -/
def windowEnd (tooth : Nat) (amin : Int) (margin : Nat) : Nat := cyc (tooth - amin + margin)

/-- One more miss of a cam; at the cam-lost count CAM_LOST is declared if clear (R96, R97). -/
def missTooth (c : Phaser) (s : State) : State :=
  let s := s.setCam c { s.cam c with miss := bump 255 (s.cam c).miss }
  if s.ec.lostCount ≤ (s.cam c).miss ∧ s.stands c .camLost = false then camLostDeclared c s else s

/-- The window-end test of the k-th tooth of a cam (R96). -/
def testWindowEnd (c : Phaser) (prev now : Nat) (k : Nat) (s : State) : State :=
  if crossed (windowEnd ((s.cam c).teeth.getD k 0) (s.resolver c).amin s.ec.margin) prev now then
    if (s.cam c).marks.getD k true then s.setCam c { s.cam c with marks := (s.cam c).marks.set k false }
    else missTooth c s
  else s

/-- The window-end tests of one cam (R96). -/
def testCam (prev now : Nat) (c : Phaser) (s : State) : State :=
  (List.range (s.cam c).teeth.length).foldl (fun s k => testWindowEnd c prev now k s) s

/-- The window-end tests of all four cams (R96). -/
def testWindowEnds (prev now : Nat) (s : State) : State :=
  testCam prev now .re (testCam prev now .ri (testCam prev now .fe (testCam prev now .fi s)))

/-! ### Teeth handed on, entry and departure (R79, R89, R91) -/

/-- A tooth handed on in CYCLE_SYNC: edges completed, the tooth becomes the bracketing tooth, window ends tested (R79,
R89, R96). -/
def captureTooth (t : Tick) (angle span : Nat) (s : State) : State :=
  match s.ec.bracket with
  | none => { s with ec := { s.ec with bracket := some ⟨t, angle⟩ } }
  | some b =>
    let s := completeEdges b t span s
    testWindowEnds b.angle angle { s with ec := { s.ec with bracket := some ⟨t, angle⟩ } }

/-- A cam at an entry to CYCLE_SYNC (R91). -/
def Cam.entered (k : Cam) : Cam := { k with miss := 0, marks := k.marks.map fun _ => true }

/-- A cam at a departure from CYCLE_SYNC (R91). -/
def Cam.departed (k : Cam) : Cam := { k with queue := [], miss := 0 }

/-- An entry to CYCLE_SYNC (R91). -/
def captureEntry (t : Tick) (angle : Nat) (s : State) : State :=
  { s with ec := { s.ec with bracket := some ⟨t, angle⟩, cams := s.ec.cams.map Cam.entered } }

/-- A departure from CYCLE_SYNC; the Sequencer is owed its handling (R77, R91, R124). -/
def captureDeparture (s : State) : State :=
  { s with ec := { s.ec with bracket := none, cams := s.ec.cams.map Cam.departed },
           ps := { s.ps with departed := true } }

/-- CAM_EDGE (R87). -/
def execCamEdge (c : Phaser) (rising : Bool) (held : Nat) (stamp : Tick) (s : State) : Result :=
  .next (camTransition c rising held stamp s)

end Sys2Proof.Machine
end

