-- ==== Sys2Proof/Machine/Resolver.lean ====
section
/-! DEFINITION. The Target Resolver: the recompute of one phaser and what it hands on, and the authority window (R46 to
R64). -/

namespace Sys2Proof.Machine

open Sys2Proof

/-- The record of a key that has active content, with its handle: LIVE, CHANGED or RETIRING (R49). -/
def Slots.activeRecord (t : Slots) (k : Key) : Option (Handle × Content) :=
  match t.findRecord fun r => r.key == k && r.life.active.isSome with
  | none => none
  | some i =>
    match (t.get i).record with
    | none => none
    | some r => r.life.active.map fun c => (t.handle i, c)

/-- The records of a phaser and a kind that have active content, in ascending class order (R49, R56). -/
def Slots.activeRecords (t : Slots) (p : Phaser) (k : Kind) : List (Cls × Handle × Content) :=
  Cls.ascending.filterMap fun c => (t.activeRecord ⟨p, c, k⟩).map fun x => (c, x.1, x.2)

/-- The winner: the SETPOINT with active content of the highest class (R50). -/
def Slots.winner (t : Slots) (p : Phaser) : Option (Cls × Handle × Content) :=
  (t.activeRecords p .setpoint).getLast?

/-- The first stage of composition: offsets added in ascending class order, saturating after each (R56). -/
def addTrims (v : Int) (trims : List (Cls × Handle × Content)) : Int :=
  trims.foldl (fun v x => match x.2.2 with
    | .trim o _ => clampInt (-5760) 5759 (v + o)
    | _ => v) v

/-- The second stage: the limits' clamps in ascending class order, and whether one of them changed the value (R56). -/
def applyLimits (v : Int) (limits : List (Cls × Handle × Content)) : Int × Bool :=
  limits.foldl (fun a x => match x.2.2 with
    | .limit lo hi _ => (clampInt lo hi a.1, a.2 || decide (clampInt lo hi a.1 ≠ a.1))
    | _ => a) (v, false)

/-- The composition of a numeric target from a starting value and a reference class: trims of at least that class,
every limit, the authority window (R56). -/
def compose (t : Slots) (p : Phaser) (amin amax : Int) (d : Disposition) (start : Int) (ref : Cls) : Resolution :=
  let trims := (t.activeRecords p .trim).filter fun x => ref.rank ≤ x.1.rank
  let limits := t.activeRecords p .limit
  let lim := applyLimits (addTrims start trims) limits
  let v := clampInt amin amax lim.1
  { target := .au v, disposition := d, trims := trims.map fun x => x.2.1, limits := limits.map fun x => x.2.1,
    authClamp := decide (v ≠ lim.1), limited := lim.2 || decide (v ≠ lim.1) }

/-- A resolution to PARK: both lists empty, both flags clear (R46, R51, R53). -/
def parked (d : Disposition) : Resolution :=
  { target := .park, disposition := d, trims := [], limits := [], authClamp := false, limited := false }

/-- The note of the previous winner among the notes kept (R52). -/
def noteOf (notes : List Note) (h : Handle) : Option Departure :=
  (notes.find? fun n => n.handle == h).map fun n => n.how

/-- The phaser is RELEASING or TRACKING, as the HOLD decision reads it (R54). -/
def drivenState (st : PhaserState) : Bool :=
  match st with
  | .releasing | .tracking => true
  | _ => false

/-- The resolution of a phaser with a winner (R50, R51, R56). -/
def resolveWinner (t : Slots) (p : Phaser) (amin amax : Int) (c : Cls) (h : Handle) (target : Target) : Resolution :=
  match target with
  | .park => parked (.setpoint h)
  | .au v => compose t p amin amax (.setpoint h) v c

/-- The resolution of a phaser without a winner, from its previous disposition and the note of its previous winner
(R53, R54, R55). The row that cannot arise, no note for the previous winner, parks (log 15). -/
def resolveNone (t : Slots) (p : Phaser) (r : Resolver) (driven : Bool) (ramp : Int) : Resolution :=
  match r.record.disposition with
  | .setpoint h =>
    match noteOf r.notes h, driven with
    | some (.retired false), true => compose t p r.amin r.amax (.hold ramp r.winnerClass) ramp r.winnerClass
    | _, _ => parked .parkDefault
  | .hold v c => compose t p r.amin r.amax (.hold v c) v c
  | .parkDefault => parked .parkDefault

/-- The Resolver's record of a phaser after a recompute: every field of the resolution record written together, every
note consumed (R48, R52). -/
def Resolver.next (r : Resolver) (t : Slots) (p : Phaser) (driven : Bool) (ramp : Int) : Resolver :=
  match t.winner p with
  | some (c, h, .setpoint target slew _ _) =>
    { r with record := resolveWinner t p r.amin r.amax c h target, notes := [], winnerClass := c, winnerSlew := slew }
  | _ => { r with record := resolveNone t p r driven ramp, notes := [] }

/-- A recompute of one phaser: the record is written, LIMITED follows its flag, and the effective target is handed on
(R48, R60, R61). The HOLD decision reads the phaser's state after the over-band events that the advances before it have found
(R54, R115). DESIGN CHOICE, log 42: the Sequencer's move on the effective target is taken inside this event, so no run finds a
phaser TRACKING with a target PARK whose move has not been taken (R132). -/
def recomputePhaser (p : Phaser) (s : State) : State :=
  let s := overBandEvent p s
  let r := (s.resolver p).next s.rt.slots p (drivenState (s.phaser p).state) (s.loop p).ramp
  targetHandled p (s.resolver p).record.target ((s.setResolver p r).drive p .limited r.record.limited)

/-- A recompute that was asked for is taken (R48). -/
def takeRecompute (p : Phaser) (s : State) : State :=
  match (s.resolver p).asked with
  | [] => s
  | _ :: rest => recomputePhaser p (s.setResolver p { s.resolver p with asked := rest })

/-- An apply asked for the recompute (R34, R39). -/
def Asker.byApply : Asker → Bool
  | .apply | .mark => true
  | .expiry => false

/-- An apply at a mark crossing asked for the recompute (R39). -/
def Asker.byMark : Asker → Bool
  | .mark => true
  | .apply | .expiry => false

/-- The recomputes of a phaser that have not been taken are taken, if one of those who asked passes the test (log 9). -/
def settle (who : Asker → Bool) (p : Phaser) (s : State) : State :=
  if (s.resolver p).asked.any who then (s.resolver p).asked.foldl (fun s _ => takeRecompute p s) s else s

/-- The same for both phasers of a group. -/
def settleGroup (who : Asker → Bool) (g : Group) (s : State) : State :=
  match g with
  | .front => settle who .fe (settle who .fi s)
  | .rear => settle who .re (settle who .ri s)

/-- A recompute asked for (R25, R34, R48). -/
def askRecompute (p : Phaser) (who : Asker) (notes : List Note) (s : State) : State :=
  let r := s.resolver p
  s.setResolver p { r with asked := r.asked ++ [who], notes := r.notes ++ notes }

/-- A bound of the authority window taken into its range, refused on the wrong side of 0 (R57, checks 1 and 2). -/
def readBound (b : Bound) (v : Int) : Option Int :=
  match b with
  | .lower => if v < 0 then some (max (-5760) v) else none
  | .upper => if 0 < v then some (min 5759 v) else none

/-- The window with one bound replaced. -/
def Resolver.withBound (r : Resolver) (b : Bound) (v : Int) : Resolver :=
  match b with
  | .lower => { r with amin := v }
  | .upper => { r with amax := v }

/-- A write of Amin or Amax: the bound stored, the ramp target clamped, the phaser recomputed, in one event (R57,
R58). -/
def writeAuthority (p : Phaser) (b : Bound) (value : Half) (s : State) : Except Status State :=
  match readBound b value.toInt with
  | none => .error .badValue
  | some v =>
    let r := (s.resolver p).withBound b v
    if spaced (windowWidth r.amin r.amax s.ec.margin) (s.cam p).teeth then
      let s := s.setResolver p r
      .ok (recomputePhaser p (s.setLoop p { s.loop p with ramp := clampInt r.amin r.amax (s.loop p).ramp }))
    else .error .badValue

/-- RECOMPUTE (R48). -/
def execRecompute (p : Phaser) (s : State) : Result := .next (takeRecompute p s)

end Sys2Proof.Machine
end

