-- ==== Sys2Proof/Machine/Table.lean ====
section
/-! DEFINITION. The Request Table: its commands, the apply, and expiry (R1 to R45). -/

namespace Sys2Proof.Machine

open Sys2Proof

/-! ### POST (R11, R12) -/

/-- A slot allocated to a new POSTED record: the generation advances by one modulo 16 (R3, R12). -/
def Slot.allocate (x : Slot) (k : Key) (c : Content) : Slot :=
  { gen := x.gen + 1#4, record := some { key := k, life := .posted c, deadline := none } }

/-- R11, R12. -/
def ownPost (snd : Sender) (key : KeyField) (content : ContentField) (s : State) : State × Reply :=
  match readKey key with
  | none => (s, Reply.no .badField)
  | some k =>
    if outranks snd k.cls then
      match readContent k.kind content with
      | none => (s, Reply.no .badField)
      | some c =>
        match s.rt.slots.findKey k with
        | some i => (s, ⟨.exists_, (s.rt.slots.handle i).bytes⟩)
        | none =>
          match s.rt.slots.findFree with
          | none => (s, Reply.no .full)
          | some i =>
            let t := s.rt.slots.set i ((s.rt.slots.get i).allocate k c)
            (s.setSlots t, Reply.yes ((t.handle i).bytes ++ halfBytes (BitVec.ofNat 16 c.slew)))
    else (s, Reply.no .cls)

/-! ### CHANGE (R13 to R16) -/

/-- The record state after a CHANGE from an issuer of equal or higher class (R14). -/
def Life.change (l : Life) (n : Content) : Life :=
  match l with
  | .posted _ => .posted n
  | .live a => .changed a n
  | .changed a _ => .changed a n
  | .retiring a => .changed a n

/-- The record is RETIRING. -/
def Life.leaving : Life → Bool
  | .retiring _ => true
  | _ => false

/-- The record has a deadline that a restart restarts (R9, R15). -/
def Record.renewable (r : Record) : Bool := r.deadline.isSome && r.life.active.isSome

/-- The fields in which a content differs from another one of its kind, bits 0 to 6 of the changed-fields list: TARGET,
SLEW, PARK_ON_RETIRE, OFFSET, LOWER, UPPER, KEEPALIVE (R15, 10.8). -/
def differences (old new : Content) : List Bool :=
  (match old, new with
   | .setpoint t s f _, .setpoint t' s' f' _ => [t != t', s != s', f != f', false, false, false]
   | .trim o _, .trim o' _ => [false, false, false, o != o', false, false]
   | .limit lo hi _, .limit lo' hi' _ => [false, false, false, false, lo != lo', hi != hi']
   | _, _ => [false, false, false, false, false, false]) ++ [old.keepAlive != new.keepAlive]

/-- A word with bit k set where the k-th entry holds, counted from bit 0. DESIGN CHOICE, log 47: a bit without an entry is 0. -/
def halfOfFlags (flags : List Bool) : Half := BitVec.ofNat 16 (flags.foldr (fun b n => b.toNat + 2 * n) 0)

/-- The changed-fields word of a CHANGE that writes content (R15). -/
def changedFields (r : Record) (new : Content) : Half :=
  halfOfFlags (differences r.life.prospect new ++ [r.life.leaving, r.renewable])

/-- The changed-fields word of a CHANGE answered PARTIAL: RENEWED or empty (R16). -/
def renewedField (r : Record) : Half := halfOfFlags [false, false, false, false, false, false, false, false, r.renewable]

/-- R13 to R16. -/
def ownChange (snd : Sender) (h : Handle) (kind : Byte) (content : ContentField) (s : State) : State × Reply :=
  match s.rt.slots.resolve h with
  | .error st => (s, Reply.no st)
  | .ok (i, r) =>
    if kind.toNat = r.key.kind.code then
      match readContent r.key.kind content with
      | none => (s, Reply.no .badField)
      | some n =>
        if outranks snd r.key.cls then
          (s.setSlots (s.rt.slots.setRecord i (some { r.restarted with life := r.life.change n })),
           Reply.yes (halfBytes (BitVec.ofNat 16 n.slew) ++ halfBytes (changedFields r n)))
        else
          (s.setSlots (s.rt.slots.setRecord i (some r.restarted)),
           ⟨.partly, halfBytes 0#16 ++ halfBytes (renewedField r)⟩)
    else (s, Reply.no .badField)

/-! ### RETIRE, RENEW, RENEW_CLASS (R17 to R20) -/

/-- The record after a RETIRE that passes its checks, `none` where the slot becomes FREE (R17). -/
def Record.retire (r : Record) : Option Record :=
  match r.life with
  | .posted _ => none
  | .live a => some { r with life := .retiring a }
  | .changed a _ => some { r with life := .retiring a }
  | .retiring _ => some r

/-- The record state byte of a slot's record, 0 for FREE (10.8). -/
def stateByte : Option Record → Byte
  | none => 0#8
  | some r => r.life.code

/-- R17. -/
def ownRetire (snd : Sender) (h : Handle) (s : State) : State × Reply :=
  match s.rt.slots.resolve h with
  | .error st => (s, Reply.no st)
  | .ok (i, r) =>
    if outranks snd r.key.cls then
      (s.setSlots (s.rt.slots.setRecord i r.retire), Reply.yes [stateByte r.retire])
    else (s, Reply.no .cls)

/-- R19. -/
def ownRenew (h : Handle) (s : State) : State × Reply :=
  match s.rt.slots.resolve h with
  | .error st => (s, Reply.no st)
  | .ok (i, r) =>
    (s.setSlots (s.rt.slots.setRecord i (some r.restarted)), Reply.yes (halfBytes (shownTimer r.restarted.deadline)))

/-- A slot whose record of a class has its deadline restarted (R20). -/
def Slot.renewClass (c : Cls) (x : Slot) : Slot :=
  { x with record := x.record.map fun r => if r.key.cls = c then r.restarted else r }

/-- The slot holds a record of a class whose deadline a RENEW_CLASS restarts (R20). -/
def Slot.counted (c : Cls) (x : Slot) : Bool := x.record.any fun r => r.key.cls == c && r.renewable

/-- R20. -/
def ownRenewClass (cls : Byte) (s : State) : State × Reply :=
  match Cls.ofByte cls with
  | none => (s, Reply.no .badField)
  | some c =>
    (s.setSlots (s.rt.slots.map (Slot.renewClass c)),
     Reply.yes [BitVec.ofNat 8 (s.rt.slots.list.countP (Slot.counted c))])

/-! ### FIND, READ_RECORD, LIST (R21 to R23) -/

/-- R21. -/
def ownFind (key : KeyField) (s : State) : State × Reply :=
  match readKey key with
  | none => (s, Reply.no .badField)
  | some k =>
    match s.rt.slots.findKey k with
    | none => (s, Reply.no .notFound)
    | some i => (s, Reply.yes ((s.rt.slots.handle i).bytes ++ [stateByte (s.rt.slots.get i).record]))

/-- The record readout (R22, 10.8). -/
def Record.readout (r : Record) : List Byte :=
  r.key.bytes ++ [r.life.code, byteOfFlags [r.life.active.isSome, r.life.pending.isSome]] ++
    contentBytes r.life.active ++ contentBytes r.life.pending ++ halfBytes (shownTimer r.deadline)

/-- R22. -/
def ownReadRecord (h : Handle) (s : State) : State × Reply :=
  match s.rt.slots.resolve h with
  | .error st => (s, Reply.no st)
  | .ok (_, r) => (s, Reply.yes r.readout)

/-- The list byte of a slot: state in the high four bits, generation in the low four (10.8). -/
def Slot.listByte (x : Slot) : Byte := (stateByte x.record <<< 4) ||| x.gen.setWidth 8

/-- R23. -/
def ownList (s : State) : State × Reply := (s, Reply.yes (s.rt.slots.list.map Slot.listByte))

/-! ### The apply (R32 to R36, R39) -/

/-- The groups an apply covers. -/
structure Coverage where
  front : Bool
  rear  : Bool
  deriving DecidableEq, Repr

/-- An apply covers a group. -/
def Coverage.has (c : Coverage) : Group → Bool
  | .front => c.front
  | .rear => c.rear

/-- A record of a covered group after the apply, `none` where its slot becomes FREE (R32, R33). -/
def Record.applied (r : Record) : Option Record :=
  match r.life with
  | .posted p => some { r with life := .live p, deadline := p.deadline }
  | .changed _ p => some { r with life := .live p, deadline := p.deadline }
  | .retiring _ => none
  | .live _ => some r

/-- A slot after an apply (R32). -/
def Slot.applied (c : Coverage) (x : Slot) : Slot :=
  match x.record with
  | some r => if c.has r.key.phaser.group then { x with record := r.applied } else x
  | none => x

/-- The record is promoted by an apply of its group (R36). -/
def Life.promotes : Life → Bool
  | .posted _ | .changed _ _ => true
  | _ => false

/-- How many records of a group an apply promotes (R36). -/
def Slots.promoted (t : Slots) (g : Group) : Nat :=
  t.list.countP fun x => x.record.any fun r => decide (r.key.phaser.group = g) && r.life.promotes

/-- How many records of a group an apply frees (R36). -/
def Slots.retired (t : Slots) (g : Group) : Nat :=
  t.list.countP fun x => x.record.any fun r => decide (r.key.phaser.group = g) && r.life.leaving

/-- An apply changes at least one record of the group (R34, R35). -/
def Slots.pendingIn (t : Slots) (g : Group) : Bool := decide (0 < t.promoted g + t.retired g)

/-- The departure note of a SETPOINT of a phaser that an apply frees (R34, R52). -/
def retireNote (p : Phaser) (h : Handle) (r : Record) : Option Note :=
  match r.life with
  | .retiring (.setpoint _ _ f _) => if r.key.phaser = p then some ⟨h, .retired f⟩ else none
  | _ => none

/-- The departure notes an apply passes for a phaser (R34). -/
def Slots.retireNotes (t : Slots) (p : Phaser) : List Note :=
  slotNumbers.filterMap fun i => (t.get i).record.bind fun r => retireNote p (t.handle i) r

/-- The recompute that an apply asks for one phaser, from the table before the apply: asked for where the apply changed
a record of the phaser's group (R34, R35). -/
def askAfterApply (who : Asker) (c : Coverage) (before : Slots) (p : Phaser) (s : State) : State :=
  if c.has p.group && before.pendingIn p.group then askRecompute p who (before.retireNotes p) s else s

/-- The recomputes that an apply of the covered groups asks for, phaser by phaser (R34). -/
def askAll (who : Asker) (c : Coverage) (before : Slots) (s : State) : State :=
  askAfterApply who c before .re <| askAfterApply who c before .ri <|
    askAfterApply who c before .fe <| askAfterApply who c before .fi s

/-- One apply, by command or at a mark crossing: every record of the covered groups changed in one event, then the recomputes
asked for (R32 to R35). The recomputes of an earlier apply are taken before (R48; log 9). -/
def applyGroups (who : Asker) (c : Coverage) (s : State) : State :=
  let s := if c.front then settleGroup Asker.byApply .front s else s
  let s := if c.rear then settleGroup Asker.byApply .rear s else s
  askAll who c s.rt.slots (s.setSlots (s.rt.slots.map (Slot.applied c)))

/-- The three response bytes of a group: covered, promoted, retired (R36). DESIGN CHOICE, log 43: covered is sent as 1, not covered
as 0; 10.8 gives the byte no encoding. -/
def groupCounts (c : Coverage) (t : Slots) (g : Group) : List Byte :=
  if c.has g then [1#8, BitVec.ofNat 8 (t.promoted g), BitVec.ofNat 8 (t.retired g)] else [0#8, 0#8, 0#8]

/-- R36. -/
def ownApply (selection : Byte) (s : State) : State × Reply :=
  match readSelection selection with
  | none => (s, Reply.no .badField)
  | some (f, r) =>
    (applyGroups .apply ⟨f, r⟩ s,
     Reply.yes (groupCounts ⟨f, r⟩ s.rt.slots .front ++ groupCounts ⟨f, r⟩ s.rt.slots .rear))

/-- The coverage of one group alone (R39). -/
def Coverage.only : Group → Coverage
  | .front => ⟨true, false⟩
  | .rear => ⟨false, true⟩

/-! ### Expiry (R24, R25) -/

/-- The departure note of a SETPOINT that expires (R25, R52). -/
def expiryNotes (k : Kind) (h : Handle) : List Note :=
  match k with
  | .setpoint => [⟨h, .expired⟩]
  | _ => []

/-- The record of a slot whose deadline has run out expires (R24, R25). -/
def expireSlot (i : Fin 24) (s : State) : State :=
  match (s.rt.slots.get i).record with
  | none => s
  | some r =>
    if runOut r.deadline then
      let s := settleGroup Asker.byApply r.key.phaser.group s
      let h := s.rt.slots.handle i
      let s := (s.setSlots (s.rt.slots.setRecord i none)).latchExpired r.key.phaser h
      askRecompute r.key.phaser .expiry (expiryNotes r.key.kind h) s
    else s

/-! ### Commands -/

/-- POST (R12). -/
def execPost (snd : Sender) (key : KeyField) (content : ContentField) (s : State) : Result :=
  .next (takeCommand (.post snd key content) .post snd (ownPost snd key content) s)

/-- CHANGE (R14, R16). -/
def execChange (snd : Sender) (h : Handle) (kind : Byte) (content : ContentField) (s : State) : Result :=
  .next (takeCommand (.change snd h kind content) .change snd (ownChange snd h kind content) s)

/-- RETIRE (R17). -/
def execRetire (snd : Sender) (h : Handle) (s : State) : Result :=
  .next (takeCommand (.retire snd h) .retire snd (ownRetire snd h) s)

/-- RENEW (R19). -/
def execRenew (snd : Sender) (h : Handle) (s : State) : Result :=
  .next (takeCommand (.renew snd h) .renew snd (ownRenew h) s)

/-- RENEW_CLASS (R20). -/
def execRenewClass (snd : Sender) (cls : Byte) (s : State) : Result :=
  .next (takeCommand (.renewClass snd cls) .renewClass snd (ownRenewClass cls) s)

/-- APPLY (R36). -/
def execApply (snd : Sender) (selection : Byte) (s : State) : Result :=
  .next (takeCommand (.apply snd selection) .apply snd (ownApply selection) s)

/-- FIND (R21). -/
def execFind (snd : Sender) (key : KeyField) (s : State) : Result :=
  .next (takeCommand (.find snd key) .find snd (ownFind key) s)

/-- READ_RECORD (R22). -/
def execReadRecord (snd : Sender) (h : Handle) (s : State) : Result :=
  .next (takeCommand (.readRecord snd h) .readRecord snd (ownReadRecord h) s)

/-- LIST (R23). -/
def execList (snd : Sender) (s : State) : Result := .next (takeCommand (.list snd) .list snd ownList s)

/-- EXPIRY (R24). -/
def execExpiry (slot : Fin 24) (s : State) : Result := .next (expireSlot slot s)

end Sys2Proof.Machine
end

