-- ==== Sys2Proof/Machine/Angle.lean ====
section
/-! DEFINITION. The Angle Decoder: crank teeth, gaps, the cycle half, engine speed, stop, and mark crossings (R65 to
R85, R37 to R39). -/

namespace Sys2Proof.Machine

open Sys2Proof

/-! ### The decoder's part of a tooth (R69 to R76) -/

/-- The tooth period (R70). -/
def Decoder.period (d : Decoder) (t : Tick) : Nat :=
  match d.prevTooth with
  | some t0 => tickDiff t t0
  | none => 0

/-- The tooth is a gap candidate: 2 × T_now ≥ (2M + 1) × T_prev, with a T_prev (R70). -/
def Decoder.candidate (d : Decoder) (t : Tick) : Bool :=
  match d.lastNormal with
  | none => false
  | some prev => decide ((2 * d.missing + 1) * prev ≤ 2 * d.period t)

/-- The engine speed of a normal period (R78). -/
def speedOf (teeth period : Nat) : Nat :=
  if period = 0 then (Config.speedAtZeroPeriod teeth).toNat else min 65535 (480000000 / (teeth * period))

/-- The timing part of a tooth outside STOPPED: the time, the stop timer, and, unless the tooth is a candidate, the last
normal period and the speed (R68, R70, R78). -/
def Decoder.timed (d : Decoder) (t : Tick) : Decoder :=
  let d' := { d with prevTooth := some t, stopTimer := some d.stopTime }
  if d.candidate t then d' else { d' with lastNormal := some (d.period t), speed := speedOf d.teeth (d.period t) }

/-- Sync lost at an early or a late gap (R73). -/
def Decoder.lose (d : Decoder) : Decoder :=
  { d with sync := .seeking, toothIndex := none, half := none, edgeCount := 0 }

/-- The judgement of a revolution at a gap tooth in CRANK_SYNC (R75). -/
def Decoder.judgeCrank (d : Decoder) (n1 n2 : Nat) : Decoder :=
  let d' := { d with toothIndex := some 0, edgeCount := 0 }
  if d.edgeCount = n1 then { d' with sync := .cycleSync, half := some .second, doubt := 0 }
  else if d.edgeCount = n2 then { d' with sync := .cycleSync, half := some .first, doubt := 0 }
  else d'

/-- The other half of the cycle. -/
def otherHalf : Option Half2 → Option Half2
  | some .first => some .second
  | _ => some .first

/-- The count expected of the finished revolution (R76). -/
def Decoder.expected (d : Decoder) (n1 n2 : Nat) : Nat := if d.half = some .first then n1 else n2

/-- The check of a revolution at a gap tooth in CYCLE_SYNC (R76). -/
def Decoder.judgeCycle (d : Decoder) (n1 n2 : Nat) : Decoder :=
  let d' := { d with toothIndex := some 0, edgeCount := 0 }
  if d.edgeCount = d.expected n1 n2 then { d' with doubt := 0, half := otherHalf d.half }
  else if d.doubt = 0 then { d' with doubt := 1, half := otherHalf d.half }
  else { d' with doubt := 2, half := none, sync := .crankSync }

/-- The judgement of a tooth in CRANK_SYNC or CYCLE_SYNC (R72). -/
def Decoder.judge (d : Decoder) (candidate : Bool) (n1 n2 : Nat) : Decoder :=
  let k := d.toothIndex.getD 0
  if k < d.lastIndex then
    if candidate then d.lose else { d with toothIndex := some (k + 1) }
  else if candidate then
    if d.sync = .cycleSync then d.judgeCycle n1 n2 else d.judgeCrank n1 n2
  else d.lose

/-- The decoder after a crank tooth event at tick `t`; n1 and n2 are the sync cam's counts (R69 to R76). -/
def Decoder.tooth (d : Decoder) (t : Tick) (n1 n2 : Nat) : Decoder :=
  match d.sync with
  | .stopped => { d with sync := .seeking, prevTooth := some t, stopTimer := some d.stopTime }
  | .seeking =>
    if d.candidate t then { d.timed t with sync := .crankSync, toothIndex := some 0, edgeCount := 0 } else d.timed t
  | _ => (d.timed t).judge (d.candidate t) n1 n2

/-- The tooth shows a mismatching revolution in CYCLE_SYNC, which latches SYNC_DOUBT (R76). -/
def Decoder.doubts (d : Decoder) (t : Tick) (n1 n2 : Nat) : Bool :=
  decide (d.sync = .cycleSync ∧ d.lastIndex ≤ d.toothIndex.getD 0 ∧ d.candidate t = true ∧
    d.edgeCount ≠ d.expected n1 n2)

/-- The span of the interval a tooth ends: (M + 1) × P at the tooth that ends the gap, P otherwise (R65, R79). -/
def Decoder.span (d : Decoder) : Nat := if d.toothIndex = some 0 then (d.missing + 1) * d.pitch else d.pitch

/-! ### What a tooth hands on (R37 to R39, R77, R79) -/

/-- The apply at a mark crossing of a group in MARK mode (R37, R39). -/
def markApply (g : Group) (prev now : Nat) (s : State) : State :=
  if (s.config g).mode = .mark ∧ crossed (s.config g).mark prev now then applyGroups .mark (Coverage.only g) s else s

/-- The evaluation that a changed speed or an entry to CYCLE_SYNC causes (R108). -/
def evaluateIf (b : Bool) (s : State) : State := if b then evaluateAll s else s

/-- The parts of a tooth in CYCLE_SYNC: the mark apply of each group, the cam edges with the window ends, and the evaluation
(R39, R79, R108). -/
inductive ToothPart where
  | front | rear | edges | evaluation
  deriving DecidableEq, Repr

/-- The two applies in their order. -/
def toothApplies (o : ToothOrder) : List (ToothPart × Bool) :=
  if o.rearBeforeFront then [(.rear, o.rearFirst), (.front, o.frontFirst)]
  else [(.front, o.frontFirst), (.rear, o.rearFirst)]

/-- The applies on one side of the edges. -/
def toothSide (o : ToothOrder) (first : Bool) : List ToothPart :=
  ((toothApplies o).filter fun x => x.2 == first).map fun x => x.1

/-- The four parts of a tooth in the order an operand chooses (R39, R44, R79, R108; log 7). -/
def toothParts (o : ToothOrder) : List ToothPart :=
  let three := toothSide o true ++ .edges :: toothSide o false
  three.take o.evaluation.val ++ .evaluation :: three.drop o.evaluation.val

/-- One part of a tooth. An apply taken before the edges takes its recomputes with it (R44). -/
def toothPart (t : Tick) (prev : Nat) (changed : Bool) (o : ToothOrder) (s : State) : ToothPart → State
  | .front =>
    let u := markApply .front prev s.ad.angle s
    if o.frontFirst then settleGroup Asker.byMark .front u else u
  | .rear =>
    let u := markApply .rear prev s.ad.angle s
    if o.rearFirst then settleGroup Asker.byMark .rear u else u
  | .edges => captureTooth t s.ad.angle s.ad.span s
  | .evaluation => evaluateIf changed s

/-- A tooth handed on while the decoder stays in CYCLE_SYNC. The recomputes that an apply at an earlier tooth asked for are taken
first, so that its measurements meet the new effective target; then the four parts in one of their free orders (R44, R79;
logs 7, 9). -/
def handTooth (t : Tick) (prev : Nat) (changed : Bool) (o : ToothOrder) (s : State) : State :=
  (toothParts o).foldl (toothPart t prev changed o) (settleGroup Asker.byMark .rear (settleGroup Asker.byMark .front s))

/-- The counts of the sync cam's tooth list in the two halves (section 4.5). -/
def State.syncCounts (s : State) : Nat × Nat :=
  (firstHalf (s.cam s.ad.syncCam).teeth, secondHalf (s.cam s.ad.syncCam).teeth)

/-- The decoder's new record stored and its conditions and events declared (R69, R76, R80). -/
def storeTooth (d : Decoder) (doubts : Bool) (s : State) : State :=
  let s := s.setDecoder d
  let s := s.driveDev .engineStopped (decide (d.sync = .stopped))
  let s := s.driveDev .cycleSync (decide (d.sync = .cycleSync))
  if doubts then s.latchDoubt else s

/-- A crank tooth event at tick `t` (R69 to R79). A departure handed on before it is handled first (R124; log 9). At a
tooth that departs, an evaluation taken after the handling of the departure finds no phaser to act on, so it is left out
(R108, R124; log 7). -/
def crankTooth (t : Tick) (o : ToothOrder) (s : State) : State :=
  let s := handleDeparture s
  let d := s.ad
  let d' := d.tooth t s.syncCounts.1 s.syncCounts.2
  let changed := decide (d'.speed ≠ d.speed)
  let s := storeTooth d' (d.doubts t s.syncCounts.1 s.syncCounts.2) s
  match d.sync, d'.sync with
  | .cycleSync, .cycleSync => handTooth t d.angle changed o s
  | .cycleSync, _ => evaluateIf (changed && decide (o.evaluation = 0)) (captureDeparture s)
  | _, .cycleSync => evaluateAll (captureEntry t d'.angle s)
  | _, _ => evaluateIf changed s

/-- A transition on the CRANK input: an accepted transition of the configured polarity is a crank tooth event (R66). -/
def crankTransition (rising : Bool) (held : Nat) (stamp : Tick) (o : ToothOrder) (s : State) : State :=
  let f := filterInput s.ad.pulseOpen held
  let s := s.setDecoder { s.ad with pulseOpen := f.2 }
  if f.1 ∧ rising = s.ad.crankRises then crankTooth stamp o s else s

/-- The decoder after the stop timer's expiry (R68). -/
def Decoder.stop (d : Decoder) : Decoder :=
  { d with sync := .stopped, prevTooth := none, lastNormal := none, toothIndex := none, half := none, edgeCount := 0,
           speed := 0, stopTimer := none }

/-- The stop timer's expiry (R68, R77). -/
def stopEngine (s : State) : State :=
  if runOut s.ad.stopTimer then
    let was := s.ad.sync
    let s := storeTooth s.ad.stop false s
    if was = .cycleSync then captureDeparture s else s
  else s

/-- CRANK_TOOTH (R70). -/
def execCrankTooth (rising : Bool) (held : Nat) (stamp : Tick) (order : ToothOrder) (s : State) : Result :=
  .next (crankTransition rising held stamp order s)

/-- STOP_TIMER_EXPIRY (R68). -/
def execStopTimerExpiry (s : State) : Result := .next (stopEngine s)

end Sys2Proof.Machine
end

