-- ==== Sys2Proof/Machine/Control.lean ====
section
/-! DEFINITION. The control step of the Loop Unit on a delivered measurement, and the track supervision after it (R115, R132
to R141). -/

namespace Sys2Proof.Machine

open Sys2Proof

/-- The slew of a step: that of the winner's active content, through the winner handle, as the table stands at the step; 0
under HOLD (R60, R134, section 7.3). MODEL'S CHOICE, log 37: this holds also between an apply that promotes a changed content of
the winner and its recompute, where R141 speaks of the old slew. MODEL'S CHOICE, log 16: a winner whose record has left the
table before the recompute it asked for keeps the slew of the last recompute. -/
def stepSlew (r : Resolver) (t : Slots) : Nat :=
  match r.record.disposition with
  | .setpoint h =>
    match t.activeOf h with
    | some c => c.slew
    | none => r.winnerSlew
  | _ => 0

/-- The track supervision after a step, on the magnitude of the track error (R115). MODEL'S CHOICE, log 39: the track band is read
at the step, so a write of it between a measurement's delivery and its step acts on that step already. -/
def supervise (p : Phaser) (error : Int) (s : State) : State :=
  if s.ps.params.trackBand < error.natAbs then
    s.setPhaser p { s.phaser p with overBand := some ((s.phaser p).overBand.getD 0) }
  else
    (s.setPhaser p { s.phaser p with overBand := none, trackDue := false, faultDue := false }).drive p .trackErr false

/-- A control step of a TRACKING phaser toward a numeric target (R133 to R141, R115). -/
def controlTo (p : Phaser) (target phase : Int) (s : State) : State :=
  let r := loopStep (s.loop p) target (stepSlew (s.resolver p) s.rt.slots) (handedBattery s.ps.cond) s.counter phase
  supervise p (r.1.ramp - phase) ((s.setLoop p r.1).setCommanded p r.2)

/-- What a delivered measurement causes at the moment its step would be taken (R132). -/
def stepOn (p : Phaser) (phase : Int) (s : State) : State :=
  match (s.phaser p).state, (s.resolver p).record.target with
  | .tracking, .au target => controlTo p target phase s
  | _, _ => s

/-- The oldest delivered measurement is taken (R132). -/
def takeOldest (p : Phaser) (s : State) : State :=
  match (s.loop p).delivered with
  | [] => s
  | phase :: rest => stepOn p phase (s.setLoop p { s.loop p with delivered := rest })

/-- A delivered measurement is taken, after the over-band events that the advances before it have found (R115, R132, R141). -/
def takeDelivered (p : Phaser) (s : State) : State :=
  if (s.loop p).delivered = [] then s else takeOldest p (overBandEvent p s)

/-- CONTROL_STEP (R132). -/
def execControlStep (p : Phaser) (s : State) : Result := .next (takeDelivered p s)

end Sys2Proof.Machine
end

