-- ==== Sys2Proof/Machine/Monitor.lean ====
section
/-! DEFINITION. The commands of the Condition Monitor: READ_EVENTS and SET_EVENT_ENABLES (R168, R170). -/

namespace Sys2Proof.Machine

open Sys2Proof

/-- The event records of a phaser group, two bytes each, in bit order (10.8, Event sets). -/
def PhGroup.events (g : PhGroup) : List Byte := List.flatten
  [g.conds.camLost.readout, g.conds.trackErr.readout, g.conds.releaseHeld.readout, g.conds.limited.readout,
   g.conds.faulted.readout, g.conds.drvOpen.readout, g.conds.drvShort.readout, g.conds.drvHot.readout,
   eventReadout g.expired, eventReadout g.overrun, eventReadout g.reject]

/-- The event records of DEV, two bytes each, in bit order (10.8, Event sets). -/
def DevGroup.events (d : DevGroup) : List Byte := List.flatten
  [d.cycleSync.readout, d.engineStopped.readout, d.condStale.readout, eventReadout d.syncDoubt,
   eventReadout d.resetOccurred, eventReadout d.frameError]

/-- The EXPIRED handle of a phaser group, zeros when not latched (10.8). -/
def PhGroup.carried (g : PhGroup) : List Byte :=
  match g.expired with
  | none => [0#8, 0#8]
  | some l => l.value.bytes

/-- The RESET_OCCURRED kind and the FRAME_ERROR status of DEV, zero when not latched (10.8). -/
def DevGroup.carried (d : DevGroup) : List Byte :=
  [match d.resetOccurred with
   | none => 0#8
   | some l => l.value.byte,
   match d.frameError with
   | none => 0#8
   | some l => l.value.byte]

/-- The end of every event readout: the group's enables, its group enable, the five summaries and the five group enables
(R168, 10.8). -/
def State.enableBytes (s : State) (enables : Half) (groupEnable : Bool) : List Byte :=
  halfBytes enables ++ [flagByte groupEnable, s.summaryByte, s.groupEnableByte]

/-- The event readout of a phaser group (R168, 10.8): 30 bytes. -/
def State.phEvents (s : State) (p : Phaser) : List Byte :=
  (s.phGroup p).conds.statusByte :: List.flatten
    [(s.phGroup p).events, (s.phGroup p).carried, s.enableBytes (s.phGroup p).enables (s.phGroup p).groupEnable]

/-- The event readout of DEV (R168, 10.8): 20 bytes. -/
def State.devEvents (s : State) : List Byte :=
  s.cm.dev.statusByte :: List.flatten
    [s.cm.dev.events, s.cm.dev.carried, s.enableBytes s.cm.dev.enables s.cm.dev.groupEnable]

/-- R168: the response captured, then every latch record of the group deleted. -/
def ownReadEvents (group : Byte) (s : State) : State × Reply :=
  match readGroup group with
  | none => (s, Reply.no .badField)
  | some (some p) => (s.setPhGroup p (s.phGroup p).unlatched, Reply.yes (s.phEvents p))
  | some none => (s.setDev s.cm.dev.unlatched, Reply.yes s.devEvents)

/-- The positions of an event set that hold an event: eleven in a phaser group, six in DEV (10.8). -/
def validEnables (phaserGroup : Bool) (enables : Half) : Bool :=
  if phaserGroup then enables &&& 0xF800#16 == 0#16 else enables &&& 0xFFC0#16 == 0#16

/-- R170. -/
def ownSetEnables (group : Byte) (enables : Half) (groupEnable : Byte) (s : State) : State × Reply :=
  match readGroup group, readFlag groupEnable with
  | some (some p), some on =>
    if validEnables true enables then
      (s.setPhGroup p { s.phGroup p with enables := enables, groupEnable := on },
       Reply.yes (halfBytes enables ++ [flagByte on]))
    else (s, Reply.no .badField)
  | some none, some on =>
    if validEnables false enables then
      (s.setDev { s.cm.dev with enables := enables, groupEnable := on },
       Reply.yes (halfBytes enables ++ [flagByte on]))
    else (s, Reply.no .badField)
  | _, _ => (s, Reply.no .badField)

/-- READ_EVENTS (R168). -/
def execReadEvents (snd : Sender) (group : Byte) (s : State) : Result :=
  .next (takeCommand (.readEvents snd group) .readEvents snd (ownReadEvents group) s)

/-- SET_EVENT_ENABLES (R170). -/
def execSetEventEnables (snd : Sender) (group : Byte) (enables : Half) (groupEnable : Byte) (s : State) : Result :=
  .next (takeCommand (.setEventEnables snd group enables groupEnable) .setEventEnables snd
    (ownSetEnables group enables groupEnable) s)

end Sys2Proof.Machine
end

