-- ==== Sys2Proof/Machine/Params.lean ====
section
/-! DEFINITION. The parameters of every block: their stored values, the owners' checks and stores, and the commands that write
and read them (R31, R57, R82, R83, R99, R100, R126, R144, R145, R150, R181). -/

namespace Sys2Proof.Machine

open Sys2Proof

/-! ### Stored values (R181, 10.8) -/

/-- A flag parameter as E8: 0 for false, 1 for true. -/
def flagValue (b : Bool) : ValueField := .ofByte (flagByte b)

/-- A U16 parameter. -/
def natValue (n : Nat) : ValueField := .ofHalf (BitVec.ofNat 16 n)

/-- An S16 parameter. -/
def intValue (n : Int) : ValueField := .ofHalf (BitVec.ofInt 16 n)

/-- A tooth list: its count and its angles, the unused angles 0 (R181). -/
def teethValue (teeth : List Nat) : ValueField :=
  .ofList (BitVec.ofNat 8 teeth.length)
    ⟨BitVec.ofNat 16 (teeth.getD 0 0), BitVec.ofNat 16 (teeth.getD 1 0), BitVec.ofNat 16 (teeth.getD 2 0),
     BitVec.ofNat 16 (teeth.getD 3 0)⟩

/-- The value of a parameter as stored (R181). -/
def readParam (q : Param) (s : State) : ValueField :=
  match q with
  | .applyMode g => flagValue (decide ((s.config g).mode = .mark))
  | .markAngle g => natValue (s.config g).mark
  | .authority .lower p => intValue (s.resolver p).amin
  | .authority .upper p => intValue (s.resolver p).amax
  | .crank .teeth => .ofByte (BitVec.ofNat 8 s.ad.teeth)
  | .crank .missing => .ofByte (BitVec.ofNat 8 s.ad.missing)
  | .crank .polarity => flagValue s.ad.crankRises
  | .syncCam => .ofByte (BitVec.ofNat 8 s.ad.syncCam.index)
  | .stopTime => natValue s.ad.stopTime
  | .firingOffset => natValue s.ad.firingOffset
  | .toothList c => teethValue (s.cam c).teeth
  | .camPolarity c => flagValue (s.cam c).rises
  | .windowMargin => natValue s.ec.margin
  | .camLostCount => natValue s.ec.lostCount
  | .releaseDuty => natValue s.ps.params.releaseDuty
  | .threshold .temperature => intValue s.ps.params.releaseTemp
  | .threshold .speed => natValue s.ps.params.releaseSpeed
  | .threshold .hysteresis => natValue s.ps.params.hysteresis
  | .homeBand => natValue s.ps.params.homeBand
  | .releaseInterval => natValue s.ps.params.releaseInterval
  | .returnTimeout => natValue s.ps.params.returnTimeout
  | .latchInterval => natValue s.ps.params.latchInterval
  | .trackBand => natValue s.ps.params.trackBand
  | .time .track => natValue s.ps.params.trackTime
  | .time .fault => natValue s.ps.params.faultTime
  | .freshnessTime => natValue s.ps.params.freshnessTime
  | .kp p => natValue (s.loop p).params.kp
  | .ki p => natValue (s.loop p).params.ki
  | .ilim p => natValue (s.loop p).params.ilim
  | .nd p => natValue (s.loop p).params.nd
  | .dutyLimit .lower p => natValue (s.loop p).params.dmin
  | .dutyLimit .upper p => natValue (s.loop p).params.dmax
  | .pwmFrequency => natValue s.vd.frequency

/-! ### The apply configuration (R31) -/

/-- R31. -/
def writeApplyMode (g : Group) (v : Byte) (s : State) : Except Status State :=
  match readFlag v with
  | some m => .ok (s.setConfig g { s.config g with mode := if m then .mark else .software })
  | none => .error .badValue

/-- R31. -/
def writeMarkAngle (g : Group) (v : Half) (s : State) : Except Status State :=
  .ok (s.setConfig g { s.config g with mark := min 11519 v.toNat })

/-! ### The decoder (R82, R83) -/

/-- A geometry parameter is written in STOPPED only (R82). -/
def whenStopped (s : State) (r : Except Status State) : Except Status State :=
  if s.ad.sync = .stopped then r else .error .notStopped

/-- R82: N, M and the crank polarity. -/
def writeCrank (w : CrankParam) (v : Byte) (s : State) : Except Status State :=
  whenStopped s <|
    match w with
    | .teeth =>
      if v.toNat ∈ [12, 18, 24, 36, 48, 60] then .ok (s.setDecoder { s.ad with teeth := v.toNat }) else .error .badValue
    | .missing =>
      if v.toNat ∈ [1, 2] then .ok (s.setDecoder { s.ad with missing := v.toNat }) else .error .badValue
    | .polarity =>
      match readFlag v with
      | some r => .ok (s.setDecoder { s.ad with crankRises := r })
      | none => .error .badValue

/-- R82, R83. -/
def writeSyncCam (v : Byte) (s : State) : Except Status State :=
  whenStopped s <|
    match phaserOfByte v with
    | some c => if tellsHalves (s.cam c).teeth then .ok (s.setDecoder { s.ad with syncCam := c }) else .error .badValue
    | none => .error .badValue

/-- R82. -/
def writeStopTime (v : Half) (s : State) : Except Status State :=
  .ok (s.setDecoder { s.ad with stopTime := clampNat 50 1000 v.toNat })

/-- R82. -/
def writeFiringOffset (v : Half) (s : State) : Except Status State :=
  .ok (s.setDecoder { s.ad with firingOffset := min 11519 v.toNat })

/-! ### Edge Capture (R99, R100) -/

/-- The first angles of a tooth list value, by its count. -/
def angleList (count : Nat) (a : AngleField) : List Nat := [a.a0.toNat, a.a1.toNat, a.a2.toNat, a.a3.toNat].take count

/-- The tooth list of a cam passes its spacing check with a margin (R99, check 3; R57; R100). -/
def State.spacedWith (s : State) (c : Phaser) (teeth : List Nat) (margin : Nat) : Bool :=
  spaced (windowWidth (s.resolver c).amin (s.resolver c).amax margin) teeth

/-- R99. Every mark of the new list stands satisfied, as after a reset (log 27). -/
def writeToothList (c : Phaser) (count : Byte) (angles : AngleField) (s : State) : Except Status State :=
  whenStopped s <|
    let teeth := angleList count.toNat angles
    if 1 ≤ count.toNat ∧ count.toNat ≤ 4 ∧ teeth.all (fun a => decide (a ≤ 11519)) then
      if s.spacedWith c teeth s.ec.margin then
        if c = s.ad.syncCam ∧ tellsHalves teeth = false then .error .badValue
        else .ok (s.setCam c { s.cam c with teeth := teeth, marks := teeth.map fun _ => true })
      else .error .badValue
    else .error .badValue

/-- R100. -/
def writePolarity (c : Phaser) (v : Byte) (s : State) : Except Status State :=
  whenStopped s <|
    match readFlag v with
    | some r => .ok (s.setCam c { s.cam c with rises := r })
    | none => .error .badValue

/-- R100. -/
def writeMargin (v : Half) (s : State) : Except Status State :=
  if Phaser.list.all (fun c => s.spacedWith c (s.cam c).teeth (min 480 v.toNat)) then
    .ok { s with ec := { s.ec with margin := min 480 v.toNat } }
  else .error .badValue

/-- R100. -/
def writeLostCount (v : Half) (s : State) : Except Status State :=
  .ok { s with ec := { s.ec with lostCount := clampNat 2 8 v.toNat } }

/-! ### The Sequencer (R126) -/

/-- The release duty handed to a phaser's output, if the phaser is RELEASING (R126). -/
def handRelease (s : State) (p : Phaser) : State :=
  if (s.phaser p).state = .releasing then s.setCommanded p s.ps.params.releaseDuty else s

/-- R126: a RELEASING phaser commands the new duty at once. -/
def writeReleaseDuty (v : Half) (s : State) : Except Status State :=
  .ok (Phaser.list.foldl handRelease (s.setSeqParams { s.ps.params with releaseDuty := clampNat 3000 10000 v.toNat }))

/-- A release threshold stored (R126). -/
def storeThreshold (w : ThresholdParam) (v : Half) (q : SeqParams) : SeqParams :=
  match w with
  | .temperature => { q with releaseTemp := clampInt (-20) 120 v.toInt }
  | .speed => { q with releaseSpeed := clampNat 500 6000 v.toNat }
  | .hysteresis => { q with hysteresis := min 1000 v.toNat }

/-- R126: the write of a release threshold causes an evaluation (R108). -/
def writeThreshold (w : ThresholdParam) (v : Half) (s : State) : Except Status State :=
  .ok (evaluateAll (s.setSeqParams (storeThreshold w v s.ps.params)))

/-- The track time or the fault time stored (R126). -/
def storeTime (w : TimeParam) (v : Half) (q : SeqParams) : SeqParams :=
  match w with
  | .track => { q with trackTime := clampNat 20 2000 v.toNat }
  | .fault => { q with faultTime := clampNat 20 5000 v.toNat }

/-- R126: a fault time below the track time is refused. -/
def writeTime (w : TimeParam) (v : Half) (s : State) : Except Status State :=
  if (storeTime w v s.ps.params).faultTime < (storeTime w v s.ps.params).trackTime then .error .badValue
  else .ok (s.setSeqParams (storeTime w v s.ps.params))

/-- R126. -/
def writeHomeBand (v : Half) (s : State) : Except Status State :=
  .ok (s.setSeqParams { s.ps.params with homeBand := clampNat 4 160 v.toNat })

/-- R126. -/
def writeReleaseInterval (v : Half) (s : State) : Except Status State :=
  .ok (s.setSeqParams { s.ps.params with releaseInterval := clampNat 20 500 v.toNat })

/-- R126. -/
def writeReturnTimeout (v : Half) (s : State) : Except Status State :=
  .ok (s.setSeqParams { s.ps.params with returnTimeout := clampNat 50 2000 v.toNat })

/-- R126. -/
def writeLatchInterval (v : Half) (s : State) : Except Status State :=
  .ok (s.setSeqParams { s.ps.params with latchInterval := clampNat 10 200 v.toNat })

/-- R126. -/
def writeTrackBand (v : Half) (s : State) : Except Status State :=
  .ok (s.setSeqParams { s.ps.params with trackBand := clampNat 16 960 v.toNat })

/-- R126. -/
def writeFreshnessTime (v : Half) (s : State) : Except Status State :=
  .ok (s.setSeqParams { s.ps.params with freshnessTime := clampNat 50 1000 v.toNat })

/-! ### The Loop Unit (R144, R145) -/

/-- R144. -/
def writeKp (p : Phaser) (v : Half) (s : State) : Except Status State :=
  .ok (s.setLoopParams p { (s.loop p).params with kp := min 2047 v.toNat })

/-- R144. -/
def writeKi (p : Phaser) (v : Half) (s : State) : Except Status State :=
  .ok (s.setLoopParams p { (s.loop p).params with ki := min 255 v.toNat })

/-- R144. -/
def writeNd (p : Phaser) (v : Half) (s : State) : Except Status State :=
  .ok (s.setLoopParams p { (s.loop p).params with nd := clampNat 1000 9000 v.toNat })

/-- The loop record with an integrator limit, the integrator clamped into it (R145). -/
def Loop.limited (l : Loop) (ilim : Nat) : Loop :=
  { l with integrator := clampInt (-(ilim * 256 : Nat)) (ilim * 256 : Nat) l.integrator,
           params := { l.params with ilim := ilim } }

/-- R144, R145. -/
def writeIlim (p : Phaser) (v : Half) (s : State) : Except Status State :=
  .ok (s.setLoop p ((s.loop p).limited (min 5000 v.toNat)))

/-- R144: each duty limit is checked against the other as stored. -/
def writeDutyLimit (p : Phaser) (b : Bound) (v : Half) (s : State) : Except Status State :=
  let q := (s.loop p).params
  match b with
  | .lower =>
    if min 10000 v.toNat < q.dmax then .ok (s.setLoopParams p { q with dmin := min 10000 v.toNat })
    else .error .badValue
  | .upper =>
    if q.dmin < min 10000 v.toNat then .ok (s.setLoopParams p { q with dmax := min 10000 v.toNat })
    else .error .badValue

/-! ### The Valve Drivers (R150) -/

/-- The frequency stored for a written one: clamped, then rounded to a multiple of 10 (R150). -/
def storedFrequency (f : Nat) : Nat := (roundDiv (clampNat 100 1000 f) 10 * 10).toNat

/-- R150. -/
def writeFrequency (v : Half) (s : State) : Except Status State :=
  .ok { s with vd := { s.vd with frequency := storedFrequency v.toNat } }

/-! ### The commands (R181) -/

/-- The value of a parameter handed to its owner, read from the value field by the parameter's type (R181). -/
def writeParam (q : Param) (v : ValueField) : State → Except Status State :=
  match q with
  | .applyMode g => writeApplyMode g v.b0
  | .markAngle g => writeMarkAngle g v.half
  | .authority b p => writeAuthority p b v.half
  | .crank w => writeCrank w v.b0
  | .syncCam => writeSyncCam v.b0
  | .stopTime => writeStopTime v.half
  | .firingOffset => writeFiringOffset v.half
  | .toothList c => writeToothList c v.b0 v.angles
  | .camPolarity c => writePolarity c v.b0
  | .windowMargin => writeMargin v.half
  | .camLostCount => writeLostCount v.half
  | .releaseDuty => writeReleaseDuty v.half
  | .threshold w => writeThreshold w v.half
  | .homeBand => writeHomeBand v.half
  | .releaseInterval => writeReleaseInterval v.half
  | .returnTimeout => writeReturnTimeout v.half
  | .latchInterval => writeLatchInterval v.half
  | .trackBand => writeTrackBand v.half
  | .time w => writeTime w v.half
  | .freshnessTime => writeFreshnessTime v.half
  | .kp p => writeKp p v.half
  | .ki p => writeKi p v.half
  | .ilim p => writeIlim p v.half
  | .nd p => writeNd p v.half
  | .dutyLimit b p => writeDutyLimit p b v.half
  | .pwmFrequency => writeFrequency v.half

/-- The payload of a taken write and of a read: the identifier and the stored value (R181). -/
def paramPayload (q : Param) (s : State) : List Byte := q.ident :: (readParam q s).bytes

/-- The answer of an owner to a write: OK with the stored value, or its refusal with nothing changed (R181). -/
def ownWrite (q : Param) (write : State → Except Status State) (s : State) : State × Reply :=
  answer s ((write s).map fun t => (t, paramPayload q t))

/-- R181. -/
def ownSetParam (ident : Byte) (v : ValueField) (s : State) : State × Reply :=
  match Param.ofIdent ident with
  | none => (s, Reply.no .badField)
  | some q => ownWrite q (writeParam q v) s

/-- R181. -/
def ownGetParam (ident : Byte) (s : State) : State × Reply :=
  match Param.ofIdent ident with
  | none => (s, Reply.no .badField)
  | some q => (s, Reply.yes (paramPayload q s))

/-- GET_PARAM (R181). -/
def execGetParam (snd : Sender) (ident : Byte) (s : State) : Result :=
  .next (takeCommand (.getParam snd ident) .getParam snd (ownGetParam ident) s)

/-- SET_PARAM (R181). -/
def execSetParam (snd : Sender) (ident : Byte) (value : ValueField) (s : State) : Result :=
  .next (takeCommand (.setParam snd ident value) .setParam snd (ownSetParam ident value) s)

/-- SET_APPLY_MODE (R31). -/
def execSetApplyMode (snd : Sender) (g : Group) (value : Byte) (s : State) : Result :=
  .next (takeCommand (.setApplyMode snd g value) .setParam snd (ownWrite (.applyMode g) (writeApplyMode g value)) s)

/-- SET_MARK_ANGLE (R31). -/
def execSetMarkAngle (snd : Sender) (g : Group) (value : Half) (s : State) : Result :=
  .next (takeCommand (.setMarkAngle snd g value) .setParam snd (ownWrite (.markAngle g) (writeMarkAngle g value)) s)

/-- SET_AUTHORITY_WINDOW (R57, R58). -/
def execSetAuthorityWindow (snd : Sender) (p : Phaser) (b : Bound) (value : Half) (s : State) : Result :=
  .next (takeCommand (.setAuthorityWindow snd p b value) .setParam snd
    (ownWrite (.authority b p) (writeAuthority p b value)) s)

/-- SET_CRANK_GEOMETRY (R82). -/
def execSetCrankGeometry (snd : Sender) (which : CrankParam) (value : Byte) (s : State) : Result :=
  .next (takeCommand (.setCrankGeometry snd which value) .setParam snd
    (ownWrite (.crank which) (writeCrank which value)) s)

/-- SET_SYNC_CAM (R82, R83). -/
def execSetSyncCam (snd : Sender) (value : Byte) (s : State) : Result :=
  .next (takeCommand (.setSyncCam snd value) .setParam snd (ownWrite .syncCam (writeSyncCam value)) s)

/-- SET_TOOTH_LIST (R99). -/
def execSetToothList (snd : Sender) (c : Phaser) (count : Byte) (angles : AngleField) (s : State) : Result :=
  .next (takeCommand (.setToothList snd c count angles) .setParam snd
    (ownWrite (.toothList c) (writeToothList c count angles)) s)

/-- SET_CAM_POLARITY (R100). -/
def execSetCamPolarity (snd : Sender) (c : Phaser) (value : Byte) (s : State) : Result :=
  .next (takeCommand (.setCamPolarity snd c value) .setParam snd (ownWrite (.camPolarity c) (writePolarity c value)) s)

/-- SET_WINDOW_MARGIN (R100). -/
def execSetWindowMargin (snd : Sender) (value : Half) (s : State) : Result :=
  .next (takeCommand (.setWindowMargin snd value) .setParam snd (ownWrite .windowMargin (writeMargin value)) s)

/-- SET_CAM_LOST_COUNT (R100). -/
def execSetCamLostCount (snd : Sender) (value : Half) (s : State) : Result :=
  .next (takeCommand (.setCamLostCount snd value) .setParam snd (ownWrite .camLostCount (writeLostCount value)) s)

/-- SET_RELEASE_DUTY (R126). -/
def execSetReleaseDuty (snd : Sender) (value : Half) (s : State) : Result :=
  .next (takeCommand (.setReleaseDuty snd value) .setParam snd (ownWrite .releaseDuty (writeReleaseDuty value)) s)

/-- SET_RELEASE_THRESHOLDS (R108, R126). -/
def execSetReleaseThresholds (snd : Sender) (which : ThresholdParam) (value : Half) (s : State) : Result :=
  .next (takeCommand (.setReleaseThresholds snd which value) .setParam snd
    (ownWrite (.threshold which) (writeThreshold which value)) s)

/-- SET_TRACK_FAULT_TIME (R126). -/
def execSetTrackFaultTime (snd : Sender) (which : TimeParam) (value : Half) (s : State) : Result :=
  .next (takeCommand (.setTrackFaultTime snd which value) .setParam snd
    (ownWrite (.time which) (writeTime which value)) s)

/-- SET_INTEGRATOR_LIMIT (R145). -/
def execSetIntegratorLimit (snd : Sender) (p : Phaser) (value : Half) (s : State) : Result :=
  .next (takeCommand (.setIntegratorLimit snd p value) .setParam snd (ownWrite (.ilim p) (writeIlim p value)) s)

/-- SET_DUTY_LIMIT (R144). -/
def execSetDutyLimit (snd : Sender) (p : Phaser) (b : Bound) (value : Half) (s : State) : Result :=
  .next (takeCommand (.setDutyLimit snd p b value) .setParam snd
    (ownWrite (.dutyLimit b p) (writeDutyLimit p b value)) s)

/-- SET_PWM_FREQUENCY (R150). -/
def execSetPwmFrequency (snd : Sender) (value : Half) (s : State) : Result :=
  .next (takeCommand (.setPwmFrequency snd value) .setParam snd (ownWrite .pwmFrequency (writeFrequency value)) s)

end Sys2Proof.Machine
end

