-- ==== Sys2Proof/Machine/Readout.lean ====
section
/-! DEFINITION. The readouts READ_PHASER, RESOLVE and READ_ENGINE (R62, R81, R101, R127, R146, R160, R182, 10.8). -/

namespace Sys2Proof.Machine

open Sys2Proof

/-- A count that may be absent, 0xFFFF when it is (10.8). -/
def optionHalf (n : Option Nat) : Half :=
  match n with
  | none => 0xFFFF#16
  | some n => BitVec.ofNat 16 n

/-- The winner handle of a resolution record, absent outside SETPOINT (R46). -/
def Resolution.winner (r : Resolution) : Option Handle :=
  match r.disposition with
  | .setpoint h => some h
  | _ => none

/-- The held value and the held class, zeros when absent (10.8). -/
def Resolution.held (r : Resolution) : List Byte :=
  match r.disposition with
  | .hold v c => halfBytes (BitVec.ofInt 16 v) ++ [BitVec.ofNat 8 c.rank]
  | _ => [0#8, 0#8, 0#8]

/-- The last measurement and its age, zeros when absent (R86, 10.8). -/
def measurementBytes (m : Option Measurement) : List Byte :=
  match m with
  | none => [0#8, 0#8, 0#8, 0#8]
  | some m => 1#8 :: halfBytes (BitVec.ofInt 16 m.phase) ++ [BitVec.ofNat 8 m.age]

/-- The loop's part of a phaser readout: integrator, output, SAT (R146). -/
def Loop.bytes (l : Loop) : List Byte :=
  halfBytes (BitVec.ofInt 16 (roundDiv l.integrator 256)) ++ halfBytes (BitVec.ofNat 16 l.output) ++ [l.sat.byte]

/-- The phaser readout: 30 bytes (R182, 10.8). -/
def State.phaserReadout (s : State) (p : Phaser) : List Byte := List.flatten
  [[(s.phaser p).state.byte], halfBytes (shownTimer (s.phaser p).timer), halfBytes (optionHalf (s.phaser p).overBand),
   halfBytes (s.resolver p).record.target.half, [(s.resolver p).record.disposition.byte],
   handleBytes (s.resolver p).record.winner, halfBytes (BitVec.ofInt 16 (s.loop p).ramp),
   measurementBytes (s.cam p).last, (s.loop p).bytes,
   halfBytes (BitVec.ofNat 16 (s.channel p).commanded), halfBytes (BitVec.ofNat 16 (s.channel p).active),
   [(s.phGroup p).conds.statusByte, (s.phaser p).held.byte, (s.phaser p).causes.byte, BitVec.ofNat 8 (s.cam p).rejects,
    flagByte (s.phaser p).enable]]

/-- The resolution readout: 11 + 2n + 2m bytes (R62, R182, 10.8). -/
def Resolution.readout (r : Resolution) : List Byte := List.flatten
  [halfBytes r.target.half, [r.disposition.byte], handleBytes r.winner, r.held,
   [byteOfFlags [r.authClamp, r.limited], BitVec.ofNat 8 r.trims.length], r.trims.flatMap Handle.bytes,
   [BitVec.ofNat 8 r.limits.length], r.limits.flatMap Handle.bytes]

/-- The angle at the last tooth: the cycle angle in CYCLE_SYNC, the crank angle in CRANK_SYNC, absent otherwise (R81). -/
def Decoder.shownAngle (d : Decoder) : Option Nat :=
  match d.sync with
  | .cycleSync => some d.angle
  | .crankSync => some (d.toothIndex.getD 0 * d.pitch)
  | _ => none

/-- The rear-cylinder angle (R81). -/
def Decoder.rearAngle (d : Decoder) : Option Nat :=
  match d.sync with
  | .cycleSync => some (cyc (d.angle - d.firingOffset))
  | _ => none

/-- The tooth index byte, 0xFF when absent (10.8). -/
def Decoder.indexByte (d : Decoder) : Byte :=
  match d.toothIndex with
  | none => 0xFF#8
  | some k => BitVec.ofNat 8 k

/-- The three bytes of the last normal period, 0xFFFFFF when absent (10.8). -/
def Decoder.periodBytes (d : Decoder) : List Byte :=
  let w : BitVec 24 := match d.lastNormal with
    | none => 0xFFFFFF#24
    | some n => BitVec.ofNat 24 n
  [w.extractLsb' 16 8, w.extractLsb' 8 8, w.extractLsb' 0 8]

/-- The engine readout: 20 bytes (R81, R127, R182, 10.8). -/
def State.engineReadout (s : State) : List Byte := List.flatten
  [[s.ad.sync.byte, s.ad.indexByte], halfBytes (optionHalf s.ad.shownAngle), halfBytes (optionHalf s.ad.rearAngle),
   halfBytes (BitVec.ofNat 16 s.ad.speed), s.ad.periodBytes, [BitVec.ofNat 8 s.ad.doubt], reportPayload s,
   [flagByte s.ps.cond.fresh], halfBytes (shownTimer s.ps.cond.timer)]

/-- R182. -/
def ownReadPhaser (phaser : Byte) (s : State) : State × Reply :=
  match phaserOfByte phaser with
  | none => (s, Reply.no .badField)
  | some p => (s, Reply.yes (s.phaserReadout p))

/-- R62. -/
def ownResolve (phaser : Byte) (s : State) : State × Reply :=
  match phaserOfByte phaser with
  | none => (s, Reply.no .badField)
  | some p => (s, Reply.yes (s.resolver p).record.readout)

/-- READ_PHASER (R182). -/
def execReadPhaser (snd : Sender) (phaser : Byte) (s : State) : Result :=
  .next (takeCommand (.readPhaser snd phaser) .readPhaser snd (ownReadPhaser phaser) s)

/-- RESOLVE (R62). -/
def execResolve (snd : Sender) (phaser : Byte) (s : State) : Result :=
  .next (takeCommand (.resolve snd phaser) .resolve snd (ownResolve phaser) s)

/-- READ_ENGINE (R81, R127). -/
def execReadEngine (snd : Sender) (s : State) : Result :=
  .next (takeCommand (.readEngine snd) .readEngine snd (fun t => (t, Reply.yes t.engineReadout)) s)

end Sys2Proof.Machine
end

