-- ==== Sys2Proof/Machine/Resets.lean ====
section
/-! DEFINITION. The four resets: power-on, the RESET pin, VDD undervoltage, and the soft reset of RESET_DEVICE (R28, R29, R63,
R64, R84, R85, R102, R103, R128, R129, R147, R148, R161, R162, R171, R172, R183, R184). -/

namespace Sys2Proof.Machine

open Sys2Proof

/-! ### Power-on, pin and undervoltage resets -/

/-- The transaction after a reset: none while CS is high; where CS is low, abandoned until it rises (R184). -/
def Transaction.afterReset : Transaction → Transaction
  | .idle => .idle
  | _ => .abandoned

/-- The part right after a reset of a kind: every block at its reset values and RESET_OCCURRED latched (R28, R63, R84,
R102, R128, R147, R161, R171, R184; logs 4, 6, 23, 26). The model's own count of period ends runs on (log 22). Commands
that have not reached the part yet stay in their queue. -/
def hardReset (kind : ResetKind) (hot : Quad Bool) (s : State) : State :=
  { State.reset with
    vd := { Drivers.fresh hot with senses := s.vd.senses }, cm := Monitor.fresh kind,
    fp := { Port.reset with transaction := s.fp.transaction.afterReset },
    pending := s.pending }

/-- POWER_ON (R28, R171). -/
def execPowerOn (hot : Quad Bool) (s : State) : Result := .next (hardReset .power hot s)

/-- RESET_PIN (R28, R171). -/
def execResetPin (hot : Quad Bool) (s : State) : Result := .next (hardReset .pin hot s)

/-- VDD_UNDERVOLTAGE_RESET: its kind is POWER (R28, R171). -/
def execVddUndervoltageReset (hot : Quad Bool) (s : State) : Result := .next (hardReset .power hot s)

/-! ### The soft reset -/

/-- A resolver at a soft reset: the record as R63 states; the window is kept (R64). DESIGN CHOICE, log 44: the departure notes kept
and the recomputes asked for and not yet taken are dropped. -/
def Resolver.softReset (r : Resolver) : Resolver := Resolver.fresh r.amin r.amax

/-- A phaser record at a soft reset: STOPPED, or OFF where the enable is off (R129). -/
def PhaserRec.softReset (x : PhaserRec) : PhaserRec :=
  { PhaserRec.reset with state := if x.enable then .stopped else .off, enable := x.enable }

/-- A loop record at a soft reset: the parameters are kept, and a measurement delivered before it causes no step (R132,
R148). -/
def Loop.softReset (l : Loop) : Loop :=
  { l with ramp := 0, integrator := 0, lastStep := none, stepAge := none, output := 0, sat := .none, delivered := [] }

/-- A channel at a soft reset, with its place in the period: the output OFF, duties and counts 0; the period, the hold and
the marks of the period are kept (R162; log 32). A phaser whose enable is off has its diagnostics suspended (R129). -/
def Channel.softReset (c : Channel) (position : Nat) (enabled : Bool) : Channel :=
  { c.cut position with
    commanded := 0, active := 0, ocCount := 0, openFail := 0, openPass := 0, suspended := !enabled }

/-- The conditions of a phaser group at a soft reset: all clear but CAM_LOST, nothing latched (R172). -/
def PhConds.softReset (c : PhConds) : PhConds := { PhConds.clear with camLost := c.camLost.unlatched }

/-- A phaser group at a soft reset: no latch record, the enables kept (R172). -/
def PhGroup.softReset (g : PhGroup) : PhGroup :=
  { g with conds := g.conds.softReset, expired := none, overrun := none, reject := none }

/-- DEV at a soft reset: no latch record but RESET_OCCURRED(SOFT); status and enables kept (R172). -/
def DevGroup.softReset (d : DevGroup) : DevGroup := { d.unlatched with resetOccurred := some ⟨1, .soft⟩ }

/-- The channels at a soft reset. -/
def softChannels (s : State) : Quad Channel :=
  let f := fun p => (s.channel p).softReset ((s.channel p).position s.counter) (s.phaser p).enable
  ⟨f .fi, f .fe, f .ri, f .re⟩

/-- The soft reset, each block by its own rule; the Angle Decoder, Edge Capture, the engine condition record and every
parameter are kept (R183). -/
def softReset (s : State) : State :=
  { s with
    rt := { s.rt with slots := Slots.empty },
    tr := s.tr.map Resolver.softReset,
    ps := { s.ps with phasers := s.ps.phasers.map PhaserRec.softReset },
    lu := s.lu.map Loop.softReset,
    vd := { s.vd with channels := softChannels s },
    cm := { ph := s.cm.ph.map PhGroup.softReset, dev := s.cm.dev.softReset } }

/-- RESET_DEVICE (R183). -/
def execResetDevice (snd : Sender) (s : State) : Result :=
  .next (takeCommand (.resetDevice snd) .resetDevice snd (fun t => (softReset t, Reply.yes [])) s)

end Sys2Proof.Machine
end

