-- ==== Sys2Proof/Machine/Time.lean ====
section
/-! DEFINITION. The advance of the millisecond time base (R8): deadlines and timers decrease, ages and over-band times
increase. -/

namespace Sys2Proof.Machine

open Sys2Proof

/-- A slot at an advance: its record's deadline decreases (R8). -/
def Slot.advance (x : Slot) : Slot :=
  { x with record := x.record.map fun r => { r with deadline := tickDown r.deadline } }

/-- A cam at an advance: the measurement age increases (R95). -/
def Cam.advance (k : Cam) : Cam := { k with last := k.last.map fun m => { m with age := bump 255 m.age } }

/-- A loop record at an advance: a running step age increases (R131). -/
def Loop.advance (l : Loop) : Loop := { l with stepAge := l.stepAge.map (bump 17) }

/-- A phaser record at an advance: the state timer decreases, a running over-band time increases and is compared with the
track time, unless TRACK_ERR stands declared, and with the fault time (R104, R115; logs 8, 19). -/
def PhaserRec.advance (x : PhaserRec) (trackErr : Bool) (q : SeqParams) : PhaserRec :=
  match x.overBand with
  | none => { x with timer := tickDown x.timer }
  | some n =>
    let m := bump 65535 n
    { x with timer := tickDown x.timer, overBand := some m,
             trackDue := x.trackDue || (decide (q.trackTime ≤ m) && !trackErr),
             faultDue := x.faultDue || decide (q.faultTime ≤ m) }

/-- The Sequencer's records at an advance. -/
def advancePhasers (s : State) : Quad PhaserRec :=
  let f := fun p => (s.phaser p).advance (s.stands p .trackErr) s.ps.params
  ⟨f .fi, f .fe, f .ri, f .re⟩

/-- Everything that an earlier advance has found run out and that still waits, taken: a deadline, a timer and an over-band time
expire at the advance at which they run out, so none of them passes the next one (R8, R24, R68, R104, R107, R115; log 9). -/
def takeRunOut (s : State) : State :=
  let s := slotNumbers.foldl (fun s i => expireSlot i s) s
  let s := Phaser.list.foldl (fun s p => takeTimers p s) s
  stopEngine (goStale s)

/-- An advance of the millisecond time base (R8, R68, R95, R104, R107, R115, R131). -/
def advanceTimeBase (s : State) : State :=
  { s with
    rt := { s.rt with slots := s.rt.slots.map Slot.advance },
    ad := { s.ad with stopTimer := tickDown s.ad.stopTimer },
    ec := { s.ec with cams := s.ec.cams.map Cam.advance },
    ps := { s.ps with phasers := advancePhasers s, cond := { s.ps.cond with timer := tickDown s.ps.cond.timer } },
    lu := s.lu.map Loop.advance }

/-- TIME_BASE_ADVANCE (R8): the time base advances once every 8,000 capture ticks, so the capture counter stands at the
next multiple of them (log 5). What the advance before has found run out is taken first (log 9). -/
def execTimeBaseAdvance (s : State) : Result :=
  let s := takeRunOut s
  .next (advanceTimeBase { s with counter := s.counter + BitVec.ofNat 24 (Config.ticksPerMs - s.msTicks), msTicks := 0 })

end Sys2Proof.Machine
end

