-- ==== Sys2Proof/Machine/Dispatch.lean ====
section
/-! DEFINITION. The one dispatch from a command to its meaning. -/

namespace Sys2Proof.Machine

open Sys2Proof

/-- The effect of a command on everything but the queue. -/
def exec (i : Instr) (s : State) : Host.Outcome State Fault Refusal :=
  match i with
  | .powerOn hot => Sys2Proof.Machine.execPowerOn hot s
  | .resetPin hot => Sys2Proof.Machine.execResetPin hot s
  | .vddUndervoltageReset hot => Sys2Proof.Machine.execVddUndervoltageReset hot s
  | .transactionStart => Sys2Proof.Machine.execTransactionStart s
  | .transactionEnd sdi => Sys2Proof.Machine.execTransactionEnd sdi s
  | .nop snd => Sys2Proof.Machine.execNop snd s
  | .post snd key content => Sys2Proof.Machine.execPost snd key content s
  | .change snd h kind content => Sys2Proof.Machine.execChange snd h kind content s
  | .retire snd h => Sys2Proof.Machine.execRetire snd h s
  | .renew snd h => Sys2Proof.Machine.execRenew snd h s
  | .renewClass snd cls => Sys2Proof.Machine.execRenewClass snd cls s
  | .apply snd selection => Sys2Proof.Machine.execApply snd selection s
  | .find snd key => Sys2Proof.Machine.execFind snd key s
  | .readRecord snd h => Sys2Proof.Machine.execReadRecord snd h s
  | .list snd => Sys2Proof.Machine.execList snd s
  | .readPhaser snd phaser => Sys2Proof.Machine.execReadPhaser snd phaser s
  | .resolve snd phaser => Sys2Proof.Machine.execResolve snd phaser s
  | .readEngine snd => Sys2Proof.Machine.execReadEngine snd s
  | .reportConditions snd oil temperature battery => Sys2Proof.Machine.execReportConditions snd oil temperature battery s
  | .enablePhaser snd phaser setting => Sys2Proof.Machine.execEnablePhaser snd phaser setting s
  | .clearFault snd phaser => Sys2Proof.Machine.execClearFault snd phaser s
  | .readEvents snd group => Sys2Proof.Machine.execReadEvents snd group s
  | .setEventEnables snd group enables groupEnable => Sys2Proof.Machine.execSetEventEnables snd group enables groupEnable s
  | .resetDevice snd => Sys2Proof.Machine.execResetDevice snd s
  | .getParam snd ident => Sys2Proof.Machine.execGetParam snd ident s
  | .setParam snd ident value => Sys2Proof.Machine.execSetParam snd ident value s
  | .setApplyMode snd g value => Sys2Proof.Machine.execSetApplyMode snd g value s
  | .setMarkAngle snd g value => Sys2Proof.Machine.execSetMarkAngle snd g value s
  | .setAuthorityWindow snd p b value => Sys2Proof.Machine.execSetAuthorityWindow snd p b value s
  | .setCrankGeometry snd which value => Sys2Proof.Machine.execSetCrankGeometry snd which value s
  | .setSyncCam snd value => Sys2Proof.Machine.execSetSyncCam snd value s
  | .setToothList snd c count angles => Sys2Proof.Machine.execSetToothList snd c count angles s
  | .setCamPolarity snd c value => Sys2Proof.Machine.execSetCamPolarity snd c value s
  | .setWindowMargin snd value => Sys2Proof.Machine.execSetWindowMargin snd value s
  | .setCamLostCount snd value => Sys2Proof.Machine.execSetCamLostCount snd value s
  | .setReleaseDuty snd value => Sys2Proof.Machine.execSetReleaseDuty snd value s
  | .setReleaseThresholds snd which value => Sys2Proof.Machine.execSetReleaseThresholds snd which value s
  | .setTrackFaultTime snd which value => Sys2Proof.Machine.execSetTrackFaultTime snd which value s
  | .setIntegratorLimit snd p value => Sys2Proof.Machine.execSetIntegratorLimit snd p value s
  | .setDutyLimit snd p b value => Sys2Proof.Machine.execSetDutyLimit snd p b value s
  | .setPwmFrequency snd value => Sys2Proof.Machine.execSetPwmFrequency snd value s
  | .timeBaseAdvance => Sys2Proof.Machine.execTimeBaseAdvance s
  | .expiry slot => Sys2Proof.Machine.execExpiry slot s
  | .recompute p => Sys2Proof.Machine.execRecompute p s
  | .crankTooth rising held stamp order => Sys2Proof.Machine.execCrankTooth rising held stamp order s
  | .controlStep p => Sys2Proof.Machine.execControlStep p s
  | .camEdge c rising held stamp => Sys2Proof.Machine.execCamEdge c rising held stamp s
  | .stopTimerExpiry => Sys2Proof.Machine.execStopTimerExpiry s
  | .syncDepartureHandling => Sys2Proof.Machine.execSyncDepartureHandling s
  | .freshnessTimerExpiry => Sys2Proof.Machine.execFreshnessTimerExpiry s
  | .releaseIntervalExpiry p => Sys2Proof.Machine.execReleaseIntervalExpiry p s
  | .returnTimeoutExpiry p => Sys2Proof.Machine.execReturnTimeoutExpiry p s
  | .latchIntervalExpiry p => Sys2Proof.Machine.execLatchIntervalExpiry p s
  | .overBandTrackTime p => Sys2Proof.Machine.execOverBandTrackTime p s
  | .overBandFaultTime p => Sys2Proof.Machine.execOverBandFaultTime p s
  | .periodStart p => Sys2Proof.Machine.execPeriodStart p s
  | .endOfOnTime p => Sys2Proof.Machine.execEndOfOnTime p s
  | .periodEnd p loadSeen => Sys2Proof.Machine.execPeriodEnd p loadSeen s
  | .overcurrent p => Sys2Proof.Machine.execOvercurrent p s
  | .thermalHoldSet p => Sys2Proof.Machine.execThermalHoldSet p s
  | .thermalHoldClear p => Sys2Proof.Machine.execThermalHoldClear p s
  | .driverConditionFault p cause => Sys2Proof.Machine.execDriverConditionFault p cause s

end Sys2Proof.Machine
end

