-- ==== Sys2Proof/Machine/Own.lean ====
section
/-! DEFINITION. What the part does on its own while no command or event from outside waits: the events its blocks owe, in a
fixed order (log 1). -/

namespace Sys2Proof.Machine

open Sys2Proof

/-- A command, if a condition holds. -/
def onlyIf (b : Bool) (i : Instr) : List Instr := if b then [i] else []

/-- The driver conditions a phaser is owed (R158). -/
def owedFaults (s : State) (p : Phaser) : List Instr := List.flatten
  [onlyIf (s.phaser p).declared.drvOpen (.driverConditionFault p .drvOpen),
   onlyIf (s.phaser p).declared.drvShort (.driverConditionFault p .drvShort),
   onlyIf (s.phaser p).declared.drvHot (.driverConditionFault p .drvHot)]

/-- The timer events of a phaser whose time has come (R113, R115, R116). -/
def owedTimers (s : State) (p : Phaser) : List Instr := List.flatten
  [onlyIf (s.timerDue p .releasing) (.releaseIntervalExpiry p),
   onlyIf (s.timerDue p .returning) (.returnTimeoutExpiry p),
   onlyIf (s.timerDue p .latching) (.latchIntervalExpiry p),
   onlyIf ((s.phaser p).trackDue && !(s.phaser p).faultDue && decide ((s.phaser p).state = .tracking))
     (.overBandTrackTime p),
   onlyIf ((s.phaser p).faultDue && decide ((s.phaser p).state = .tracking)) (.overBandFaultTime p)]

/-- The PWM events of an output whose time has come; the outcome of the load check at a period end that nobody has sent is a
free value (R150, R151, R155; log 22). -/
def owedPwm (s : State) (p : Phaser) : List Instr := List.flatten
  [onlyIf ((s.channel p).offDue s.counter) (.endOfOnTime p),
   onlyIf ((s.channel p).endDue s.counter) (.periodEnd p (Config.loadSensed s.vd.senses)),
   onlyIf ((s.channel p).startDue s.counter) (.periodStart p)]

/-- Everything the part owes, in the order in which it is taken; the command in hand comes last (log 1). -/
def State.owed (s : State) : List Instr := List.flatten
  [onlyIf s.ps.departed .syncDepartureHandling,
   Phaser.list.flatMap (owedFaults s),
   Phaser.list.flatMap fun p => onlyIf (!(s.loop p).delivered.isEmpty) (.controlStep p),
   Phaser.list.flatMap fun p => onlyIf (!(s.resolver p).asked.isEmpty) (.recompute p),
   slotNumbers.flatMap fun i => onlyIf ((s.rt.slots.get i).record.any fun r => runOut r.deadline) (.expiry i),
   Phaser.list.flatMap (owedTimers s),
   onlyIf (runOut s.ps.cond.timer) .freshnessTimerExpiry,
   onlyIf (runOut s.ad.stopTimer) .stopTimerExpiry,
   Phaser.list.flatMap (owedPwm s),
   s.fp.work.toList]

/-- A tick of the part's clock at which the time base does not advance (00_scope.md, R8). -/
def State.tick (s : State) : State := { s with counter := s.counter + 1, msTicks := s.msTicks + 1 }

/-- What the part does on its own: the first event it owes; when it owes none, the advance of the time base at every
8,000th tick, and a plain tick otherwise (R8; log 1). -/
def State.own (s : State) : Option Instr :=
  match s.owed with
  | i :: _ => some i
  | [] => if Config.ticksPerMs ≤ s.msTicks + 1 then some .timeBaseAdvance else none

end Sys2Proof.Machine
end

