-- ==== Sys2Proof/Machine/Step.lean ====
section
/-! DEFINITION. One step of the part, and the placing of a command that a word spells. -/

namespace Sys2Proof.Machine

open Sys2Proof

/-- One step: the command at the front of the queue, run with the queue's rest; on an empty queue the part does what it
owes, or lets one tick of its clock pass (log 1). -/
def step (s : State) : Host.Outcome State Fault Refusal :=
  match s.pending with
  | i :: rest => exec i { s with pending := rest }
  | [] =>
    match s.own with
    | some i => exec i s
    | none => .next s.tick

/-- The state with the command a word spells at the front of its queue. No row of the table has bits, so no word spells
one (log 3). -/
def State.withFetchWord (s : State) (nbits w : Nat) : State :=
  match decodeTableWord nbits w with
  | some i => { s with pending := i :: s.pending }
  | none => s

end Sys2Proof.Machine
end

