-- ==== Sys2Proof/Safety.lean ====
section
/-! DEFINITION. What a lawful state of the part is: the laws that the manual states of its records, in the terms the statements
use, and the blocks that each command may touch. -/

namespace Sys2Proof.Machine

open Sys2Proof

/-! ### The Request Table (R1, R2, R4, R6, R8) -/

/-- The ranges of a content (R6). -/
def Content.inRange : Content → Prop
  | .setpoint (.au v) slew _ k => -5760 ≤ v ∧ v ≤ 5759 ∧ slew ≤ 4000 ∧ k ≤ 255
  | .setpoint .park slew _ k => slew ≤ 4000 ∧ k ≤ 255
  | .trim o k => -2048 ≤ o ∧ o ≤ 2047 ∧ k ≤ 255
  | .limit lo hi k => -5760 ≤ lo ∧ hi ≤ 5759 ∧ lo ≤ hi ∧ k ≤ 255

/-- The contents of a record are in range and of the record's kind (R6). -/
def Record.contentsOk (r : Record) : Prop :=
  ∀ c : Content, (r.life.active = some c ∨ r.life.pending = some c) → c.inRange ∧ c.kind = r.key.kind

/-- A record has a deadline exactly while its active content has a keep-alive interval above 0, and the deadline is at
most that interval (R1, R8). -/
def Record.deadlineOk (r : Record) : Prop :=
  match r.life.active with
  | none => r.deadline = none
  | some c => if c.keepAlive = 0 then r.deadline = none else ∃ n, r.deadline = some n ∧ n ≤ c.keepAlive * 10

/-- The law of the Request Table: records as R1, R6 and R8 state, and no two with the same key (R2). -/
def TableLaw (s : State) : Prop :=
  (∀ i r, (s.rt.slots.get i).record = some r → r.contentsOk ∧ r.deadlineOk) ∧
  (∀ i j r q, (s.rt.slots.get i).record = some r → (s.rt.slots.get j).record = some q → r.key = q.key → i = j)

/-! ### Windows, targets and the loop (R47, R57, R59, R131, R144) -/

/-- The law of an authority window (R57). -/
def Resolver.windowOk (r : Resolver) : Prop := -5760 ≤ r.amin ∧ r.amin < 0 ∧ 0 < r.amax ∧ r.amax ≤ 5759

/-- The effective target is PARK or lies within the window (R47). -/
def Resolver.targetOk (r : Resolver) : Prop :=
  match r.record.target with
  | .park => True
  | .au v => r.amin ≤ v ∧ v ≤ r.amax

/-- The law of the windows, the effective targets and the ramp targets of all phasers (R47, R57, R59). -/
def WindowLaw (s : State) : Prop :=
  ∀ p, (s.resolver p).windowOk ∧ (s.resolver p).targetOk ∧
    (s.resolver p).amin ≤ (s.loop p).ramp ∧ (s.loop p).ramp ≤ (s.resolver p).amax

/-- The law of the loops: the integrator within its limit; outside TRACKING an integrator of 0, no step time and no delivered
measurement waiting (R131, R132, R138, R143, R144, R145). -/
def LoopLaw (s : State) : Prop :=
  ∀ p, (s.loop p).params.ilim ≤ 5000 ∧
    -((s.loop p).params.ilim * 256 : Nat) ≤ (s.loop p).integrator ∧
    (s.loop p).integrator ≤ ((s.loop p).params.ilim * 256 : Nat) ∧
    ((s.phaser p).state ≠ .tracking →
      (s.loop p).integrator = 0 ∧ (s.loop p).lastStep = none ∧ (s.loop p).stepAge = none ∧ (s.loop p).delivered = [])

/-- The law of the commanded duties: at most 10,000, and non-zero only while the phaser is RELEASING or TRACKING
(R105). -/
def DutyLaw (s : State) : Prop :=
  s.ps.params.releaseDuty ≤ 10000 ∧
  ∀ p, (s.channel p).commanded ≤ 10000 ∧
    ((s.channel p).commanded ≠ 0 → (s.phaser p).state = .releasing ∨ (s.phaser p).state = .tracking)

/-! ### The Sequencer (R104, R110, R115, R119, R122, R124) -/

/-- The law of one phaser: OFF exactly while its enable is off; FAULTED exactly while its cause set is not empty and while
FAULTED stands declared; the over-band time and TRACK_ERR in TRACKING only; RELEASE_HELD in PARKED, RETURNING and
LATCHING only; a state timer exactly in the three states that start one (R104, R110, R115, R119, R122). -/
def phaserOk (s : State) (p : Phaser) : Prop :=
  ((s.phaser p).state = .off ↔ (s.phaser p).enable = false) ∧
  ((s.phaser p).state = .faulted ↔ (s.phaser p).causes ≠ CauseSet.empty) ∧
  ((s.phaser p).state = .faulted ↔ s.stands p .faulted = true) ∧
  ((s.phaser p).overBand ≠ none → (s.phaser p).state = .tracking) ∧
  (s.stands p .trackErr = true → (s.phaser p).state = .tracking) ∧
  (s.stands p .releaseHeld = true →
    (s.phaser p).state = .parked ∨ (s.phaser p).state = .returning ∨ (s.phaser p).state = .latching) ∧
  ((s.phaser p).timer ≠ none ↔
    (s.phaser p).state = .releasing ∨ (s.phaser p).state = .returning ∨ (s.phaser p).state = .latching)

/-- The law of the phaser records. -/
def PhaserLaw (s : State) : Prop := ∀ p, phaserOk s p

/-- The law of a departure from CYCLE_SYNC: outside CYCLE_SYNC, once its handling is not owed, every phaser is STOPPED,
OFF or FAULTED (R124). -/
def DepartureLaw (s : State) : Prop :=
  s.ad.sync ≠ .cycleSync → s.ps.departed = false →
    ∀ p, (s.phaser p).state = .stopped ∨ (s.phaser p).state = .off ∨ (s.phaser p).state = .faulted

/-! ### Angle Decoder and Edge Capture (R67, R86, R88) -/

/-- The law of the decoder record and of Edge Capture: which fields are present in which sync state, and empty edge queues
outside CYCLE_SYNC, of at most two edges within it (R67, R86, R88). -/
def SyncLaw (s : State) : Prop :=
  (s.ad.toothIndex ≠ none ↔ s.ad.sync = .crankSync ∨ s.ad.sync = .cycleSync) ∧
  (s.ad.half ≠ none ↔ s.ad.sync = .cycleSync) ∧
  (s.ad.prevTooth = none ↔ s.ad.sync = .stopped) ∧
  (s.ad.stopTimer = none ↔ s.ad.sync = .stopped) ∧
  (s.ec.bracket ≠ none ↔ s.ad.sync = .cycleSync) ∧
  ∀ c, (s.cam c).queue.length ≤ 2 ∧ (s.ad.sync ≠ .cycleSync → (s.cam c).queue = []) ∧
    (s.cam c).marks.length = (s.cam c).teeth.length

/-! ### The Condition Monitor (R163) -/

/-- The law of the condition status: each condition of DEV and LIMITED stand as their owners' records do (R61, R80, R107,
R163). -/
def StatusLaw (s : State) : Prop :=
  (s.cm.dev.cycleSync.declared = true ↔ s.ad.sync = .cycleSync) ∧
  (s.cm.dev.engineStopped.declared = true ↔ s.ad.sync = .stopped) ∧
  (s.cm.dev.condStale.declared = true ↔ s.ps.cond.fresh = false) ∧
  ∀ p, s.stands p .limited = (s.resolver p).record.limited

/-! ### What the statements read of a phaser -/

/-- No condition stands declared that can fault a phaser (R119). -/
def State.unfaulted (s : State) (p : Phaser) : Bool :=
  !(s.stands p .camLost || s.stands p .drvOpen || s.stands p .drvShort || s.stands p .drvHot)

/-- The phaser is RELEASING or TRACKING. -/
def State.driven (s : State) (p : Phaser) : Prop := (s.phaser p).state = .releasing ∨ (s.phaser p).state = .tracking

/-- The phaser is in one of the three states in which RELEASE_HELD can hold (R110). -/
def State.waiting (s : State) (p : Phaser) : Prop :=
  (s.phaser p).state = .parked ∨ (s.phaser p).state = .returning ∨ (s.phaser p).state = .latching

/-- The phaser has been sent home: RETURNING with the return timeout running and no duty (R105, R116). -/
def State.sentHome (s : State) (p : Phaser) : Prop :=
  (s.phaser p).state = .returning ∧ (s.phaser p).timer = some s.ps.params.returnTimeout ∧ (s.channel p).commanded = 0

/-- The phaser has been released: RELEASING with the release interval running and the release duty (R105, R113). -/
def State.released (s : State) (p : Phaser) : Prop :=
  (s.phaser p).state = .releasing ∧ (s.phaser p).timer = some s.ps.params.releaseInterval ∧
    (s.channel p).commanded = s.ps.params.releaseDuty

/-- The loop record carries no trace of a step: what a departure leaves (R118, R132, R143). -/
def Loop.atRest (l : Loop) : Prop :=
  l.integrator = 0 ∧ l.lastStep = none ∧ l.stepAge = none ∧ l.delivered = []

/-- What an evaluation of release permission does with a phaser, from state `s` to state `t`, whose record of conditions, speed
and sync state are those it reads (R108 to R110, R112, R117). RELEASE_HELD follows its three conditions, and its cause list names
the failing checks but the sync check; it is empty while the condition is clear (MODEL'S CHOICE, log 36). Where no condition
stands that faults the phaser: with a numeric target and permission a PARKED one is released and a RETURNING one tracks; the other
waiting ones keep their state; a driven one goes home exactly where permission is withdrawn. -/
def evaluated (p : Phaser) (s t : State) : Prop :=
  let c := t.ps.cond
  let failing : HeldCauses := ⟨!c.fresh, !(c.fresh && c.oilOk), decide (c.temperature < t.ps.params.releaseTemp),
    decide (t.ad.speed < t.ps.params.releaseSpeed)⟩
  (t.stands p .releaseHeld = true ↔ t.numeric p = true ∧ t.permission = false ∧ t.waiting p) ∧
  (t.phaser p).held = (if t.stands p .releaseHeld then failing else HeldCauses.empty) ∧
  (s.unfaulted p = true →
    (t.permission = true → (s.phaser p).state = .parked → s.numeric p = true → t.released p) ∧
    (t.permission = true → (s.phaser p).state = .returning → s.numeric p = true → (t.phaser p).state = .tracking) ∧
    ((t.permission && s.numeric p) = false ∨ (s.phaser p).state = .latching → s.waiting p →
      (t.phaser p).state = (s.phaser p).state) ∧
    (s.driven p → (s.phaser p).faultDue = false →
      (t.withdrawn = true → t.sentHome p ∧ (t.loop p).atRest) ∧
      (t.withdrawn = false → (t.phaser p).state = (s.phaser p).state ∧ t.loop p = s.loop p ∧
        t.channel p = s.channel p)))

/-- What the Sequencer does with the effective target of a phaser that a recompute from state `s` to state `t` hands to it, where
no over-band event waits (R60, R108, R110, R112, R113, R115, R117). PARK sends a driven phaser home; a target left as it was, and a
numeric one handed to a driven phaser, do nothing. A change from one numeric value to another moves no phaser, and RELEASE_HELD
follows its three conditions (MODEL'S CHOICE, log 35). A numeric target that appears is an evaluation, of which the clauses speak
where no condition stands that faults the phaser. -/
def targetTaken (p : Phaser) (s t : State) : Prop :=
  (s.phaser p).trackDue = false → (s.phaser p).faultDue = false →
  let was := (s.resolver p).record.target
  let target := (t.resolver p).record.target
  (was = target ∨ s.driven p → (target ≠ .park ∨ ¬ s.driven p) →
    t.phaser p = s.phaser p ∧ t.loop p = s.loop p ∧ t.channel p = s.channel p ∧
    t.stands p .releaseHeld = s.stands p .releaseHeld) ∧
  ((s.phaser p).state = .stopped ∨ (s.phaser p).state = .faulted ∨ (s.phaser p).state = .off →
    (t.phaser p).state = (s.phaser p).state ∧ t.loop p = s.loop p ∧ t.channel p = s.channel p) ∧
  (was ≠ target → was ≠ .park → s.waiting p →
    (t.phaser p).state = (s.phaser p).state ∧ t.loop p = s.loop p ∧ t.channel p = s.channel p ∧
    t.stands p .releaseHeld = (decide (target ≠ .park) && !s.permission) ∧
    (target ≠ .park → s.permission = false → (t.phaser p).held = s.failing)) ∧
  (s.unfaulted p = true →
    (target = .park → s.driven p → t.sentHome p ∧ (t.loop p).atRest ∧ t.stands p .releaseHeld = false ∧
      ((s.phaser p).state = .tracking → (t.phaser p).overBand = none ∧ t.stands p .trackErr = false)) ∧
    (was = .park → target ≠ .park →
      ((s.phaser p).state = .parked → s.permission = true → t.released p) ∧
      ((s.phaser p).state = .returning → s.permission = true → (t.phaser p).state = .tracking) ∧
      ((s.phaser p).state = .latching → s.permission = true →
        (t.phaser p).state = .latching ∧ t.stands p .releaseHeld = false) ∧
      (s.waiting p → s.permission = false →
        (t.phaser p).state = (s.phaser p).state ∧ t.stands p .releaseHeld = true ∧ (t.phaser p).held = s.failing)))

/-! ### What the statements follow of a cam through a tooth -/

/-- The record of a cam, whether CAM_LOST stands, and the latch record of WINDOW_REJECT. -/
structure CamView where
  cam      : Cam
  lost     : Bool
  rejected : Option (PureLatch Unit)
  deriving DecidableEq, Repr

/-- A cam as it stands. -/
def State.camView (s : State) (c : Phaser) : CamView := ⟨s.cam c, s.stands c .camLost, (s.phGroup c).reject⟩

/-- A placed edge, taken as a measurement of the tooth it belongs to or as a reject (R92, R93, R94). -/
def CamView.edge (lo hi : Int) (x : CamView) (edge : Nat) : CamView :=
  match associate x.cam.teeth edge lo hi with
  | none =>
    { x with cam := { x.cam with rejects := min 255 (x.cam.rejects + 1) },
             rejected := match x.rejected with
               | none => some ⟨1, ()⟩
               | some l => some ⟨min 255 (l.count + 1), ()⟩ }
  | some (k, phase) =>
    { x with cam := { x.cam with last := some ⟨phase, 0⟩, miss := 0, marks := x.cam.marks.set k true }, lost := false }

/-- The window-end test of the k-th tooth: a satisfied mark is taken back, an unsatisfied one is a miss, and CAM_LOST is
declared at the cam-lost count (R96, R97). -/
def CamView.windowEnd (amin : Int) (margin lostCount prev now : Nat) (x : CamView) (k : Nat) : CamView :=
  if crossed (((x.cam.teeth.getD k 0 : Int) - amin + margin) % 11520).toNat prev now then
    if x.cam.marks.getD k true then { x with cam := { x.cam with marks := x.cam.marks.set k false } }
    else { x with cam := { x.cam with miss := min 255 (x.cam.miss + 1) },
                  lost := x.lost || decide (lostCount ≤ min 255 (x.cam.miss + 1)) }
  else x

/-! ### Taking a command -/

/-- A framed command is taken: the port has no other command in hand, and the issuer class is 1 to 5 (R176, R177,
R178). The transaction on the lines is not looked at (DESIGN CHOICE, log 10). -/
def taken (i : Instr) (snd : Sender) (s : State) : Prop :=
  (s.fp.work = none ∨ s.fp.work = some i) ∧ snd.valid = true

/-! ### What an operation on phasers leaves unchanged -/

/-- What every operation of the Sequencer on phasers leaves as it was. -/
structure SeqFrame (s t : State) : Prop where
  rt : t.rt = s.rt
  tr : t.tr = s.tr
  ad : t.ad = s.ad
  ec : t.ec = s.ec
  fp : t.fp = s.fp
  counter : t.counter = s.counter
  msTicks : t.msTicks = s.msTicks
  pending : t.pending = s.pending
  cond : t.ps.cond = s.ps.cond
  params : t.ps.params = s.ps.params
  departed : t.ps.departed = s.ps.departed
  dev : t.cm.dev = s.cm.dev
  frequency : t.vd.frequency = s.vd.frequency

/-- What an operation of the Sequencer on one phaser leaves as it was: `SeqFrame`, and the records of every other
phaser. -/
structure SeqLocal (p : Phaser) (s t : State) : Prop where
  frame : SeqFrame s t
  phaser : ∀ q, q ≠ p → t.phaser q = s.phaser q
  loop : ∀ q, q ≠ p → t.loop q = s.loop q
  channel : ∀ q, q ≠ p → t.channel q = s.channel q
  phGroup : ∀ q, q ≠ p → t.phGroup q = s.phGroup q

/-! ### The blocks a command may touch -/

/-- The nine blocks and the clock. -/
inductive Block where
  | fp | rt | tr | ad | ec | ps | lu | vd | cm | clock
  deriving DecidableEq, Repr

/-- A block is the same in two states. -/
def Block.same (b : Block) (s t : State) : Prop :=
  match b with
  | .fp => t.fp = s.fp
  | .rt => t.rt = s.rt
  | .tr => t.tr = s.tr
  | .ad => t.ad = s.ad
  | .ec => t.ec = s.ec
  | .ps => t.ps = s.ps
  | .lu => t.lu = s.lu
  | .vd => t.vd = s.vd
  | .cm => t.cm = s.cm
  | .clock => t.counter = s.counter ∧ t.msTicks = s.msTicks

/-- The blocks that a parameter write may touch beside the Frame Port. -/
def paramTouches : Param → List Block
  | .applyMode _ | .markAngle _ => [.rt]
  | .authority _ _ => [.tr, .ps, .lu, .vd, .cm]
  | .crank _ | .syncCam | .stopTime | .firingOffset => [.ad]
  | .toothList _ | .camPolarity _ | .windowMargin | .camLostCount => [.ec]
  | .releaseDuty => [.ps, .vd]
  | .threshold _ => [.ps, .lu, .vd, .cm]
  | .homeBand | .releaseInterval | .returnTimeout | .latchInterval | .trackBand | .time _ | .freshnessTime => [.ps]
  | .kp _ | .ki _ | .ilim _ | .nd _ | .dutyLimit _ _ => [.lu]
  | .pwmFrequency => [.vd]

/-- The blocks that a well-formed command may touch. The Sequencer's moves act on the loop records, the commanded duties
and the Monitor's conditions (R105, R118). -/
def touches : Instr → List Block
  | .powerOn _ | .resetPin _ | .vddUndervoltageReset _ => [.fp, .rt, .tr, .ad, .ec, .ps, .lu, .vd, .cm, .clock]
  | .transactionStart => [.fp]
  | .transactionEnd _ => [.fp, .cm]
  | .nop _ | .find _ _ | .readRecord _ _ | .list _ | .readPhaser _ _ | .resolve _ _ | .readEngine _
  | .getParam _ _ => [.fp]
  | .post _ _ _ | .change _ _ _ _ | .retire _ _ | .renew _ _ | .renewClass _ _ => [.fp, .rt]
  | .apply _ _ => [.fp, .rt, .tr, .ps, .lu, .vd, .cm]
  | .reportConditions _ _ _ _ | .enablePhaser _ _ _ | .clearFault _ _ => [.fp, .ps, .lu, .vd, .cm]
  | .readEvents _ _ | .setEventEnables _ _ _ _ => [.fp, .cm]
  | .resetDevice _ => [.fp, .rt, .tr, .ps, .lu, .vd, .cm]
  | .setParam _ ident _ =>
    match Param.ofIdent ident with
    | none => [.fp]
    | some q => .fp :: paramTouches q
  | .setApplyMode _ g _ => .fp :: paramTouches (Param.applyMode g)
  | .setMarkAngle _ g _ => .fp :: paramTouches (Param.markAngle g)
  | .setAuthorityWindow _ p b _ => .fp :: paramTouches (Param.authority b p)
  | .setCrankGeometry _ w _ => .fp :: paramTouches (Param.crank w)
  | .setSyncCam _ _ => .fp :: paramTouches Param.syncCam
  | .setToothList _ c _ _ => .fp :: paramTouches (Param.toothList c)
  | .setCamPolarity _ c _ => .fp :: paramTouches (Param.camPolarity c)
  | .setWindowMargin _ _ => .fp :: paramTouches Param.windowMargin
  | .setCamLostCount _ _ => .fp :: paramTouches Param.camLostCount
  | .setReleaseDuty _ _ => .fp :: paramTouches Param.releaseDuty
  | .setReleaseThresholds _ w _ => .fp :: paramTouches (Param.threshold w)
  | .setTrackFaultTime _ w _ => .fp :: paramTouches (Param.time w)
  | .setIntegratorLimit _ p _ => .fp :: paramTouches (Param.ilim p)
  | .setDutyLimit _ p b _ => .fp :: paramTouches (Param.dutyLimit b p)
  | .setPwmFrequency _ _ => .fp :: paramTouches Param.pwmFrequency
  | .timeBaseAdvance => [.rt, .tr, .ad, .ec, .ps, .lu, .vd, .cm, .clock]
  | .expiry _ => [.rt, .tr, .ps, .lu, .vd, .cm]
  | .recompute _ => [.tr, .ps, .lu, .vd, .cm]
  | .crankTooth _ _ _ _ => [.rt, .tr, .ad, .ec, .ps, .lu, .vd, .cm]
  | .controlStep _ => [.ps, .lu, .vd, .cm]
  | .camEdge _ _ _ _ => [.ad, .ec, .cm]
  | .stopTimerExpiry => [.ad, .ec, .ps, .cm]
  | .syncDepartureHandling | .freshnessTimerExpiry | .releaseIntervalExpiry _ | .returnTimeoutExpiry _
  | .latchIntervalExpiry _ | .overBandTrackTime _ | .overBandFaultTime _ => [.ps, .lu, .vd, .cm]
  | .periodStart _ | .periodEnd _ _ | .overcurrent _ | .thermalHoldSet _ | .thermalHoldClear _ => [.ps, .vd, .cm]
  | .endOfOnTime _ => [.vd]
  | .driverConditionFault _ _ => [.ps, .lu, .vd, .cm]

end Sys2Proof.Machine
end

