-- ==== Sys2Proof/WellFormed.lean ====
section
/-! DEFINITION. What a well-formed command is: what the Frame Port has checked before an owner sees it (R178), and the
choice of row for a parameter write (R181). -/

namespace Sys2Proof

/-- A parameter write that belongs to the row SET_PARAM: the identifier is that of a parameter without a row of its
own, or of none (spec/opcode_table.json, SET_PARAM). -/
def genericIdent (ident : Byte) : Bool :=
  match Param.ofIdent ident with
  | none | some .stopTime | some .firingOffset | some .homeBand | some .releaseInterval | some .returnTimeout
  | some .latchInterval | some .trackBand | some .freshnessTime | some (.kp _) | some (.ki _) | some (.nd _) => true
  | _ => false

/-- The sender of a command that a frame carries. -/
def Instr.sender : Instr → Option Sender
  | .nop snd | .post snd _ _ | .change snd _ _ _ | .retire snd _ | .renew snd _ | .renewClass snd _ | .apply snd _
  | .find snd _ | .readRecord snd _ | .list snd | .readPhaser snd _ | .resolve snd _ | .readEngine snd
  | .reportConditions snd _ _ _ | .enablePhaser snd _ _ | .clearFault snd _ | .readEvents snd _
  | .setEventEnables snd _ _ _ | .resetDevice snd | .getParam snd _ | .setParam snd _ _ | .setApplyMode snd _ _
  | .setMarkAngle snd _ _ | .setAuthorityWindow snd _ _ _ | .setCrankGeometry snd _ _ | .setSyncCam snd _
  | .setToothList snd _ _ _ | .setCamPolarity snd _ _ | .setWindowMargin snd _ | .setCamLostCount snd _
  | .setReleaseDuty snd _ | .setReleaseThresholds snd _ _ | .setTrackFaultTime snd _ _
  | .setIntegratorLimit snd _ _ | .setDutyLimit snd _ _ _ | .setPwmFrequency snd _ => some snd
  | .powerOn _ | .resetPin _ | .vddUndervoltageReset _ | .transactionStart | .transactionEnd _ | .timeBaseAdvance
  | .expiry _ | .recompute _ | .crankTooth _ _ _ _ | .controlStep _ | .camEdge _ _ _ _ | .stopTimerExpiry
  | .syncDepartureHandling | .freshnessTimerExpiry | .releaseIntervalExpiry _ | .returnTimeoutExpiry _
  | .latchIntervalExpiry _ | .overBandTrackTime _ | .overBandFaultTime _ | .periodStart _ | .endOfOnTime _
  | .periodEnd _ _ | .overcurrent _ | .thermalHoldSet _ | .thermalHoldClear _ | .driverConditionFault _ _ => none

/-- A well-formed command: a framed command's issuer class is 1 to 5 (R178, check 5), and a write by the row SET_PARAM
names no parameter that has a row of its own. -/
def Instr.wellFormed (i : Instr) : Bool :=
  (match i.sender with
   | some snd => snd.valid
   | none => true) &&
  (match i with
   | .setParam _ ident _ => genericIdent ident
   | _ => true)

end Sys2Proof
end

