-- ==== Sys2Proof/Certificates/Slice0/Obligations.lean ====
section
/-! DEFINITION. The statements for the provers. -/

open Sys2Proof Sys2Proof.Machine

/-! ### The queue, the whole set of commands, resets -/

/-- The block's law of a step: the command at the front of the queue is run with the queue's rest. -/
def Obligations.StepRunsTheFrontCommand : Prop :=
  ∀ (c : Instr) (rest : List Instr) (s : State), step { s with pending := c :: rest } = exec c { s with pending := rest }

/-- MODEL'S CHOICE, log 1: on an empty queue the part takes the first event it owes, else the advance of the time base at
every 8,000th tick (R8), else one tick of its clock. -/
def Obligations.EmptyQueueTakesOwedEventOrTick : Prop :=
  ∀ s : State, s.pending = [] →
    (∀ i rest, s.owed = i :: rest → step s = exec i s) ∧
    (s.owed = [] → 8000 ≤ s.msTicks + 1 → step s = exec .timeBaseAdvance s) ∧
    (s.owed = [] → s.msTicks + 1 < 8000 →
      step s = .next { s with counter := s.counter + 1#24, msTicks := s.msTicks + 1 })

/-- No command stops the part, and none writes the queue. What a framed command that is not taken does is the MODEL'S reading
of R176 to R178 (log 10): while another command is in hand it is ignored, and with an issuer class outside 1 to 5 it is answered
BAD_FRAME, latches FRAME_ERROR and reaches no owner. -/
def Obligations.EveryCommandCompletesAndKeepsTheQueue : Prop :=
  (∀ (i : Instr) (s : State), ∃ t, exec i s = .next t ∧ t.pending = s.pending) ∧
  ∀ (i : Instr) (snd : Sender) (s : State), i.sender = some snd →
    (∀ j, s.fp.work = some j → j ≠ i → exec i s = .next s) ∧
    (∀ code rest, s.fp.work = none ∨ s.fp.work = some i → snd.valid = false → encodeFrame i = some (code :: rest) →
      exec i s = .next
        ({ s with fp := { s.fp with slot := some ⟨.badFrame, code, snd.byte, []⟩, work := none } }.setDev
          { s.cm.dev with
            frameError := match s.cm.dev.frameError with
              | none => some ⟨1, .badFrame⟩
              | some l => some ⟨min 255 (l.count + 1), .badFrame⟩ }))

/-- The three resets that set every block to its reset values; they differ only in the kind that RESET_OCCURRED carries. The
model's own count of period ends, `senses`, runs on (MODEL'S CHOICE, log 22). -/
def Obligations.HardResetsSetEveryBlock : Prop :=
  ∀ (hot : Quad Bool) (s : State), ∃ t : State,
    exec (.powerOn hot) s = .next t ∧ exec (.vddUndervoltageReset hot) s = .next t ∧
    exec (.resetPin hot) s = .next (t.setDev { t.cm.dev with resetOccurred := some ⟨1, .pin⟩ }) ∧
    t.cm.dev.resetOccurred = some ⟨1, .power⟩ ∧
    (∀ i, t.rt.slots.get i = ⟨0#4, none⟩) ∧ t.rt.front = ⟨.mark, 3840⟩ ∧ t.rt.rear = ⟨.mark, 8160⟩ ∧
    (∀ p, (t.resolver p).record = ⟨.park, .parkDefault, [], [], false, false⟩ ∧ (t.resolver p).notes = [] ∧
      (t.resolver p).asked = []) ∧
    ((t.resolver .fi).amin, (t.resolver .fi).amax) = (-160, 960) ∧
    ((t.resolver .fe).amin, (t.resolver .fe).amax) = (-960, 160) ∧
    ((t.resolver .ri).amin, (t.resolver .ri).amax) = (-160, 960) ∧
    ((t.resolver .re).amin, (t.resolver .re).amax) = (-960, 160) ∧
    t.ad.sync = .stopped ∧ t.ad.prevTooth = none ∧ t.ad.lastNormal = none ∧ t.ad.toothIndex = none ∧ t.ad.half = none ∧
    t.ad.edgeCount = 0 ∧ t.ad.doubt = 0 ∧ t.ad.speed = 0 ∧ t.ad.stopTimer = none ∧ t.ad.teeth = 24 ∧ t.ad.missing = 2 ∧
    t.ad.crankRises = false ∧ t.ad.syncCam = .fi ∧ t.ad.stopTime = 200 ∧ t.ad.firingOffset = 4320 ∧
    t.ec.bracket = none ∧ t.ec.margin = 160 ∧ t.ec.lostCount = 3 ∧
    (∀ c, (t.cam c).queue = [] ∧ (t.cam c).miss = 0 ∧ (t.cam c).last = none ∧ (t.cam c).rejects = 0 ∧
      (t.cam c).rises = true ∧ ∀ m ∈ (t.cam c).marks, m = true) ∧
    (t.cam .fi).teeth = [960, 3200, 6720] ∧ (t.cam .fe).teeth = [2400, 8160] ∧ (t.cam .ri).teeth = [5280, 10080] ∧
    (t.cam .re).teeth = [6720, 480] ∧
    (∀ p, (t.phaser p).state = .stopped ∧ (t.phaser p).enable = true ∧ (t.phaser p).timer = none ∧
      (t.phaser p).overBand = none ∧ (t.phaser p).causes = CauseSet.empty) ∧
    t.ps.cond = ⟨false, -40, 13500, false, none⟩ ∧
    t.ps.params = ⟨7000, 20, 1500, 200, 24, 60, 500, 40, 80, 200, 1000, 250⟩ ∧
    (∀ p, (t.loop p).ramp = 0 ∧ (t.loop p).integrator = 0 ∧ (t.loop p).lastStep = none ∧ (t.loop p).stepAge = none ∧
      (t.loop p).output = 0 ∧ (t.loop p).sat = .none ∧ (t.loop p).delivered = [] ∧ (t.loop p).params.ki = 40 ∧ (t.loop p).params.ilim = 2500 ∧
      (t.loop p).params.nd = 5000 ∧ (t.loop p).params.dmin = 500 ∧ (t.loop p).params.dmax = 9500) ∧
    (t.loop .fi).params.kp = 320 ∧ (t.loop .fe).params.kp = 280 ∧ (t.loop .ri).params.kp = 320 ∧
    (t.loop .re).params.kp = 280 ∧
    t.vd.frequency = 250 ∧ t.vd.senses = s.vd.senses ∧
    (∀ p, (t.channel p).commanded = 0 ∧ (t.channel p).active = 0 ∧ (t.channel p).on = false ∧
      (t.channel p).ocCount = 0 ∧ (t.channel p).openFail = 0 ∧ (t.channel p).openPass = 0 ∧
      (t.channel p).suspended = false ∧ (t.channel p).hold = hot.get p ∧ (t.channel p).length = 32000 ∧
      (t.channel p).start = t.counter + BitVec.ofNat 24 (8000 * p.index)) ∧
    t.cm.dev.cycleSync = ⟨false, none⟩ ∧ t.cm.dev.engineStopped = ⟨true, none⟩ ∧ t.cm.dev.condStale = ⟨true, none⟩ ∧
    t.cm.dev.syncDoubt = none ∧ t.cm.dev.frameError = none ∧ t.cm.dev.enables = 0x0010#16 ∧ t.cm.dev.groupEnable = true ∧
    (∀ p, (∀ e, (t.phGroup p).conds.get e = ⟨false, none⟩) ∧ (t.phGroup p).expired = none ∧
      (t.phGroup p).overrun = none ∧ (t.phGroup p).reject = none ∧ (t.phGroup p).enables = 0x0010#16 ∧
      (t.phGroup p).groupEnable = true) ∧
    t.attn = true ∧
    t.fp.work = none ∧ t.fp.slot = none ∧
    t.fp.transaction = (if s.fp.transaction = .idle then .idle else .abandoned) ∧ t.pending = s.pending

/-- RESET_DEVICE: each block by its own soft-reset rule; the decoder, Edge Capture, the engine condition record and every
parameter are kept, and the command is answered OK. A driver declaration still owed to the Sequencer is dropped, so no phaser is
faulted afterwards by a condition that the reset has cleared (R162). MODEL'S CHOICE, log 44: the departure notes kept and the
recomputes asked for are dropped. -/
def Obligations.SoftResetActsBlockByBlock : Prop :=
  ∀ (snd : Sender) (s : State), taken (.resetDevice snd) snd s → ∃ t : State,
    exec (.resetDevice snd) s = .next (t.respond .resetDevice snd ⟨.ok, []⟩) ∧
    t.ad = s.ad ∧ t.ec = s.ec ∧ t.fp = s.fp ∧ t.counter = s.counter ∧ t.msTicks = s.msTicks ∧ t.pending = s.pending ∧
    (∀ i, t.rt.slots.get i = ⟨0#4, none⟩) ∧ t.rt.front = s.rt.front ∧ t.rt.rear = s.rt.rear ∧
    (∀ p, (t.resolver p).record = ⟨.park, .parkDefault, [], [], false, false⟩ ∧ (t.resolver p).notes = [] ∧
      (t.resolver p).asked = [] ∧ (t.resolver p).amin = (s.resolver p).amin ∧ (t.resolver p).amax = (s.resolver p).amax) ∧
    t.ps.cond = s.ps.cond ∧ t.ps.params = s.ps.params ∧
    (∀ p, (t.phaser p).state = (if (s.phaser p).enable then .stopped else .off) ∧
      (t.phaser p).enable = (s.phaser p).enable ∧ (t.phaser p).timer = none ∧ (t.phaser p).overBand = none ∧
      (t.phaser p).trackDue = false ∧ (t.phaser p).faultDue = false ∧
      (t.phaser p).causes = CauseSet.empty ∧ (t.phaser p).declared = ⟨false, false, false⟩ ∧
      ∀ d, exec (.driverConditionFault p d) t = .next t) ∧
    (∀ p, (t.loop p).ramp = 0 ∧ (t.loop p).integrator = 0 ∧ (t.loop p).lastStep = none ∧ (t.loop p).stepAge = none ∧
      (t.loop p).output = 0 ∧ (t.loop p).sat = .none ∧ (t.loop p).delivered = [] ∧
      (t.loop p).params = (s.loop p).params) ∧
    t.vd.frequency = s.vd.frequency ∧
    (∀ p, (t.channel p).on = false ∧ (t.channel p).commanded = 0 ∧ (t.channel p).active = 0 ∧
      (t.channel p).ocCount = 0 ∧ (t.channel p).openFail = 0 ∧ (t.channel p).openPass = 0 ∧
      (t.channel p).hold = (s.channel p).hold ∧ (t.channel p).start = (s.channel p).start ∧
      (t.channel p).length = (s.channel p).length ∧ (t.channel p).running = (s.channel p).running ∧
      (t.channel p).suspended = !(s.phaser p).enable) ∧
    (∀ p e, (t.phGroup p).conds.get e = ⟨e == .camLost && s.stands p .camLost, none⟩) ∧
    (∀ p, (t.phGroup p).expired = none ∧ (t.phGroup p).overrun = none ∧ (t.phGroup p).reject = none ∧
      (t.phGroup p).enables = (s.phGroup p).enables ∧ (t.phGroup p).groupEnable = (s.phGroup p).groupEnable) ∧
    t.cm.dev = ⟨⟨s.cm.dev.cycleSync.declared, none⟩, ⟨s.cm.dev.engineStopped.declared, none⟩,
      ⟨s.cm.dev.condStale.declared, none⟩, none, some ⟨1, .soft⟩, none, s.cm.dev.enables, s.cm.dev.groupEnable⟩

/-! ### The Frame Port -/

/-- R176's three rows at the CS fall. At the CS rise a frame that passes is in hand, a frame that fails is answered at once and
latches FRAME_ERROR, and a transaction begun BUSY or abandoned by a reset takes nothing. MODEL'S CHOICE, log 2: a fall while CS
is low and a rise while it is high are no edges. -/
def Obligations.TransactionEdgesFollowReadiness : Prop :=
  (∀ s : State, s.fp.transaction = .idle →
    (∀ r, s.fp.work = none → s.fp.slot = some r →
      exec .transactionStart s = .next { s with fp := { s.fp with transaction := .active true r, slot := none } }) ∧
    (s.fp.work = none → s.fp.slot = none →
      exec .transactionStart s =
        .next { s with fp := { s.fp with transaction := .active true ⟨.notReady, 0#8, 0#8, []⟩, slot := none } }) ∧
    (∀ i, s.fp.work = some i →
      exec .transactionStart s =
        .next { s with fp := { s.fp with transaction := .active false ⟨.notReady, 0#8, 0#8, []⟩ } })) ∧
  (∀ (sdi : List Bool) (s : State),
    (s.fp.transaction ≠ .idle → exec .transactionStart s = .next s) ∧
    (s.fp.transaction = .idle → exec (.transactionEnd sdi) s = .next s)) ∧
  (∀ (sdi : List Bool) (s : State),
    (∀ sdo i, s.fp.transaction = .active true sdo → checkFrame (bytesOfBits sdi) = .good i →
      exec (.transactionEnd sdi) s = .next { s with fp := { s.fp with transaction := .idle, work := some i } }) ∧
    (∀ sdo st, s.fp.transaction = .active true sdo → checkFrame (bytesOfBits sdi) = .bad st →
      exec (.transactionEnd sdi) s = .next
        ({ s with fp := ⟨.idle, some ⟨st, (bytesOfBits sdi).getD 0 0#8, (bytesOfBits sdi).getD 1 0#8, []⟩, none⟩ }.setDev
          { s.cm.dev with
            frameError := match s.cm.dev.frameError with
              | none => some ⟨1, st⟩
              | some l => some ⟨min 255 (l.count + 1), st⟩ })) ∧
    (∀ sdo, s.fp.transaction = .active false sdo ∨ s.fp.transaction = .abandoned →
      exec (.transactionEnd sdi) s = .next { s with fp := { s.fp with transaction := .idle } }))

/-- R178: the first check that fails decides the response. -/
def Obligations.FrameChecksDecideInOrder : Prop :=
  checkFrame [] = .bad .badFrame ∧
  ∀ (code : Byte) (rest : List Byte),
    ((∀ c : Command, c.code ≠ code) → checkFrame (code :: rest) = .bad .unknownCommand) ∧
    (∀ c : Command, c.code = code →
      ((code :: rest).length < c.payloadLength + 3 → checkFrame (code :: rest) = .bad .badFrame) ∧
      (c.payloadLength + 3 ≤ (code :: rest).length →
        (code :: rest)[c.payloadLength + 2]? ≠ some (crc8 ((code :: rest).take (c.payloadLength + 2))) →
        checkFrame (code :: rest) = .bad .badFrame) ∧
      (c.payloadLength + 3 ≤ (code :: rest).length →
        (code :: rest)[c.payloadLength + 2]? = some (crc8 ((code :: rest).take (c.payloadLength + 2))) →
        (Sender.ofByte (rest.getD 0 0#8)).valid = false → checkFrame (code :: rest) = .bad .badFrame) ∧
      (c.payloadLength + 3 ≤ (code :: rest).length →
        (code :: rest)[c.payloadLength + 2]? = some (crc8 ((code :: rest).take (c.payloadLength + 2))) →
        (Sender.ofByte (rest.getD 0 0#8)).valid = true → ∃ i, checkFrame (code :: rest) = .good i))

/-- Every well-formed framed command is read back from its frame, whatever bytes follow the frame (R175). -/
def Obligations.FrameDecodeUndoesEncode : Prop :=
  ∀ (i : Instr) (bytes extra : List Byte), i.wellFormed = true → encodeFrame i = some bytes →
    checkFrame (bytes ++ extra) = .good i

/-- NOP, and the response frame: status, code, byte 1, length, payload, CRC, then zeros. -/
def Obligations.NopIsAnsweredOkAndResponsesAreFramed : Prop :=
  (∀ (snd : Sender) (s : State), taken (.nop snd) snd s →
    exec (.nop snd) s = .next { s with fp := { s.fp with slot := some ⟨.ok, 0x01#8, snd.byte, []⟩, work := none } }) ∧
  (∀ r : Response, r.payload.length < 256 →
    r.frame.length = 5 + r.payload.length ∧
    (r.sdoByte 0, r.sdoByte 1, r.sdoByte 2) = (r.status.byte, r.code, r.byte1) ∧
    (r.sdoByte 3).toNat = r.payload.length ∧
    (∀ k (h : k < r.payload.length), r.sdoByte (4 + k) = r.payload[k]) ∧
    r.sdoByte (4 + r.payload.length) = crc8 (r.frame.take (4 + r.payload.length)) ∧
    (∀ k, 5 + r.payload.length ≤ k → r.sdoByte k = 0#8))

/-! ### The Request Table -/

/-- The key and content checks: which fields pass, and what is stored. -/
def Obligations.KeyAndContentFieldsAreChecked : Prop :=
  (∀ (a b d : Byte), readKey ⟨a, b, d⟩ = none ↔ 4 ≤ a.toNat ∨ b.toNat = 0 ∨ 6 ≤ b.toNat ∨ 3 ≤ d.toNat) ∧
  (∀ (p : Phaser) (c : Cls) (k : Kind),
    readKey ⟨BitVec.ofNat 8 p.index, BitVec.ofNat 8 c.rank, BitVec.ofNat 8 k.code⟩ = some ⟨p, c, k⟩) ∧
  ∀ cf : ContentField,
    (readContent .setpoint cf = none ↔
      (cf.w0.toInt ≠ -32768 ∧ (cf.w0.toInt < -5760 ∨ 5759 < cf.w0.toInt)) ∨ 2 ≤ cf.flag.toNat) ∧
    (readContent .trim cf = none ↔ cf.w0.toInt < -2048 ∨ 2047 < cf.w0.toInt) ∧
    (readContent .limit cf = none ↔
      cf.w0.toInt < -5760 ∨ 5759 < cf.w0.toInt ∨ cf.w1.toInt < -5760 ∨ 5759 < cf.w1.toInt ∨
        cf.w1.toInt < cf.w0.toInt) ∧
    (∀ ct, readContent .setpoint cf = some ct →
      ct = .setpoint (if cf.w0.toInt = -32768 then .park else .au cf.w0.toInt) (min 4000 cf.w1.toNat)
        (decide (cf.flag = 1#8)) cf.keepAlive.toNat) ∧
    (∀ ct, readContent .trim cf = some ct → ct = .trim cf.w0.toInt cf.keepAlive.toNat) ∧
    (∀ ct, readContent .limit cf = some ct → ct = .limit cf.w0.toInt cf.w1.toInt cf.keepAlive.toNat)

/-- A POST that passes every check takes the lowest FREE slot; the refusals follow the order of R11 and change nothing in the
table. MODEL'S CHOICE, log 12: the slew answered for a TRIM or a LIMIT is 0. MODEL'S CHOICE, log 47: the high bits of a handle's
generation byte are 0. -/
def Obligations.PostAllocatesASlotOrIsRefused : Prop :=
  (∀ (snd : Sender) (key : KeyField) (cf : ContentField) (k : Key) (ct : Content) (i : Fin 24) (s : State),
    taken (.post snd key cf) snd s → readKey key = some k → k.cls.rank ≤ snd.rank.toNat →
    readContent k.kind cf = some ct →
    (∀ j r, (s.rt.slots.get j).record = some r → r.key ≠ k) →
    (s.rt.slots.get i).record = none → (∀ j, j < i → (s.rt.slots.get j).record ≠ none) →
    exec (.post snd key cf) s = .next
      ((s.setSlots (s.rt.slots.set i ⟨(s.rt.slots.get i).gen + 1#4, some ⟨k, .posted ct, none⟩⟩)).respond .post snd
        ⟨.ok, [BitVec.ofNat 8 i.val, ((s.rt.slots.get i).gen + 1#4).setWidth 8,
          hiByte (BitVec.ofNat 16 ct.slew), loByte (BitVec.ofNat 16 ct.slew)]⟩)) ∧
  (∀ (snd : Sender) (key : KeyField) (cf : ContentField) (s : State), taken (.post snd key cf) snd s →
    (readKey key = none → exec (.post snd key cf) s = .next (s.respond .post snd ⟨.badField, []⟩)) ∧
    ∀ k, readKey key = some k →
      (snd.rank.toNat < k.cls.rank → exec (.post snd key cf) s = .next (s.respond .post snd ⟨.cls, []⟩)) ∧
      (k.cls.rank ≤ snd.rank.toNat → readContent k.kind cf = none →
        exec (.post snd key cf) s = .next (s.respond .post snd ⟨.badField, []⟩)) ∧
      (k.cls.rank ≤ snd.rank.toNat → readContent k.kind cf ≠ none → TableLaw s →
        (∀ i r, (s.rt.slots.get i).record = some r → r.key = k →
          exec (.post snd key cf) s = .next (s.respond .post snd
            ⟨.exists_, [BitVec.ofNat 8 i.val, (s.rt.slots.get i).gen.setWidth 8]⟩)) ∧
        ((∀ i r, (s.rt.slots.get i).record = some r → r.key ≠ k) → (∀ i, (s.rt.slots.get i).record ≠ none) →
          exec (.post snd key cf) s = .next (s.respond .post snd ⟨.full, []⟩))))

/-- A CHANGE that is taken, from an issuer of the record's class or higher and from a lower one; its refusals for the kind and
the content; and each bit of the changed-fields list, against the content the record held for its next apply. MODEL'S CHOICE,
log 47: its bits 9 to 15 are 0. -/
def Obligations.ChangeWritesAndNamesEachAlteration : Prop :=
  (∀ (snd : Sender) (h : Handle) (kind : Byte) (cf : ContentField) (i : Fin 24) (r : Record) (n : Content) (s : State),
    taken (.change snd h kind cf) snd s → s.rt.slots.resolve h = .ok (i, r) → kind.toNat = r.key.kind.code →
    readContent r.key.kind cf = some n →
    let deadline := match r.deadline, r.life.active with
      | some _, some a => some (a.keepAlive * 10)
      | d, _ => d
    let life : Life := match r.life with
      | .posted _ => .posted n
      | .live a => .changed a n
      | .changed a _ => .changed a n
      | .retiring a => .changed a n
    (r.key.cls.rank ≤ snd.rank.toNat →
      exec (.change snd h kind cf) s = .next
        ((s.setSlots (s.rt.slots.set i ⟨(s.rt.slots.get i).gen, some ⟨r.key, life, deadline⟩⟩)).respond .change snd
          ⟨.ok, halfBytes (BitVec.ofNat 16 n.slew) ++ halfBytes (changedFields r n)⟩)) ∧
    (snd.rank.toNat < r.key.cls.rank →
      exec (.change snd h kind cf) s = .next
        ((s.setSlots (s.rt.slots.set i ⟨(s.rt.slots.get i).gen, some ⟨r.key, r.life, deadline⟩⟩)).respond .change snd
          ⟨.partly, [0#8, 0#8, if r.deadline ≠ none ∧ r.life.active ≠ none then 1#8 else 0#8, 0#8]⟩))) ∧
  (∀ (snd : Sender) (h : Handle) (kind : Byte) (cf : ContentField) (i : Fin 24) (r : Record) (s : State),
    taken (.change snd h kind cf) snd s → s.rt.slots.resolve h = .ok (i, r) →
    kind.toNat ≠ r.key.kind.code ∨ readContent r.key.kind cf = none →
    exec (.change snd h kind cf) s = .next (s.respond .change snd ⟨.badField, []⟩)) ∧
  (∀ (r : Record) (n : Content),
    let old := match r.life with
      | .posted p => p
      | .live a => a
      | .changed _ p => p
      | .retiring a => a
    let w := changedFields r n
    (∀ t s f k t' s' f' k', old = .setpoint t s f k → n = .setpoint t' s' f' k' →
      (w.getLsbD 0 = true ↔ t ≠ t') ∧ (w.getLsbD 1 = true ↔ s ≠ s') ∧ (w.getLsbD 2 = true ↔ f ≠ f') ∧
      w.getLsbD 3 = false ∧ w.getLsbD 4 = false ∧ w.getLsbD 5 = false) ∧
    (∀ o k o' k', old = .trim o k → n = .trim o' k' →
      (w.getLsbD 3 = true ↔ o ≠ o') ∧ w.getLsbD 0 = false ∧ w.getLsbD 1 = false ∧ w.getLsbD 2 = false ∧
      w.getLsbD 4 = false ∧ w.getLsbD 5 = false) ∧
    (∀ lo hi k lo' hi' k', old = .limit lo hi k → n = .limit lo' hi' k' →
      (w.getLsbD 4 = true ↔ lo ≠ lo') ∧ (w.getLsbD 5 = true ↔ hi ≠ hi') ∧ w.getLsbD 0 = false ∧
      w.getLsbD 1 = false ∧ w.getLsbD 2 = false ∧ w.getLsbD 3 = false) ∧
    (w.getLsbD 6 = true ↔ old.keepAlive ≠ n.keepAlive) ∧
    (w.getLsbD 7 = true ↔ ∃ a, r.life = .retiring a) ∧
    (w.getLsbD 8 = true ↔ r.deadline ≠ none ∧ r.life.active ≠ none) ∧
    w.toNat < 512)

/-- What every command that carries a handle answers when the handle names no record. -/
def Obligations.HandlesThatNameNoRecordAreRefused : Prop :=
  ∀ (snd : Sender) (h : Handle) (kind : Byte) (cf : ContentField) (s : State) (st : Status),
    (24 ≤ h.slot.toNat ∧ st = .badField) ∨
      (∃ i : Fin 24, h.slot.toNat = i.val ∧ st = .notFound ∧
        ((s.rt.slots.get i).record = none ∨ (s.rt.slots.get i).gen ≠ h.gen)) →
    (taken (.change snd h kind cf) snd s →
      exec (.change snd h kind cf) s = .next (s.respond .change snd ⟨st, []⟩)) ∧
    (taken (.retire snd h) snd s → exec (.retire snd h) s = .next (s.respond .retire snd ⟨st, []⟩)) ∧
    (taken (.renew snd h) snd s → exec (.renew snd h) s = .next (s.respond .renew snd ⟨st, []⟩)) ∧
    (taken (.readRecord snd h) snd s → exec (.readRecord snd h) s = .next (s.respond .readRecord snd ⟨st, []⟩))

/-- RETIRE by the record's state, and its refusal from a lower issuer. RENEW restarts a deadline; without one nothing in the
record changes. -/
def Obligations.RetireAndRenewActOnTheNamedRecord : Prop :=
  (∀ (snd : Sender) (h : Handle) (i : Fin 24) (r : Record) (s : State),
    taken (.retire snd h) snd s → s.rt.slots.resolve h = .ok (i, r) →
    (snd.rank.toNat < r.key.cls.rank → exec (.retire snd h) s = .next (s.respond .retire snd ⟨.cls, []⟩)) ∧
    (r.key.cls.rank ≤ snd.rank.toNat →
      (∀ p, r.life = .posted p → exec (.retire snd h) s = .next
        ((s.setSlots (s.rt.slots.set i ⟨(s.rt.slots.get i).gen, none⟩)).respond .retire snd ⟨.ok, [0#8]⟩)) ∧
      (∀ a, r.life = .live a ∨ (∃ p, r.life = .changed a p) ∨ r.life = .retiring a → exec (.retire snd h) s = .next
        ((s.setSlots (s.rt.slots.set i ⟨(s.rt.slots.get i).gen, some ⟨r.key, .retiring a, r.deadline⟩⟩)).respond
          .retire snd ⟨.ok, [4#8]⟩)))) ∧
  (∀ (snd : Sender) (h : Handle) (i : Fin 24) (r : Record) (s : State),
    taken (.renew snd h) snd s → s.rt.slots.resolve h = .ok (i, r) →
    (∀ d a, r.deadline = some d → r.life.active = some a → 1 ≤ a.keepAlive →
      exec (.renew snd h) s = .next
        ((s.setSlots (s.rt.slots.set i ⟨(s.rt.slots.get i).gen, some ⟨r.key, r.life, some (a.keepAlive * 10)⟩⟩)).respond
          .renew snd ⟨.ok, halfBytes (BitVec.ofNat 16 (a.keepAlive * 10))⟩)) ∧
    (r.deadline = none → exec (.renew snd h) s = .next (s.respond .renew snd ⟨.ok, [0xFF#8, 0xFF#8]⟩)))

/-- RENEW_CLASS, whole. -/
def Obligations.RenewClassRestartsEveryDeadlineOfItsClass : Prop :=
  ∀ (snd : Sender) (b : Byte) (s : State), taken (.renewClass snd b) snd s →
    (b.toNat = 0 ∨ 6 ≤ b.toNat →
      exec (.renewClass snd b) s = .next (s.respond .renewClass snd ⟨.badField, []⟩)) ∧
    (∀ c : Cls, b.toNat = c.rank → TableLaw s → ∃ (t : Slots) (n : Nat),
      exec (.renewClass snd b) s = .next ((s.setSlots t).respond .renewClass snd ⟨.ok, [BitVec.ofNat 8 n]⟩) ∧
      n ≤ 12 ∧
      n = ((List.finRange 24).filter fun i => (s.rt.slots.get i).record.any fun r =>
        r.key.cls == c && r.deadline.isSome).length ∧
      ∀ i, (t.get i).gen = (s.rt.slots.get i).gen ∧
        ((s.rt.slots.get i).record = none → (t.get i).record = none) ∧
        (∀ r, (s.rt.slots.get i).record = some r →
          (r.key.cls ≠ c ∨ r.deadline = none → (t.get i).record = some r) ∧
          (∀ d a, r.key.cls = c → r.deadline = some d → r.life.active = some a →
            (t.get i).record = some ⟨r.key, r.life, some (a.keepAlive * 10)⟩)))

/-- FIND, READ_RECORD and LIST show the table and change nothing in it; every byte as 10.8 lays it out. MODEL'S CHOICE, log 47: a
bit of an answer that 10.8 gives no meaning is 0. -/
def Obligations.TableReadersShowTheTable : Prop :=
  let stateCode : Life → Byte := fun l => match l with
    | .posted _ => 1#8
    | .live _ => 2#8
    | .changed _ _ => 3#8
    | .retiring _ => 4#8
  let phaserCode : Phaser → Byte := fun p => match p with
    | .fi => 0#8
    | .fe => 1#8
    | .ri => 2#8
    | .re => 3#8
  let classCode : Cls → Byte := fun c => match c with
    | .base => 1#8
    | .mode => 2#8
    | .transient => 3#8
    | .protect => 4#8
    | .service => 5#8
  let kindCode : Kind → Byte := fun k => match k with
    | .setpoint => 0#8
    | .trim => 1#8
    | .limit => 2#8
  let content : Option Content → List Byte := fun c => match c with
    | none => [0#8, 0#8, 0#8, 0#8, 0#8, 0#8]
    | some (.setpoint target slew park ka) =>
      let w := BitVec.ofInt 16 (match target with
        | .park => -32768
        | .au v => v)
      [hiByte w, loByte w, hiByte (BitVec.ofNat 16 slew), loByte (BitVec.ofNat 16 slew), if park then 1#8 else 0#8,
        BitVec.ofNat 8 ka]
    | some (.trim offset ka) =>
      [hiByte (BitVec.ofInt 16 offset), loByte (BitVec.ofInt 16 offset), 0#8, 0#8, 0#8, BitVec.ofNat 8 ka]
    | some (.limit lo hi ka) =>
      [hiByte (BitVec.ofInt 16 lo), loByte (BitVec.ofInt 16 lo), hiByte (BitVec.ofInt 16 hi), loByte (BitVec.ofInt 16 hi),
        0#8, BitVec.ofNat 8 ka]
  ∀ (snd : Sender) (s : State),
    (∀ key k, taken (.find snd key) snd s → readKey key = some k → TableLaw s →
      (∀ i r, (s.rt.slots.get i).record = some r → r.key = k →
        exec (.find snd key) s = .next (s.respond .find snd
          ⟨.ok, [BitVec.ofNat 8 i.val, (s.rt.slots.get i).gen.setWidth 8, stateCode r.life]⟩)) ∧
      ((∀ i r, (s.rt.slots.get i).record = some r → r.key ≠ k) →
        exec (.find snd key) s = .next (s.respond .find snd ⟨.notFound, []⟩))) ∧
    (∀ key, taken (.find snd key) snd s → readKey key = none →
      exec (.find snd key) s = .next (s.respond .find snd ⟨.badField, []⟩)) ∧
    (∀ h i r, taken (.readRecord snd h) snd s → s.rt.slots.resolve h = .ok (i, r) → ∃ payload,
      exec (.readRecord snd h) s = .next (s.respond .readRecord snd ⟨.ok, payload⟩) ∧ payload.length = 19 ∧
      payload.take 5 = [phaserCode r.key.phaser, classCode r.key.cls, kindCode r.key.kind, stateCode r.life,
        BitVec.ofNat 8 ((if r.life.active = none then 0 else 1) + (if r.life.pending = none then 0 else 2))] ∧
      (payload.drop 5).take 6 = content r.life.active ∧ (payload.drop 11).take 6 = content r.life.pending ∧
      (r.deadline = none → payload.drop 17 = [0xFF#8, 0xFF#8]) ∧
      (∀ d, r.deadline = some d → 1 ≤ d → payload.drop 17 = halfBytes (BitVec.ofNat 16 d))) ∧
    (taken (.list snd) snd s → ∃ payload, exec (.list snd) s = .next (s.respond .list snd ⟨.ok, payload⟩) ∧
      payload.length = 24 ∧
      ∀ i : Fin 24, payload[i.val]? = some (BitVec.ofNat 8
        ((match (s.rt.slots.get i).record with
          | none => 0
          | some r => (stateCode r.life).toNat) * 16 + (s.rt.slots.get i).gen.toNat)))

/-- One apply by command: each record of a covered group by R32 and R33, the recomputes asked for by R34 and R35, the counts
by R36. The premise says that no recompute of an earlier apply, by command or at a mark crossing, is owed (log 9). MODEL'S CHOICE,
log 43: covered is answered as 1, not covered as 0. -/
def Obligations.ApplyPromotesAndFreesTheCoveredGroups : Prop :=
  ∀ (snd : Sender) (sel : Byte) (s : State), taken (.apply snd sel) snd s →
    (sel.toNat = 0 ∨ 4 ≤ sel.toNat → exec (.apply snd sel) s = .next (s.respond .apply snd ⟨.badField, []⟩)) ∧
    (1 ≤ sel.toNat → sel.toNat ≤ 3 →
      (∀ p, Asker.apply ∉ (s.resolver p).asked ∧ Asker.mark ∉ (s.resolver p).asked) →
      let covers : Group → Bool := fun g => match g with
        | .front => sel != 2#8
        | .rear => sel != 1#8
      let promoted : Group → Nat := fun g => s.rt.slots.list.countP fun x => x.record.any fun r =>
        covers g && r.key.phaser.group == g && r.life.pending.isSome
      let retired : Group → Nat := fun g => s.rt.slots.list.countP fun x => x.record.any fun r =>
        covers g && r.key.phaser.group == g && r.life.code == 4#8
      ∃ t : State,
        exec (.apply snd sel) s = .next (t.respond .apply snd ⟨.ok,
          [if covers .front then 1#8 else 0#8, BitVec.ofNat 8 (promoted .front), BitVec.ofNat 8 (retired .front),
           if covers .rear then 1#8 else 0#8, BitVec.ofNat 8 (promoted .rear), BitVec.ofNat 8 (retired .rear)]⟩) ∧
        t = { s with rt := { s.rt with slots := t.rt.slots }, tr := t.tr } ∧
        (∀ i, (t.rt.slots.get i).gen = (s.rt.slots.get i).gen ∧
          (t.rt.slots.get i).record = match (s.rt.slots.get i).record with
            | none => none
            | some r =>
              if covers r.key.phaser.group then
                match r.life with
                | .posted c => some ⟨r.key, .live c, if c.keepAlive = 0 then none else some (c.keepAlive * 10)⟩
                | .changed _ c => some ⟨r.key, .live c, if c.keepAlive = 0 then none else some (c.keepAlive * 10)⟩
                | .retiring _ => none
                | .live _ => some r
              else some r) ∧
        ∀ p, ∃ notes, t.resolver p = { s.resolver p with
            asked := (s.resolver p).asked ++
              (if covers p.group ∧ 0 < promoted p.group + retired p.group then [.apply] else []),
            notes := (s.resolver p).notes ++ notes } ∧
          ∀ n, n ∈ notes ↔ covers p.group = true ∧ ∃ i r target slew park k,
            (s.rt.slots.get i).record = some r ∧ r.key.phaser = p ∧
            r.life = .retiring (.setpoint target slew park k) ∧
            n = ⟨⟨BitVec.ofNat 5 i.val, (s.rt.slots.get i).gen⟩, .retired park⟩)

/-- Expiry: the record leaves, EXPIRED is latched with its handle, and a recompute is asked for. A deadline that has not run
out is left (MODEL'S CHOICE, log 2). The premise says that no recompute of an earlier apply, by command or at a mark crossing,
is owed (log 9). -/
def Obligations.ExpiryRemovesTheRecordAndAsksForARecompute : Prop :=
  ∀ (i : Fin 24) (s : State),
    ((s.rt.slots.get i).record = none → exec (.expiry i) s = .next s) ∧
    (∀ r, (s.rt.slots.get i).record = some r → r.deadline ≠ some 0 → exec (.expiry i) s = .next s) ∧
    (∀ r, (s.rt.slots.get i).record = some r → r.deadline = some 0 →
      (∀ p, Asker.apply ∉ (s.resolver p).asked ∧ Asker.mark ∉ (s.resolver p).asked) →
      let p := r.key.phaser
      let h : Handle := ⟨BitVec.ofNat 5 i.val, (s.rt.slots.get i).gen⟩
      let g := s.phGroup p
      let x := s.resolver p
      exec (.expiry i) s = .next
        (((s.setSlots (s.rt.slots.set i ⟨(s.rt.slots.get i).gen, none⟩)).setPhGroup p
          { g with expired := match g.expired with
            | none => some ⟨1, h⟩
            | some l => some ⟨min 255 (l.count + 1), h⟩ }).setResolver p
          { x with asked := x.asked ++ [.expiry],
                   notes := x.notes ++ (if r.key.kind = .setpoint then [⟨h, .expired⟩] else []) }))

/-! ### The Target Resolver -/

/-- A recompute with a winner, the SETPOINT with active content of the highest class: the record is the composition of O21 from
the winner's target and class, and the Sequencer takes the effective target as `targetTaken` says. The two fields that keep the
winner's class and slew are the model's own (log 16). MODEL'S CHOICE, log 38: RELEASE_HELD follows its three conditions alone,
also outside CYCLE_SYNC. MODEL'S CHOICE, log 42: the Sequencer's move is taken inside the recompute's event.
MODEL'S CHOICE, log 35: a change from one numeric target to another moves no phaser, and RELEASE_HELD follows its conditions. -/
def Obligations.RecomputeFollowsTheHighestSetpoint : Prop :=
  ∀ (p : Phaser) (who : Asker) (rest : List Asker) (i : Fin 24) (r : Record) (target : Target) (slew : Nat) (park : Bool)
    (ka : Nat) (s : State), TableLaw s → (s.resolver p).windowOk →
    (s.resolver p).asked = who :: rest → (s.rt.slots.get i).record = some r → r.key.phaser = p →
    r.life.active = some (.setpoint target slew park ka) →
    (∀ j q, (s.rt.slots.get j).record = some q → q.key.phaser = p → q.key.kind = .setpoint → q.life.active ≠ none →
      q.key.cls.rank ≤ r.key.cls.rank) →
    let h : Handle := ⟨BitVec.ofNat 5 i.val, (s.rt.slots.get i).gen⟩
    ∃ t : State, exec (.recompute p) s = .next t ∧
      (t.resolver p).record.disposition = .setpoint h ∧
      (t.resolver p).notes = [] ∧ (t.resolver p).asked = rest ∧
      (t.resolver p).winnerClass = r.key.cls ∧ (t.resolver p).winnerSlew = slew ∧
      (t.resolver p).amin = (s.resolver p).amin ∧ (t.resolver p).amax = (s.resolver p).amax ∧
      t.stands p .limited = (t.resolver p).record.limited ∧
      (target = .park → (t.resolver p).record = ⟨.park, .setpoint h, [], [], false, false⟩) ∧
      (∀ v, target = .au v →
        (t.resolver p).record =
          compose s.rt.slots p (s.resolver p).amin (s.resolver p).amax (.setpoint h) v r.key.cls ∧
        ∃ w, (t.resolver p).record.target = .au w ∧ (s.resolver p).amin ≤ w ∧ w ≤ (s.resolver p).amax ∧
        ((∀ j q, (s.rt.slots.get j).record = some q → q.key.phaser = p → q.key.kind ≠ .setpoint →
            q.life.active = none) →
          w = max (s.resolver p).amin (min (s.resolver p).amax v) ∧ (t.resolver p).record.trims = [] ∧
          (t.resolver p).record.limits = [] ∧ (t.resolver p).record.authClamp = decide (w ≠ v) ∧
          (t.resolver p).record.limited = decide (w ≠ v))) ∧
      targetTaken p s t ∧
      t.rt = s.rt ∧ t.ad = s.ad ∧ t.ec = s.ec ∧ t.fp = s.fp ∧ ∀ q, q ≠ p → t.resolver q = s.resolver q

/-- A recompute without a winner: the rows of R53, the composition of O21 under HOLD, and what the Sequencer does with the
effective target. The held class is that of the last winner (log 16). MODEL'S CHOICE, log 2: a recompute that was not asked for
changes nothing. MODEL'S CHOICE, log 9: a phaser whose fault time has been found reached counts as FAULTED already.
MODEL'S CHOICE, logs 35, 38 and 42: as in O19. -/
def Obligations.RecomputeWithoutWinnerFollowsTheNote : Prop :=
  (∀ (p : Phaser) (s : State), (s.resolver p).asked = [] → exec (.recompute p) s = .next s) ∧
  ∀ (p : Phaser) (who : Asker) (rest : List Asker) (s : State),
    (s.resolver p).asked = who :: rest →
    (∀ j q, (s.rt.slots.get j).record = some q → q.key.phaser = p → q.key.kind = .setpoint → q.life.active = none) →
    let x := s.resolver p
    let driven := (s.phaser p).state = .releasing ∨ ((s.phaser p).state = .tracking ∧ (s.phaser p).faultDue = false)
    let held := fun v c => compose s.rt.slots p x.amin x.amax (.hold v c) v c
    ∃ t : State, exec (.recompute p) s = .next t ∧ (t.resolver p).notes = [] ∧ (t.resolver p).asked = rest ∧
      (t.resolver p).amin = x.amin ∧ (t.resolver p).amax = x.amax ∧
      t.stands p .limited = (t.resolver p).record.limited ∧
      (x.record.disposition = .parkDefault → (t.resolver p).record = ⟨.park, .parkDefault, [], [], false, false⟩) ∧
      (∀ h n, x.record.disposition = .setpoint h → x.notes.find? (fun n => n.handle == h) = some n →
        (n.how = .expired ∨ n.how = .retired true ∨ ¬ driven →
          (t.resolver p).record = ⟨.park, .parkDefault, [], [], false, false⟩) ∧
        (n.how = .retired false → driven → (t.resolver p).record = held (s.loop p).ramp x.winnerClass)) ∧
      (∀ v c, x.record.disposition = .hold v c → (t.resolver p).record = held v c) ∧
      targetTaken p s t ∧
      t.rt = s.rt ∧ t.ad = s.ad ∧ t.ec = s.ec ∧ t.fp = s.fp ∧ ∀ q, q ≠ p → t.resolver q = s.resolver q

/-- The three stages of composition, for lists of any length. The trims read are those of at least the reference class, the
limits read are all: in a table whose keys are unique, exactly the records of the phaser that have active content, in ascending
class order. The offsets are added in that order with saturation after each; then the limits clamp in that order, so that the
highest class clamps last; the window clamps at the end. `authClamp` says whether the window changed the value, and `limited`
whether it or some limit did. -/
def Obligations.CompositionAddsTrimsThenClamps : Prop :=
  ∀ (t : Slots) (p : Phaser) (amin amax : Int) (d : Disposition) (start : Int) (ref : Cls),
    let trims := (t.activeRecords p .trim).filter fun x => decide (ref.rank ≤ x.1.rank)
    let limits := t.activeRecords p .limit
    let c := compose t p amin amax d start ref
    let add : Int → Cls × Handle × Content → Int := fun v x => match x.2.2 with
      | .trim o _ => max (-5760) (min 5759 (v + o))
      | _ => v
    let clamp : Int → Cls × Handle × Content → Int := fun v x => match x.2.2 with
      | .limit lo hi _ => if v < lo then lo else if hi < v then hi else v
      | _ => v
    let trimmed := trims.foldl add start
    let bounded := limits.foldl clamp trimmed
    c.disposition = d ∧ c.trims = trims.map (fun x => x.2.1) ∧ c.limits = limits.map (fun x => x.2.1) ∧
    c.target = .au (if bounded < amin then amin else if amax < bounded then amax else bounded) ∧
    (c.authClamp = true ↔ bounded < amin ∨ amax < bounded) ∧
    (c.limited = true ↔ (bounded < amin ∨ amax < bounded) ∨
      ∃ before x lo hi ka after, limits = before ++ x :: after ∧ x.2.2 = .limit lo hi ka ∧
        (before.foldl clamp trimmed < lo ∨ hi < before.foldl clamp trimmed)) ∧
    (trims.map fun x => x.1.rank).Pairwise (· < ·) ∧ (limits.map fun x => x.1.rank).Pairwise (· < ·) ∧
    ((∀ i j r q, (t.get i).record = some r → (t.get j).record = some q → r.key = q.key → i = j) →
      let listed : Kind → Cls × Handle × Content → Prop := fun kind x => ∃ i r,
        (t.get i).record = some r ∧ r.key = ⟨p, x.1, kind⟩ ∧ r.life.active = some x.2.2 ∧
        x.2.1 = ⟨BitVec.ofNat 5 i.val, (t.get i).gen⟩
      (∀ x, x ∈ trims ↔ ref.rank ≤ x.1.rank ∧ listed .trim x) ∧ ∀ x, x ∈ limits ↔ listed .limit x)

/-! ### The Angle Decoder -/

/-- The input filter: a level held for fewer than 16 ticks is ignored with the transition that ends it, and an accepted
transition of the other polarity causes nothing. A cam edge is counted for the sync cam in CRANK_SYNC and CYCLE_SYNC, queued
in CYCLE_SYNC, dropped at a full queue. -/
def Obligations.InputsAreFilteredAndCamEdgesQueued : Prop :=
  (∀ (rising : Bool) (held : Nat) (stamp : Tick) (o : ToothOrder) (c : Phaser) (s : State),
    (s.ad.pulseOpen = false → held < 16 →
      exec (.crankTooth rising held stamp o) s = .next (s.setDecoder { s.ad with pulseOpen := true })) ∧
    (s.ad.pulseOpen = true →
      exec (.crankTooth rising held stamp o) s = .next (s.setDecoder { s.ad with pulseOpen := false })) ∧
    (s.ad.pulseOpen = false → 16 ≤ held → rising ≠ s.ad.crankRises →
      exec (.crankTooth rising held stamp o) s = .next s) ∧
    ((s.cam c).pulseOpen = false → held < 16 →
      exec (.camEdge c rising held stamp) s = .next (s.setCam c { s.cam c with pulseOpen := true })) ∧
    ((s.cam c).pulseOpen = true →
      exec (.camEdge c rising held stamp) s = .next (s.setCam c { s.cam c with pulseOpen := false })) ∧
    ((s.cam c).pulseOpen = false → 16 ≤ held → rising ≠ (s.cam c).rises →
      exec (.camEdge c rising held stamp) s = .next s)) ∧
  (∀ (c : Phaser) (held : Nat) (stamp : Tick) (s : State), (s.cam c).pulseOpen = false → 16 ≤ held →
    let counted := c = s.ad.syncCam ∧ (s.ad.sync = .crankSync ∨ s.ad.sync = .cycleSync)
    let d := if counted then { s.ad with edgeCount := min 255 (s.ad.edgeCount + 1) } else s.ad
    (s.ad.sync ≠ .cycleSync → exec (.camEdge c (s.cam c).rises held stamp) s = .next (s.setDecoder d)) ∧
    (s.ad.sync = .cycleSync → (s.cam c).queue.length < 2 →
      exec (.camEdge c (s.cam c).rises held stamp) s = .next
        ((s.setDecoder d).setCam c { s.cam c with queue := (s.cam c).queue ++ [stamp] })) ∧
    (s.ad.sync = .cycleSync → 2 ≤ (s.cam c).queue.length →
      exec (.camEdge c (s.cam c).rises held stamp) s = .next
        ((s.setDecoder d).setPhGroup c { s.phGroup c with
          overrun := match (s.phGroup c).overrun with
            | none => some ⟨1, ()⟩
            | some l => some ⟨min 255 (l.count + 1), ()⟩ })))

/-- The first crank tooth, in STOPPED. The premise `departed = false` says that the handling of an earlier departure is not
owed. -/
def Obligations.FirstToothMovesTheDecoderToSeeking : Prop :=
  ∀ (held : Nat) (stamp : Tick) (o : ToothOrder) (s : State),
    s.ad.sync = .stopped → s.ad.pulseOpen = false → s.ps.departed = false → 16 ≤ held → StatusLaw s →
    exec (.crankTooth s.ad.crankRises held stamp o) s = .next
      ((s.setDecoder { s.ad with sync := .seeking, prevTooth := some stamp, stopTimer := some s.ad.stopTime }).setDev
        { s.cm.dev with engineStopped := s.cm.dev.engineStopped.transition false })

/-- The timing of a tooth and the judgement in SEEKING; then the judgement in CRANK_SYNC and CYCLE_SYNC: the tooth count, early
and late gaps, and the two tables for the finished revolution. `T` is the tooth period, `k` the last tooth index. MODEL'S
CHOICE, log 20: at an early or a late gap the edge count becomes 0, where R73 says only that the count is discarded. -/
def Obligations.DecoderJudgesEveryTooth : Prop :=
  (∀ (d : Decoder) (t t0 : Tick) (n1 n2 : Nat), d.sync ≠ .stopped → d.prevTooth = some t0 →
    let T := (t - t0).toNat
    let d' := d.tooth t n1 n2
    (d.candidate t = true ↔ ∃ prev, d.lastNormal = some prev ∧ (2 * d.missing + 1) * prev ≤ 2 * T) ∧
    d'.prevTooth = some t ∧ d'.stopTimer = some d.stopTime ∧
    (d.candidate t = true → d'.lastNormal = d.lastNormal ∧ d'.speed = d.speed) ∧
    (d.candidate t = false → d'.lastNormal = some T ∧
      (0 < T → d'.speed = min 65535 (480000000 / (d.teeth * T)))) ∧
    (d.sync = .seeking → d.candidate t = false →
      d'.sync = .seeking ∧ d'.toothIndex = d.toothIndex ∧ d'.half = d.half ∧ d'.edgeCount = d.edgeCount) ∧
    (d.sync = .seeking → d.candidate t = true →
      d'.sync = .crankSync ∧ d'.toothIndex = some 0 ∧ d'.half = d.half ∧ d'.edgeCount = 0)) ∧
  (∀ (d : Decoder) (t : Tick) (n1 n2 k : Nat), d.sync = .crankSync ∨ d.sync = .cycleSync → d.toothIndex = some k →
    let d' := d.tooth t n1 n2
    let last := d.teeth - d.missing - 1
    (k < last → d.candidate t = false →
      d'.toothIndex = some (k + 1) ∧ d'.sync = d.sync ∧ d'.half = d.half ∧ d'.edgeCount = d.edgeCount ∧
      d'.doubt = d.doubt) ∧
    ((k < last ∧ d.candidate t = true ∨ last ≤ k ∧ d.candidate t = false) →
      d'.sync = .seeking ∧ d'.toothIndex = none ∧ d'.half = none ∧ d'.edgeCount = 0 ∧ d'.doubt = d.doubt) ∧
    (last ≤ k → d.candidate t = true → d'.toothIndex = some 0 ∧ d'.edgeCount = 0 ∧
      (d.sync = .crankSync →
        (d.edgeCount = n1 → d'.sync = .cycleSync ∧ d'.half = some .second ∧ d'.doubt = 0) ∧
        (d.edgeCount ≠ n1 → d.edgeCount = n2 → d'.sync = .cycleSync ∧ d'.half = some .first ∧ d'.doubt = 0) ∧
        (d.edgeCount ≠ n1 → d.edgeCount ≠ n2 → d'.sync = .crankSync ∧ d'.half = d.half ∧ d'.doubt = d.doubt)) ∧
      (d.sync = .cycleSync → ∀ h, d.half = some h →
        let expected := if h = .first then n1 else n2
        let other := if h = .first then Half2.second else Half2.first
        (d.edgeCount = expected → d'.sync = .cycleSync ∧ d'.half = some other ∧ d'.doubt = 0) ∧
        (d.edgeCount ≠ expected → d.doubt = 0 → d'.sync = .cycleSync ∧ d'.half = some other ∧ d'.doubt = 1) ∧
        (d.edgeCount ≠ expected → d.doubt = 1 → d'.sync = .crankSync ∧ d'.half = none ∧ d'.doubt = 2))))

/-- Every accepted crank tooth moves the decoder by `Decoder.tooth` with the sync cam's counts, declares its conditions,
latches SYNC_DOUBT at a revolution whose count mismatches, and hands entries to and departures from CYCLE_SYNC to Edge Capture
and to the Sequencer. A tooth within CYCLE_SYNC becomes the bracketing tooth and applies each group in MARK mode whose mark
angle it crosses; it empties every cam's queue, places and associates each queued edge in capture order, as a measurement or a
reject, and then tests the window ends. Each phaser of a crossed group in which the apply changed a record has a recompute
asked for, with a note for each SETPOINT freed, and where the operand places the apply before the edges the recompute is taken
in the same event. A changed speed and an entry to CYCLE_SYNC cause the Sequencer's evaluation (`evaluated`, R108 to R110). The
last part says the same of the whole state at a tooth that crosses no mark and finds nothing owed by an earlier tooth: each
edge is taken by `takeMeasurement` or `rejectEdge` and each missed window end by `missTooth`, of which O29 speaks, cam by cam
in index order, and the evaluation is `evaluateAll`, of which O30 speaks. MODEL'S CHOICE, log 7: the operand `o` chooses the
order of the parts; each edge and window end acts on its own cam and phaser, so no other order of the cams shows. MODEL'S
CHOICE, log 38: an evaluation at a tooth that leaves CYCLE_SYNC can keep RELEASE_HELD with an empty list. MODEL'S CHOICE, log
36: the cause list is empty while RELEASE_HELD is clear. MODEL'S CHOICE, log 9: the clauses leave out recomputes and a departure that an earlier event still owes. -/
def Obligations.CrankToothMovesTheDecoderAndHandsOn : Prop :=
  ∀ (held : Nat) (stamp : Tick) (o : ToothOrder) (s : State), s.ad.pulseOpen = false → 16 ≤ held →
    let n1 := ((s.cam s.ad.syncCam).teeth.filter fun a => decide (a < 5760)).length
    let n2 := ((s.cam s.ad.syncCam).teeth.filter fun a => decide (5760 ≤ a)).length
    let d := s.ad.tooth stamp n1 n2
    let mismatch := s.ad.sync = .cycleSync ∧ s.ad.teeth - s.ad.missing - 1 ≤ s.ad.toothIndex.getD 0 ∧
      s.ad.candidate stamp = true ∧ s.ad.edgeCount ≠ (if s.ad.half = some .first then n1 else n2)
    let dev := { s.cm.dev with
      cycleSync := s.cm.dev.cycleSync.drive (decide (d.sync = .cycleSync)),
      engineStopped := s.cm.dev.engineStopped.drive (decide (d.sync = .stopped)),
      syncDoubt := if mismatch then (match s.cm.dev.syncDoubt with
        | none => some ⟨1, ()⟩
        | some l => some ⟨min 255 (l.count + 1), ()⟩) else s.cm.dev.syncDoubt }
    let span := if d.toothIndex = some 0 then (d.missing + 1) * (5760 / d.teeth) else 5760 / d.teeth
    let crosses : Group → Prop := fun g => (s.config g).mode = .mark ∧ crossed (s.config g).mark s.ad.angle d.angle
    let windowEndOf : Phaser → Nat → Nat := fun c k =>
      (((s.cam c).teeth.getD k 0 : Int) - (s.resolver c).amin + s.ec.margin) % 11520 |>.toNat
    let evaluates := (s.ad.sync ≠ .cycleSync ∧ d.sync = .cycleSync) ∨
      (d.speed ≠ s.ad.speed ∧ (s.ad.sync = .cycleSync → d.sync ≠ .cycleSync → o.evaluation = 0))
    ∃ t : State, exec (.crankTooth s.ad.crankRises held stamp o) s = .next t ∧ t.ad = d ∧ t.cm.dev = dev ∧
      t.fp = s.fp ∧ t.counter = s.counter ∧ t.msTicks = s.msTicks ∧
      (s.ad.sync = .cycleSync → d.sync ≠ .cycleSync →
        t.ps.departed = true ∧ t.rt = s.rt ∧ t.tr = s.tr ∧ t.ec.bracket = none ∧
        ∀ c, t.cam c = { s.cam c with queue := [], miss := 0 }) ∧
      (s.ad.sync ≠ .cycleSync → d.sync = .cycleSync →
        t.rt = s.rt ∧ t.tr = s.tr ∧ t.ec.bracket = some ⟨stamp, d.angle⟩ ∧
        ∀ c, t.cam c = { s.cam c with miss := 0, marks := (s.cam c).marks.map fun _ => true }) ∧
      (s.ad.sync ≠ .cycleSync → d.sync ≠ .cycleSync → t.rt = s.rt ∧ t.tr = s.tr ∧ t.ec = s.ec) ∧
      (s.ps.departed = false → ¬ (s.ad.sync = .cycleSync ∧ d.sync = .cycleSync) →
        (evaluates → ∀ p, evaluated p s t) ∧
        (¬ evaluates → t.ps.phasers = s.ps.phasers ∧ t.lu = s.lu ∧ t.vd = s.vd ∧ t.cm.ph = s.cm.ph)) ∧
      (s.ad.sync = .cycleSync → d.sync = .cycleSync → t.ec.bracket = some ⟨stamp, d.angle⟩ ∧
        t.rt.front = s.rt.front ∧ t.rt.rear = s.rt.rear ∧
        (∀ i, (t.rt.slots.get i).gen = (s.rt.slots.get i).gen ∧
          (t.rt.slots.get i).record = match (s.rt.slots.get i).record with
            | none => none
            | some r =>
              if crosses r.key.phaser.group then
                match r.life with
                | .posted c => some ⟨r.key, .live c, if c.keepAlive = 0 then none else some (c.keepAlive * 10)⟩
                | .changed _ c => some ⟨r.key, .live c, if c.keepAlive = 0 then none else some (c.keepAlive * 10)⟩
                | .retiring _ => none
                | .live _ => some r
              else some r) ∧
        (∀ b, s.ec.bracket = some b → ∀ c : Phaser,
          let x := s.resolver c
          let lo := x.amin - s.ec.margin
          let hi := x.amax + s.ec.margin
          let edges := (s.cam c).queue.map (placeEdge b stamp span)
          let start : CamView := { s.camView c with cam := { s.cam c with queue := [] } }
          t.camView c = (List.range (s.cam c).teeth.length).foldl
            (CamView.windowEnd x.amin s.ec.margin s.ec.lostCount b.angle d.angle)
            (edges.foldl (CamView.edge lo hi) start)) ∧
        ((∀ p, Asker.apply ∉ (s.resolver p).asked ∧ Asker.mark ∉ (s.resolver p).asked) → ∀ p : Phaser,
          let x := s.resolver p
          let changed := ∃ i r, (s.rt.slots.get i).record = some r ∧ r.key.phaser.group = p.group ∧
            (r.life.pending ≠ none ∨ ∃ a, r.life = .retiring a)
          let first := match p.group with
            | .front => o.frontFirst
            | .rear => o.rearFirst
          (¬ (crosses p.group ∧ changed) → t.resolver p = x) ∧
          (crosses p.group → changed → ∃ notes,
            (∀ n, n ∈ notes ↔ ∃ i r target slew park k, (s.rt.slots.get i).record = some r ∧ r.key.phaser = p ∧
              r.life = .retiring (.setpoint target slew park k) ∧
              n = ⟨⟨BitVec.ofNat 5 i.val, (s.rt.slots.get i).gen⟩, .retired park⟩) ∧
            let owing := { x with asked := x.asked ++ [.mark], notes := x.notes ++ notes }
            (first = false → t.resolver p = owing) ∧
            (first = true → (t.resolver p).asked = [] ∧ (t.resolver p).notes = [] ∧
              (x.asked = [] → d.speed = s.ad.speed → s.ps.departed = false → ∃ u : State,
                exec (.recompute p) ((s.setSlots t.rt.slots).setResolver p owing) = .next u ∧
                t.resolver p = u.resolver p)))) ∧
        ((∀ c, (s.cam c).queue = []) → s.ps.departed = false → d.speed ≠ s.ad.speed →
          (∀ p, Asker.mark ∉ (s.resolver p).asked) → (∀ g, ¬ crosses g) →
          (∀ b, s.ec.bracket = some b → ∀ c k, k < (s.cam c).teeth.length →
            crossed (windowEndOf c k) b.angle d.angle = false) →
          ∀ p, evaluated p s t) ∧
        (∀ b, s.ec.bracket = some b → s.ps.departed = false →
          (∀ p, Asker.mark ∉ (s.resolver p).asked) → (∀ g, ¬ crosses g) →
          let edge : Phaser → State → Tick → State := fun c u te =>
            match associate (u.cam c).teeth (placeEdge b stamp span te) ((u.resolver c).amin - u.ec.margin)
              ((u.resolver c).amax + u.ec.margin) with
            | none => rejectEdge c u
            | some (k, phase) => takeMeasurement c k phase u
          let edges : Phaser → State → State := fun c u =>
            (u.cam c).queue.foldl (edge c) (u.setCam c { u.cam c with queue := [] })
          let windowEnd : Phaser → State → Nat → State := fun c u k =>
            if crossed ((((u.cam c).teeth.getD k 0 : Int) - (u.resolver c).amin + u.ec.margin) % 11520).toNat
              b.angle d.angle then
              if (u.cam c).marks.getD k true then
                u.setCam c { u.cam c with marks := (u.cam c).marks.set k false }
              else missTooth c u
            else u
          let ends : Phaser → State → State := fun c u =>
            (List.range (u.cam c).teeth.length).foldl (windowEnd c) u
          let evaluation : Bool → State → State := fun now u =>
            if now && decide (d.speed ≠ s.ad.speed) then evaluateAll u else u
          let before := decide (o.evaluation.val ≤ o.frontFirst.toNat + o.rearFirst.toNat)
          let u := edges .re (edges .ri (edges .fe (edges .fi (evaluation before ((s.setDecoder d).setDev dev)))))
          t = evaluation (!before) (ends .re (ends .ri (ends .fe (ends .fi
            { u with ec := { u.ec with bracket := some ⟨stamp, d.angle⟩ } }))))))

/-- The stop timer's expiry. MODEL'S CHOICE, log 2: without a run-out timer nothing changes. -/
def Obligations.StopTimerExpiryStopsTheDecoder : Prop :=
  ∀ s : State,
    (s.ad.stopTimer ≠ some 0 → exec .stopTimerExpiry s = .next s) ∧
    (s.ad.stopTimer = some 0 → ∃ t : State, exec .stopTimerExpiry s = .next t ∧
      t.ad = { s.ad with sync := .stopped, prevTooth := none, lastNormal := none, toothIndex := none, half := none,
                         edgeCount := 0, speed := 0, stopTimer := none } ∧
      t.cm.dev.engineStopped = s.cm.dev.engineStopped.drive true ∧
      t.cm.dev.cycleSync = s.cm.dev.cycleSync.drive false ∧ t.cm.ph = s.cm.ph ∧
      (s.ad.sync = .cycleSync → t.ps = { s.ps with departed := true } ∧ t.ec.bracket = none ∧
        ∀ c, t.cam c = { s.cam c with queue := [], miss := 0 }) ∧
      (s.ad.sync ≠ .cycleSync → t.ps = s.ps ∧ t.ec = s.ec) ∧
      t.rt = s.rt ∧ t.tr = s.tr ∧ t.lu = s.lu ∧ t.vd = s.vd ∧ t.fp = s.fp)

/-- The crossing test: its definition by distances modulo one cycle, and the intervals of successive teeth tile the cycle,
so an angle is crossed in exactly one of two adjoining intervals when it is crossed in their union. -/
def Obligations.CrossingIntervalsTileTheCycle : Prop :=
  (∀ a prev now : Nat, crossed a prev now = true ↔
    1 ≤ ((a : Int) - prev) % 11520 ∧ ((a : Int) - prev) % 11520 ≤ ((now : Int) - prev) % 11520) ∧
  ∀ a prev mid now : Nat, ((mid : Int) - prev) % 11520 + ((now : Int) - mid) % 11520 < 11520 →
    (crossed a prev now = (crossed a prev mid || crossed a mid now)) ∧
    ¬ (crossed a prev mid = true ∧ crossed a mid now = true)

/-! ### Edge Capture -/

/-- Where a queued edge is placed, and which tooth it belongs to. -/
def Obligations.EdgesArePlacedAndAssociated : Prop :=
  (∀ (b : Bracket) (t1 te : Tick) (span : Nat), 0 < span →
    b.angle ≤ placeEdge b t1 span te ∧ placeEdge b t1 span te ≤ b.angle + span - 1 ∧
    ((t1 - b.time).toNat < (te - b.time).toNat → placeEdge b t1 span te = b.angle) ∧
    ((te - b.time).toNat ≤ (t1 - b.time).toNat → 0 < (t1 - b.time).toNat →
      placeEdge b t1 span te = b.angle + min (span - 1)
        ((2 * ((te - b.time).toNat * span) + (t1 - b.time).toNat) / (2 * (t1 - b.time).toNat)))) ∧
  ∀ (teeth : List Nat) (edge : Nat) (lo hi : Int),
    let phase : Nat → Int := fun tooth => ((tooth : Int) - edge + 5760) % 11520 - 5760
    (associate teeth edge lo hi = none ↔ ∀ a ∈ teeth, ¬ (lo ≤ phase a ∧ phase a ≤ hi)) ∧
    ∀ k v, associate teeth edge lo hi = some (k, v) →
      lo ≤ v ∧ v ≤ hi ∧ -5760 ≤ v ∧ v ≤ 5759 ∧ (∃ a, teeth[k]? = some a ∧ v = phase a) ∧
      ∀ (j : Nat) (a : Nat), teeth[j]? = some a → lo ≤ phase a → phase a ≤ hi →
        v.natAbs ≤ (phase a).natAbs ∧ (j < k → v.natAbs < (phase a).natAbs)

/-- A measurement, a reject and a miss, each on its own cam, and what the Sequencer does with a measurement and with CAM_LOST.
A measurement in TRACKING is delivered to the loop; MODEL'S CHOICE, log 34: whether the phaser is TRACKING is read before the
Sequencer handles the measurement, so the one that brings the phaser into TRACKING is not delivered (R114, R142). MODEL'S
CHOICE, log 9: a TRACKING phaser whose fault time has been found reached is FAULTED first. `go` says that a numeric target and
permission hold, `driver` that a driver condition stands. -/
def Obligations.MeasurementsRejectsAndMissesActOnTheirCam : Prop :=
  ∀ (c : Phaser) (k : Nat) (phase : Int) (s : State),
    let x := s.phaser c
    let go := s.numeric c && s.permission
    let home := phase.natAbs ≤ s.ps.params.homeBand
    let driver := s.stands c .drvOpen || s.stands c .drvShort || s.stands c .drvHot
    (let t := takeMeasurement c k phase s
     let y := t.phaser c
     t.cam c = { s.cam c with last := some ⟨phase, 0⟩, miss := 0, marks := (s.cam c).marks.set k true } ∧
     t.stands c .camLost = false ∧
     (x.state = .tracking → x.faultDue = false →
       y.state = .tracking ∧ t.loop c = { s.loop c with delivered := (s.loop c).delivered ++ [phase] } ∧
       t.channel c = s.channel c) ∧
     (x.state = .tracking → x.faultDue = true → y.state = .faulted ∧ (t.loop c).atRest) ∧
     (x.state = .parked ∨ x.state = .releasing ∨ x.state = .latching ∨ x.state = .faulted ∨ x.state = .off →
       y = x ∧ t.loop c = s.loop c ∧ t.channel c = s.channel c) ∧
     (driver = false → x.state = .stopped ∨ x.state = .returning →
       (t.loop c).delivered = (s.loop c).delivered ∧
       (go = false → t.stands c .releaseHeld = s.numeric c) ∧ (go = true → t.stands c .releaseHeld = false)) ∧
     (driver = false → x.state = .stopped → home → go = false →
       y.state = .parked ∧ y.timer = none ∧ (t.channel c).commanded = 0) ∧
     (driver = false → x.state = .stopped → home → go = true → t.released c) ∧
     (driver = false → x.state = .stopped → ¬ home → go = false → t.sentHome c) ∧
     (driver = false → (x.state = .stopped ∧ ¬ home) ∨ x.state = .returning → go = true →
       y.state = .tracking ∧ y.timer = none ∧ y.overBand = none ∧
       (t.loop c).ramp = clampInt (s.resolver c).amin (s.resolver c).amax phase) ∧
     (driver = false → x.state = .returning → go = false → home →
       y.state = .latching ∧ y.timer = some s.ps.params.latchInterval ∧ (t.channel c).commanded = 0) ∧
     (x.state = .returning → go = false → ¬ home →
       y.state = .returning ∧ y.timer = x.timer ∧ t.loop c = s.loop c ∧ t.channel c = s.channel c) ∧
     ∀ q, q ≠ c → t.cam q = s.cam q ∧ t.phaser q = s.phaser q) ∧
    rejectEdge c s =
      (s.setCam c { s.cam c with rejects := min 255 ((s.cam c).rejects + 1) }).setPhGroup c
        { s.phGroup c with
          reject := match (s.phGroup c).reject with
            | none => some ⟨1, ()⟩
            | some l => some ⟨min 255 (l.count + 1), ()⟩ } ∧
    (let t := missTooth c s
     let y := t.phaser c
     let declared := s.stands c .camLost = false ∧ s.ec.lostCount ≤ min 255 ((s.cam c).miss + 1)
     t.cam c = { s.cam c with miss := min 255 ((s.cam c).miss + 1) } ∧
     (t.stands c .camLost = true ↔ s.stands c .camLost = true ∨ s.ec.lostCount ≤ min 255 ((s.cam c).miss + 1)) ∧
     (¬ declared → y = x ∧ t.loop c = s.loop c ∧ t.channel c = s.channel c ∧ t.cm = s.cm) ∧
     (declared → x.state = .releasing ∨ x.state = .returning ∨ (x.state = .tracking ∧ x.faultDue = false) →
       y.state = .faulted ∧ y.timer = none ∧ (t.channel c).commanded = 0 ∧ t.stands c .faulted = true ∧
       y.causes = ⟨s.stands c .drvOpen, s.stands c .drvShort, s.stands c .drvHot, true, false, false⟩ ∧
       (x.state ≠ .returning → (t.loop c).atRest)) ∧
     (declared → x.state = .faulted → y = { x with causes := { x.causes with camLost := true } } ∧
       t.loop c = s.loop c ∧ t.channel c = s.channel c) ∧
     (declared → x.state = .stopped ∨ x.state = .parked ∨ x.state = .latching ∨ x.state = .off →
       y = x ∧ t.loop c = s.loop c ∧ t.channel c = s.channel c) ∧
     ∀ q, q ≠ c → t.cam q = s.cam q ∧ t.phaser q = s.phaser q)

/-! ### The Phaser Sequencer -/

/-- Permission and withdrawal, check by check, and what an evaluation of the four phasers does. A report: stored, clamped,
FRESH, the timer restarted, COND_STALE cleared, the three stored values answered; an oil pressure other than LOW or OK is
refused. The freshness timer's expiry makes the record STALE and withdraws the driven phasers. At each of the two, a PARKED
phaser is released and a RETURNING one tracks where a numeric target and permission hold, a driven one goes home exactly where
permission is withdrawn, and RELEASE_HELD with its cause list follows R110. MODEL'S CHOICE, log 2: an expiry of the freshness
timer without a run-out timer changes nothing. MODEL'S CHOICE, log 9: a TRACKING phaser whose fault time has been found reached
is FAULTED first, so the clauses on a driven phaser leave it out. MODEL'S CHOICE, log 36: the cause list is empty while
RELEASE_HELD is clear. MODEL'S CHOICE, log 38: outside CYCLE_SYNC, before the handling of the departure, the list can be empty
while RELEASE_HELD stands. -/
def Obligations.ReportAndFreshnessDriveTheEngineRecord : Prop :=
  (∀ s : State,
    (s.permission = true ↔ s.ad.sync = .cycleSync ∧ s.ps.cond.fresh = true ∧ s.ps.cond.oilOk = true ∧
      s.ps.params.releaseTemp ≤ s.ps.cond.temperature ∧ s.ps.params.releaseSpeed ≤ s.ad.speed) ∧
    (s.withdrawn = true ↔ s.ps.cond.fresh = false ∨ s.ps.cond.oilOk = false ∨
      (s.ad.speed : Int) < s.ps.params.releaseSpeed - s.ps.params.hysteresis)) ∧
  (∀ s : State, SeqFrame s (evaluateAll s) ∧ ∀ p, evaluated p s (evaluateAll s)) ∧
  (∀ (snd : Sender) (oil : Byte) (temperature battery : Half) (s : State),
    taken (.reportConditions snd oil temperature battery) snd s →
    (2 ≤ oil.toNat → exec (.reportConditions snd oil temperature battery) s =
      .next (s.respond .reportConditions snd ⟨.badField, []⟩)) ∧
    (oil.toNat ≤ 1 → ∃ t : State,
      exec (.reportConditions snd oil temperature battery) s = .next (t.respond .reportConditions snd
        ⟨.ok, oil :: halfBytes (BitVec.ofInt 16 (max (-40) (min 150 temperature.toInt))) ++
          halfBytes (BitVec.ofNat 16 (max 6000 (min 20000 battery.toNat)))⟩) ∧
      t.ps.cond = ⟨oil == 1#8, max (-40) (min 150 temperature.toInt), max 6000 (min 20000 battery.toNat), true,
        some s.ps.params.freshnessTime⟩ ∧
      t.cm.dev = { s.cm.dev with condStale := s.cm.dev.condStale.drive false } ∧
      t.ps.params = s.ps.params ∧ t.rt = s.rt ∧ t.tr = s.tr ∧ t.ad = s.ad ∧ t.ec = s.ec ∧ t.fp = s.fp ∧
      ∀ p, evaluated p s t)) ∧
  (∀ s : State,
    (s.ps.cond.timer ≠ some 0 → exec .freshnessTimerExpiry s = .next s) ∧
    (s.ps.cond.timer = some 0 → ∃ t : State, exec .freshnessTimerExpiry s = .next t ∧
      t.ps.cond = { s.ps.cond with fresh := false, timer := none } ∧
      t.cm.dev = { s.cm.dev with condStale := s.cm.dev.condStale.drive true } ∧
      t.ps.params = s.ps.params ∧ t.rt = s.rt ∧ t.tr = s.tr ∧ t.ad = s.ad ∧ t.ec = s.ec ∧ t.fp = s.fp ∧
      t.permission = false ∧ t.withdrawn = true ∧ ∀ p, evaluated p s t))

/-- ENABLE_PHASER off from any state but OFF, on from OFF, the two that change nothing, and the refusals. -/
def Obligations.EnablePhaserMovesToOffAndBack : Prop :=
  (∀ (snd : Sender) (b setting : Byte) (s : State), 4 ≤ b.toNat → taken (.enablePhaser snd b setting) snd s →
    exec (.enablePhaser snd b setting) s = .next (s.respond .enablePhaser snd ⟨.badField, []⟩)) ∧
  ∀ (snd : Sender) (p : Phaser) (setting : Byte) (s : State), let b := BitVec.ofNat 8 p.index
    taken (.enablePhaser snd b setting) snd s →
    (2 ≤ setting.toNat → exec (.enablePhaser snd b setting) s = .next (s.respond .enablePhaser snd ⟨.badField, []⟩)) ∧
    (setting = 0#8 → (s.phaser p).state ≠ .off → ∃ t : State,
      exec (.enablePhaser snd b setting) s = .next (t.respond .enablePhaser snd ⟨.ok, [7#8]⟩) ∧ SeqLocal p s t ∧
      (t.phaser p).state = .off ∧ (t.phaser p).enable = false ∧ (t.phaser p).timer = none ∧
      (t.phaser p).causes = CauseSet.empty ∧
      ((s.phaser p).state = .tracking → (t.phaser p).overBand = none ∧ t.stands p .trackErr = false ∧
        (t.loop p).integrator = 0) ∧
      t.stands p .faulted = false ∧ t.stands p .releaseHeld = false ∧
      t.channel p =
        { s.channel p with commanded := 0, suspended := true, ocCount := 0, openFail := 0, openPass := 0 }) ∧
    (setting = 0#8 → (s.phaser p).state = .off →
      exec (.enablePhaser snd b setting) s = .next (s.respond .enablePhaser snd ⟨.ok, [7#8]⟩)) ∧
    (setting = 1#8 → (s.phaser p).state ≠ .off →
      exec (.enablePhaser snd b setting) s =
        .next (s.respond .enablePhaser snd ⟨.ok, [(s.phaser p).state.byte]⟩)) ∧
    (setting = 1#8 → (s.phaser p).state = .off → ∃ t : State,
      let short := s.stands p .drvOpen || s.stands p .drvShort || s.stands p .drvHot
      exec (.enablePhaser snd b setting) s =
        .next (t.respond .enablePhaser snd ⟨.ok, [if short then 6#8 else 0#8]⟩) ∧ SeqLocal p s t ∧
      (t.phaser p).state = (if short then .faulted else .stopped) ∧ (t.phaser p).enable = true ∧
      t.channel p = { s.channel p with commanded := 0, suspended := false })

/-- CLEAR_FAULT by the phaser's state and conditions. In CYCLE_SYNC the phaser enters RETURNING, and goes on to TRACKING
where R117 says so; it is answered RETURNING all the same (MODEL'S CHOICE, log 33). The overcurrent count
is 0 after a clear that is taken, also where DRV_SHORT was not declared (MODEL'S CHOICE, log 45). -/
def Obligations.ClearFaultAnswersByStateAndConditions : Prop :=
  (∀ (snd : Sender) (b : Byte) (s : State), 4 ≤ b.toNat → taken (.clearFault snd b) snd s →
    exec (.clearFault snd b) s = .next (s.respond .clearFault snd ⟨.badField, []⟩)) ∧
  ∀ (snd : Sender) (p : Phaser) (s : State), let b := BitVec.ofNat 8 p.index
    taken (.clearFault snd b) snd s →
    let blocked := s.stands p .camLost || s.stands p .drvOpen || s.stands p .drvHot
    ((s.phaser p).state ≠ .faulted →
      exec (.clearFault snd b) s = .next (s.respond .clearFault snd ⟨.notFaulted, []⟩)) ∧
    ((s.phaser p).state = .faulted → blocked = true →
      exec (.clearFault snd b) s = .next (s.respond .clearFault snd ⟨.stillPresent, []⟩)) ∧
    ((s.phaser p).state = .faulted → blocked = false → ∃ t : State,
      exec (.clearFault snd b) s = .next (t.respond .clearFault snd
        ⟨.ok, [if s.ad.sync = .cycleSync then 4#8 else 0#8]⟩) ∧ SeqLocal p s t ∧
      (t.phaser p).causes = CauseSet.empty ∧ t.stands p .faulted = false ∧ t.stands p .drvShort = false ∧
      (t.channel p).ocCount = 0 ∧
      (s.ad.sync ≠ .cycleSync → (t.phaser p).state = .stopped ∧ (t.phaser p).timer = none) ∧
      (s.ad.sync = .cycleSync → (s.numeric p && s.permission) = false →
        (t.phaser p).state = .returning ∧ (t.phaser p).timer = some s.ps.params.returnTimeout) ∧
      (s.ad.sync = .cycleSync → (s.numeric p && s.permission) = true → (t.phaser p).state = .tracking))

/-- The release interval's expiry enters TRACKING, with the loop record and the duty of R114 and R142, the over-band time not
running, and the first step left to the next measurement. The entry is an evaluation: where permission is withdrawn the phaser
goes home in the same event (R108, R109). Where a condition stands that faults it, it is FAULTED at the entry (R119). MODEL'S
CHOICE, log 2: without RELEASING and a run-out timer the event changes nothing. -/
def Obligations.ReleaseIntervalExpiryEntersTracking : Prop :=
  ∀ (p : Phaser) (s : State),
    (¬ ((s.phaser p).state = .releasing ∧ (s.phaser p).timer = some 0) →
      exec (.releaseIntervalExpiry p) s = .next s) ∧
    ((s.phaser p).state = .releasing → (s.phaser p).timer = some 0 → ∃ t : State,
      let q := (s.loop p).params
      let v := if s.ps.cond.fresh then min 18000 (max 8000 s.ps.cond.battery) else 13500
      let u := if q.dmax ≤ q.nd then q.dmax else if q.nd ≤ q.dmin then q.dmin else q.nd
      exec (.releaseIntervalExpiry p) s = .next t ∧ SeqLocal p s t ∧
      (t.phaser p).overBand = none ∧ (t.phaser p).trackDue = false ∧ (t.phaser p).faultDue = false ∧
      (s.unfaulted p = true → s.withdrawn = false →
        (t.phaser p).state = .tracking ∧ (t.phaser p).timer = none ∧
        t.loop p = { s.loop p with
          ramp := clampInt (s.resolver p).amin (s.resolver p).amax
            (match (s.cam p).last with
             | some m => m.phase
             | none => 0),
          integrator := 0, lastStep := some s.counter, stepAge := some 0, output := u,
          sat := if q.dmax ≤ q.nd then .upper else if q.nd ≤ q.dmin then .lower else .none,
          delivered := [] } ∧
        (t.channel p).commanded = min 10000 ((2 * (u * 13500) + v) / (2 * v))) ∧
      (s.unfaulted p = true → s.withdrawn = true →
        t.sentHome p ∧ (t.loop p).atRest ∧ t.stands p .releaseHeld = s.numeric p) ∧
      (s.unfaulted p = false →
        (t.phaser p).state = .faulted ∧ (t.phaser p).timer = none ∧ (t.channel p).commanded = 0 ∧
        (t.phaser p).causes = ⟨s.stands p .drvOpen, s.stands p .drvShort, s.stands p .drvHot, s.stands p .camLost,
          false, false⟩ ∧ t.stands p .faulted = true ∧ (t.loop p).atRest))

/-- The return timeout faults the phaser with LATCH_FAIL and every standing cause; the latch interval's expiry parks the
phaser, or releases it in the same event. MODEL'S CHOICE, log 2: either event without its state and a run-out timer changes
nothing. -/
def Obligations.ReturnAndLatchTimersEndTheWayHome : Prop :=
  (∀ (p : Phaser) (s : State),
    (¬ ((s.phaser p).state = .returning ∧ (s.phaser p).timer = some 0) →
      exec (.returnTimeoutExpiry p) s = .next s) ∧
    ((s.phaser p).state = .returning → (s.phaser p).timer = some 0 → ∃ t : State,
      exec (.returnTimeoutExpiry p) s = .next t ∧ SeqLocal p s t ∧
      (t.phaser p).state = .faulted ∧ (t.phaser p).timer = none ∧ (t.channel p).commanded = 0 ∧
      (t.phaser p).causes = ⟨s.stands p .drvOpen, s.stands p .drvShort, s.stands p .drvHot, s.stands p .camLost,
        false, true⟩ ∧
      t.stands p .faulted = true ∧ t.stands p .releaseHeld = false ∧ t.loop p = s.loop p)) ∧
  (∀ (p : Phaser) (s : State),
    (¬ ((s.phaser p).state = .latching ∧ (s.phaser p).timer = some 0) →
      exec (.latchIntervalExpiry p) s = .next s) ∧
    ((s.phaser p).state = .latching → (s.phaser p).timer = some 0 → s.stands p .drvOpen = false →
      s.stands p .drvShort = false → s.stands p .drvHot = false → ∃ t : State,
      exec (.latchIntervalExpiry p) s = .next t ∧ SeqLocal p s t ∧
      ((s.numeric p && s.permission) = false → (t.phaser p).state = .parked ∧ (t.phaser p).timer = none ∧
        (t.channel p).commanded = 0 ∧ t.stands p .releaseHeld = s.numeric p ∧ t.loop p = s.loop p) ∧
      ((s.numeric p && s.permission) = true → s.stands p .camLost = false →
        (t.phaser p).state = .releasing ∧ (t.phaser p).timer = some s.ps.params.releaseInterval ∧
        (t.channel p).commanded = s.ps.params.releaseDuty) ∧
      ((s.numeric p && s.permission) = true → s.stands p .camLost = true →
        (t.phaser p).state = .faulted ∧ (t.channel p).commanded = 0 ∧
        (t.phaser p).causes = { CauseSet.empty with camLost := true })))

/-- The two over-band events. TRACK_ERR is declared at the track time. Where the fault time has been found reached, either event
faults the phaser: TRACK_ERR is declared, if the track time was found with it, and cleared by the move, in the same event.
MODEL'S CHOICE, log 2: an event whose time has not been found reached, or in another state, changes nothing. -/
def Obligations.OverBandTimesDeclareAndFault : Prop :=
  ∀ (p : Phaser) (s : State),
    ((s.phaser p).trackDue = false ∨ (s.phaser p).state ≠ .tracking → exec (.overBandTrackTime p) s = .next s) ∧
    ((s.phaser p).state = .tracking → (s.phaser p).trackDue = true → (s.phaser p).faultDue = false →
      exec (.overBandTrackTime p) s =
        .next ((s.setPhaser p { s.phaser p with trackDue := false }).drive p .trackErr true)) ∧
    ((s.phaser p).faultDue = false ∨ (s.phaser p).state ≠ .tracking → exec (.overBandFaultTime p) s = .next s) ∧
    ((s.phaser p).state = .tracking → (s.phaser p).faultDue = true → ∃ t : State,
      exec (.overBandFaultTime p) s = .next t ∧
      ((s.phaser p).trackDue = true → exec (.overBandTrackTime p) s = .next t) ∧ SeqLocal p s t ∧
      (t.phaser p).state = .faulted ∧ (t.phaser p).timer = none ∧ (t.phaser p).overBand = none ∧
      (t.phaser p).trackDue = false ∧ (t.phaser p).faultDue = false ∧ (t.channel p).commanded = 0 ∧
      (t.phaser p).causes = ⟨s.stands p .drvOpen, s.stands p .drvShort, s.stands p .drvHot, s.stands p .camLost,
        true, false⟩ ∧
      (let err := (s.phGroup p).conds.get .trackErr
       (t.phGroup p).conds.get .trackErr =
        ((if (s.phaser p).trackDue then err.drive true else err).drive false)) ∧
      t.stands p .trackErr = false ∧ t.stands p .faulted = true ∧
      t.loop p = { s.loop p with integrator := 0, lastStep := none, stepAge := none, delivered := [] })

/-- The handling of a departure from CYCLE_SYNC: one event for all four phasers. MODEL'S CHOICE, log 2: without a departure owed
nothing changes. MODEL'S CHOICE, log 9: a TRACKING phaser whose fault time has been found reached is FAULTED. -/
def Obligations.DepartureStopsEveryPhaser : Prop :=
  ∀ s : State,
    (s.ps.departed = false → exec .syncDepartureHandling s = .next s) ∧
    (s.ps.departed = true → ∃ t : State, exec .syncDepartureHandling s = .next t ∧
      SeqFrame s { t with ps := { t.ps with departed := true } } ∧ t.ps.departed = false ∧
      ∀ p,
        ((s.phaser p).state = .off ∨ (s.phaser p).state = .faulted ∨ (s.phaser p).state = .stopped →
          t.phaser p = s.phaser p ∧ t.loop p = s.loop p ∧ t.channel p = s.channel p) ∧
        ((s.phaser p).state = .tracking → (s.phaser p).faultDue = true → (t.phaser p).state = .faulted) ∧
        ((s.phaser p).state ≠ .off → (s.phaser p).state ≠ .faulted → (s.phaser p).state ≠ .stopped →
          ((s.phaser p).state = .tracking → (s.phaser p).faultDue = false) →
          s.stands p .drvOpen = false → s.stands p .drvShort = false → s.stands p .drvHot = false →
          (t.phaser p).state = .stopped ∧ (t.phaser p).timer = none ∧ (t.channel p).commanded = 0 ∧
          t.stands p .releaseHeld = false ∧
          ((s.phaser p).state = .tracking → (t.phaser p).overBand = none ∧ t.stands p .trackErr = false) ∧
          ((s.phaser p).state = .tracking ∨ (s.phaser p).state = .releasing → (t.loop p).atRest)))

/-- The Sequencer takes a declared driver condition: FAULTED from every state but OFF, with the set holding the cause and every other
cause that stands declared and would cause entry from the state left (R119); in FAULTED only the cause is added and every other one
kept (R120); in OFF nothing but the declaration taken. MODEL'S CHOICE, log 2: where none is owed nothing changes. MODEL'S CHOICE,
log 9: a TRACKING phaser whose fault time has been found reached is FAULTED by it first, so TRACK_ERR is in the set. MODEL'S CHOICE,
log 36: the cause list of RELEASE_HELD is empty after the entry, which leaves that condition clear. MODEL'S CHOICE, log 46: two
declarations of one condition that both wait are taken as one. -/
def Obligations.DriverConditionFaultsThePhaser : Prop :=
  ∀ (p : Phaser) (d : DriverCause) (s : State), let x := s.phaser p
    let owed := match d with
      | .drvOpen => x.declared.drvOpen
      | .drvShort => x.declared.drvShort
      | .drvHot => x.declared.drvHot
    let rest : DriverSet := match d with
      | .drvOpen => { x.declared with drvOpen := false }
      | .drvShort => { x.declared with drvShort := false }
      | .drvHot => { x.declared with drvHot := false }
    let added : CauseSet := match d with
      | .drvOpen => { x.causes with drvOpen := true }
      | .drvShort => { x.causes with drvShort := true }
      | .drvHot => { x.causes with drvHot := true }
    (owed = false → exec (.driverConditionFault p d) s = .next s) ∧
    (owed = true → x.state = .off → exec (.driverConditionFault p d) s = .next (s.setPhaser p { x with declared := rest })) ∧
    (owed = true → x.state = .faulted →
      exec (.driverConditionFault p d) s = .next (s.setPhaser p { x with declared := rest, causes := added })) ∧
    (owed = true → x.state ≠ .off → x.state ≠ .faulted → ∃ t : State,
      exec (.driverConditionFault p d) s = .next t ∧ SeqLocal p s t ∧
      (t.phaser p).state = .faulted ∧ (t.phaser p).enable = x.enable ∧ (t.phaser p).timer = none ∧
      (t.phaser p).declared = rest ∧ (t.phaser p).held = HeldCauses.empty ∧
      (t.phaser p).causes = ⟨s.stands p .drvOpen || d == .drvOpen, s.stands p .drvShort || d == .drvShort,
        s.stands p .drvHot || d == .drvHot,
        s.stands p .camLost && (x.state == .releasing || x.state == .tracking || x.state == .returning),
        x.state == .tracking && x.faultDue, false⟩ ∧
      t.channel p = { s.channel p with commanded := 0 } ∧ t.stands p .faulted = true ∧ t.stands p .releaseHeld = false ∧
      (x.state = .tracking → (t.phaser p).overBand = none ∧ t.stands p .trackErr = false) ∧
      (s.driven p → (t.loop p).atRest) ∧ (¬ s.driven p → t.loop p = s.loop p))

/-! ### The Loop Unit -/

/-- A control step: the eight stages on the oldest delivered measurement, each with its own formula, the duty commanded, and
the loop record written; TRACK_ERR is declared before where its time has been found reached. Where the fault time has been
found reached, the phaser is FAULTED and no step is taken (R141). A delivery outside TRACKING or toward PARK causes no step and
is only consumed. MODEL'S CHOICE, log 2: with nothing delivered the event changes nothing. MODEL'S CHOICE, logs 16 and 37: the
slew of the step is `stepSlew`, of which O40 speaks. MODEL'S CHOICE, log 39: the track band is the one that stands at the step.
MODEL'S CHOICE, log 42: TRACKING toward PARK arises in no run, since the Sequencer's move is taken with the recompute. `E` is the elapsed time. -/
def Obligations.ControlStepComputesTheDuty : Prop :=
  (∀ (p : Phaser) (phase target : Int) (rest : List Int) (s : State),
    (s.phaser p).state = .tracking → (s.phaser p).faultDue = false → (s.resolver p).record.target = .au target →
    (s.loop p).delivered = phase :: rest →
    ∃ (t : State) (r err pterm inc i sum : Int) (u : Nat) (sat : Sat),
    let l := s.loop p
    let q := l.params
    let E := elapsed l.stepAge l.lastStep s.counter
    let v := if s.ps.cond.fresh then min 18000 (max 8000 s.ps.cond.battery) else 13500
    exec (.controlStep p) s = .next t ∧ SeqLocal p s t ∧
    r = rampStep l.ramp target (stepSlew (s.resolver p) s.rt.slots) E ∧
    err = max (-32768) (min 32767 (r - phase)) ∧
    pterm = max (-10000) (min 10000 ((2 * (q.kp * err) + 256) / 512)) ∧
    inc = (2 * (q.ki * err * (min 64 (E / 250) : Nat)) + 64) / 128 ∧
    i = (if (q.dmax ≤ q.nd + pterm + (2 * l.integrator + 256) / 512 ∧ 0 < err) ∨
            (q.nd + pterm + (2 * l.integrator + 256) / 512 ≤ q.dmin ∧ err < 0) then l.integrator
         else clampInt (-(q.ilim * 256)) (q.ilim * 256) (l.integrator + inc)) ∧
    sum = q.nd + pterm + (2 * i + 256) / 512 ∧
    (u, sat) = (if q.dmax ≤ sum then (q.dmax, .upper) else if sum ≤ q.dmin then (q.dmin, .lower)
      else (sum.toNat, .none)) ∧
    t.loop p = ⟨r, i, some s.counter, some 0, u, sat, rest, q⟩ ∧
    t.channel p = { s.channel p with commanded := min 10000 ((2 * (u * 13500) + v) / (2 * v)) } ∧
    (t.phaser p).state = .tracking ∧
    (s.ps.params.trackBand < (r - phase).natAbs →
      (t.phaser p).overBand = some ((s.phaser p).overBand.getD 0) ∧
      ((s.phaser p).trackDue = false → t.cm = s.cm) ∧
      ((s.phaser p).trackDue = true → t.stands p .trackErr = true)) ∧
    ((r - phase).natAbs ≤ s.ps.params.trackBand → (t.phaser p).overBand = none ∧ t.stands p .trackErr = false)) ∧
  (∀ (p : Phaser) (s : State),
    ((s.loop p).delivered = [] → exec (.controlStep p) s = .next s) ∧
    ((s.loop p).delivered ≠ [] → (s.phaser p).state = .tracking → (s.phaser p).faultDue = true → ∃ t : State,
      exec (.controlStep p) s = .next t ∧ SeqLocal p s t ∧ (t.phaser p).state = .faulted ∧
      (t.phaser p).causes.trackErr = true ∧ (t.channel p).commanded = 0 ∧
      t.loop p = { s.loop p with integrator := 0, lastStep := none, stepAge := none, delivered := [] }) ∧
    (∀ phase rest, (s.loop p).delivered = phase :: rest →
      ((s.phaser p).state ≠ .tracking →
        exec (.controlStep p) s = .next (s.setLoop p { s.loop p with delivered := rest })) ∧
      ((s.phaser p).state = .tracking → (s.resolver p).record.target = .park → (s.phaser p).faultDue = false →
        let u := if (s.phaser p).trackDue then
            (s.setPhaser p { s.phaser p with trackDue := false }).drive p .trackErr true
          else s
        exec (.controlStep p) s = .next (u.setLoop p { s.loop p with delivered := rest }))))

/-- R133: the elapsed time in µs, by the step age. -/
def Obligations.ElapsedTimeIsCappedByAgeAndByTicks : Prop :=
  (∀ last now, elapsed (some 17) last now = 16000) ∧
  (∀ age t0 now, age ≤ 16 → elapsed (some age) (some t0) now = min 16000 ((now - t0).toNat / 8)) ∧
  ∀ (l : Loop) (target : Int) (slew battery : Nat) (now : Tick) (phase : Int),
    (loopStep l target slew battery now phase).1.lastStep = some now ∧
    (loopStep l target slew battery now phase).1.stepAge = some 0

/-- R134: the ramp moves toward the target by at most one step length and never passes it. The slew of a step: 0 under HOLD;
under SETPOINT that of the active content of the record that the winner handle names, as the table stands at the step (R60;
MODEL'S CHOICE, log 37, between an apply that changes that content and its recompute). MODEL'S CHOICE, log 16: where the handle
names no record with active content any more, that of the last recompute. -/
def Obligations.RampMovesTowardTheTarget : Prop :=
  ∀ (r target : Int) (slew E : Nat),
    (slew = 0 → rampStep r target slew E = target) ∧
    (0 < slew → let L : Int := max 1 ((slew * E / 1000 : Nat) : Int)
      (|target - r| ≤ L → rampStep r target slew E = target) ∧
      (L < target - r → rampStep r target slew E = r + L) ∧
      (L < r - target → rampStep r target slew E = r - L)) ∧
    min r target ≤ rampStep r target slew E ∧ rampStep r target slew E ≤ max r target ∧
    (∀ lo hi : Int, lo ≤ r → r ≤ hi → lo ≤ target → target ≤ hi →
      lo ≤ rampStep r target slew E ∧ rampStep r target slew E ≤ hi) ∧
    (0 < slew → r ≠ target → |target - rampStep r target slew E| < |target - r|) ∧
    ∀ (x : Resolver) (t : Slots),
      (∀ v c, x.record.disposition = .hold v c → stepSlew x t = 0) ∧
      (∀ (i : Fin 24) q tgt n park ka, (t.get i).record = some q → q.life.active = some (.setpoint tgt n park ka) →
        x.record.disposition = .setpoint ⟨BitVec.ofNat 5 i.val, (t.get i).gen⟩ → stepSlew x t = n) ∧
      (∀ h, x.record.disposition = .setpoint h →
        (∀ (i : Fin 24) q, (t.get i).record = some q → q.life.active ≠ none →
          h ≠ ⟨BitVec.ofNat 5 i.val, (t.get i).gen⟩) → stepSlew x t = x.winnerSlew)

/-! ### The Valve Drivers -/

/-- A period start at its tick takes its duty, DRV_HOT following the thermal hold first (MODEL'S CHOICE, log 24); the period
begins at that tick. The end of the on-time, at its tick, switches the output off. MODEL'S CHOICE, log 2: a period start within
a period and an end of the on-time without cause change nothing. MODEL'S CHOICE, log 21: either event has no effect before its
tick, and a period start taken late begins the period at its scheduled tick. -/
def Obligations.PeriodStartTakesTheDuty : Prop :=
  ∀ (p : Phaser) (s : State), let c := s.channel p
    let L := (2 * 8000000 + s.vd.frequency) / (2 * s.vd.frequency)
    let held := c.hold || s.stands p .drvShort || s.stands p .drvOpen || (c.suspended && s.stands p .drvHot)
    let duty := if held then 0 else c.commanded
    let on := (2 * (duty * L) + 10000) / 20000
    let due := c.running = false ∧ (s.counter - c.start).toNat < 8388608
    let off := (2 * (c.active * c.length) + 10000) / 20000
    let offDue := c.running = true ∧ c.on = true ∧ off < c.length ∧ off ≤ (s.counter - c.start).toNat
    (¬ due → exec (.periodStart p) s = .next s) ∧
    (due → ∃ t : State, exec (.periodStart p) s = .next t ∧ SeqLocal p s t ∧
      (t.channel p).running = true ∧ (t.channel p).start = c.start ∧ (t.channel p).length = L ∧
      (t.channel p).active = duty ∧ (t.channel p).commanded = c.commanded ∧ (t.channel p).ocPeriod = false ∧
      ((t.channel p).on = true ↔ 0 < on) ∧ (t.channel p).ocCount = c.ocCount ∧
      (c.suspended = false → t.stands p .drvHot = c.hold) ∧
      (c.suspended = true → t.stands p .drvHot = s.stands p .drvHot) ∧
      (c.suspended = false → c.hold = true → s.stands p .drvHot = false → (t.phaser p).declared.drvHot = true)) ∧
    (offDue → exec (.endOfOnTime p) s = .next (s.setChannel p { c with on := false, offAt := off })) ∧
    (¬ offDue → exec (.endOfOnTime p) s = .next s)

/-- A period end at its tick: the next period begins where this one ends, without pause. While the diagnostics are ACTIVE: the
overcurrent count and DRV_SHORT, the open-load check, its counts and DRV_OPEN. A declaration is owed to the Sequencer (R158).
`offSince` is the place since which the output has been OFF (DEDUCED, log 31: an output still ON has its scheduled place
applied). MODEL'S CHOICE, logs 2 and 21: with no period running, or before the period's length has passed, the event changes
nothing. `senses` is the model's own count of period ends (log 22). -/
def Obligations.PeriodEndJudgesTheDiagnostics : Prop :=
  ∀ (p : Phaser) (seen : Bool) (s : State), let c := s.channel p
    let onFor := (2 * (c.active * c.length) + 10000) / 20000
    let offSince := if c.on then (if onFor < c.length then onFor else c.length) else c.offAt
    let checked := offSince + 800 ≤ c.length
    let due := c.running = true ∧ c.length ≤ (s.counter - c.start).toNat
    (¬ due → exec (.periodEnd p seen) s = .next s) ∧
    (due → ∃ t : State, exec (.periodEnd p seen) s = .next t ∧ SeqLocal p s t ∧
      (t.channel p).running = false ∧ (t.channel p).start = c.start + BitVec.ofNat 24 c.length ∧
      t.vd.senses = s.vd.senses + 1 ∧
      (t.channel p).commanded = c.commanded ∧ (t.channel p).active = c.active ∧
      (t.phaser p).state = (s.phaser p).state ∧
      (c.suspended = true → t.cm = s.cm ∧ (t.channel p).ocCount = c.ocCount ∧ (t.channel p).openFail = c.openFail ∧
        (t.channel p).openPass = c.openPass) ∧
      (c.suspended = false →
        (c.ocPeriod = true → c.ocCount < 2 → (t.channel p).ocCount = c.ocCount + 1 ∧
          t.stands p .drvShort = s.stands p .drvShort) ∧
        (c.ocPeriod = true → c.ocCount = 2 → (t.channel p).ocCount = 0 ∧ t.stands p .drvShort = true ∧
          (s.stands p .drvShort = false → (t.phaser p).declared.drvShort = true ∧ (t.channel p).on = false)) ∧
        (c.ocPeriod = false → c.ocCount ≤ 2 → (t.channel p).ocCount = (if c.conducted then 0 else c.ocCount) ∧
          t.stands p .drvShort = s.stands p .drvShort) ∧
        (¬ checked → (t.channel p).openFail = c.openFail ∧ (t.channel p).openPass = c.openPass ∧
          t.stands p .drvOpen = s.stands p .drvOpen) ∧
        (checked → seen = true → (t.channel p).openFail = 0 ∧ (t.channel p).openPass = min 4 (c.openPass + 1) ∧
          t.stands p .drvOpen = (s.stands p .drvOpen && decide (c.openPass + 1 < 4))) ∧
        (checked → seen = false → (t.channel p).openPass = 0 ∧ (t.channel p).openFail = min 4 (c.openFail + 1) ∧
          t.stands p .drvOpen = (s.stands p .drvOpen || decide (4 ≤ c.openFail + 1)) ∧
          (s.stands p .drvOpen = false → 3 ≤ c.openFail →
            (t.phaser p).declared.drvOpen = true ∧ (t.channel p).on = false))))

/-- An overcurrent switches the output off and marks the period; it is detected only while the output is ON. An output that a
full duty has kept ON past the period end is in the next period already, so the period start, due since, is taken first, and
the overcurrent is detected where the output is ON in that period (DEDUCED, log 31). The place of the cut is read from the
capture counter (MODEL'S CHOICE, log 21: the event is taken at the counter's present tick), at the latest the end of the scheduled
on-time, which no cut lengthens (R151, R155). The thermal hold, set, switches the
output off and DRV_HOT is declared and owed to the Sequencer; cleared, DRV_HOT is cleared; while the diagnostics are SUSPENDED,
DRV_HOT is left. MODEL'S CHOICE, log 2: an overcurrent while the output is OFF changes nothing. MODEL'S CHOICE, log 40: an event
of the thermal hold brings DRV_HOT to the hold at once also where the hold stood so already. -/
def Obligations.OvercurrentAndThermalHoldSwitchTheOutputOff : Prop :=
  (∀ (p : Phaser) (s : State), let c := s.channel p
    let place : Channel → Nat := fun x =>
      min (min x.length (s.counter - x.start).toNat) ((2 * (x.active * x.length) + 10000) / 20000)
    (c.running = true → c.on = true → exec (.overcurrent p) s = .next (s.setChannel p
      { c with on := false, offAt := place c, ocPeriod := true })) ∧
    (c.running = false → c.on = true → (s.counter - c.start).toNat < 8388608 → ∃ t : State,
      exec (.overcurrent p) s = .next t ∧ SeqLocal p s t ∧ (t.channel p).on = false ∧ (t.channel p).running = true ∧
      (t.channel p).start = c.start ∧ ∃ u : State, exec (.periodStart p) s = .next u ∧
        let v := u.channel p
        (v.on = false → t = u) ∧
        (v.on = true → t = u.setChannel p { v with on := false, offAt := place v, ocPeriod := true })) ∧
    (c.on = false → exec (.overcurrent p) s = .next s)) ∧
  (∀ (p : Phaser) (s : State), let c := s.channel p
    let place := min (min c.length (s.counter - c.start).toNat) ((2 * (c.active * c.length) + 10000) / 20000)
    (∃ t : State, exec (.thermalHoldSet p) s = .next t ∧ SeqLocal p s t ∧ (t.channel p).hold = true ∧
      (t.channel p).on = false ∧ (t.channel p).offAt = (if c.on then place else c.offAt) ∧
      (t.channel p).active = c.active ∧ (t.channel p).commanded = c.commanded ∧
      (t.phaser p).state = (s.phaser p).state ∧
      (c.suspended = false → t.stands p .drvHot = true ∧
        (s.stands p .drvHot = false → (t.phaser p).declared.drvHot = true)) ∧
      (c.suspended = true → t.cm = s.cm ∧ t.ps = s.ps)) ∧
    (∃ t : State, exec (.thermalHoldClear p) s = .next t ∧ t.ps = s.ps ∧ t.lu = s.lu ∧
      t.channel p = { c with hold := false } ∧
      (c.suspended = false → t.stands p .drvHot = false) ∧ (c.suspended = true → t.cm = s.cm) ∧
      ∀ q, q ≠ p → t.channel q = s.channel q ∧ t.phGroup q = s.phGroup q))

/-! ### The Condition Monitor -/

/-- READ_EVENTS captures the response, byte by byte as 10.8 lays it out, then deletes every latch record of the group.
SET_EVENT_ENABLES stores the enables and answers them; the latch records are not touched. What each refuses. `level` and `pure`
are the two bytes of an event, `tail` the last five bytes of either payload. MODEL'S CHOICE, log 41: the first-transition byte of a
level condition that is not latched is 0. MODEL'S CHOICE, log 47: a bit of the readout that 10.8 gives no meaning is 0. -/
def Obligations.EventsAreReadAndEnabled : Prop :=
  let level : Cond → List Byte := fun c => match c.latch with
    | none => [0#8, 0#8]
    | some l => [BitVec.ofNat 8 l.count, if l.firstDeclared then 0#8 else 1#8]
  let pure : Option Nat → List Byte := fun n => match n with
    | none => [0#8, 0#8]
    | some n => [BitVec.ofNat 8 n, 0#8]
  let flag : Bool → Byte := fun b => if b then 1#8 else 0#8
  let tail : State → Half → Bool → List Byte → Prop := fun s enables on a =>
    a.take 3 = [hiByte enables, loByte enables, flag on] ∧ a.length = 5 ∧
    (∀ p : Phaser, (a.getD 3 0#8).getLsbD p.index = (s.phGroup p).summary ∧
      (a.getD 4 0#8).getLsbD p.index = (s.phGroup p).groupEnable) ∧
    (a.getD 3 0#8).getLsbD 4 = s.cm.dev.summary ∧ (a.getD 4 0#8).getLsbD 4 = s.cm.dev.groupEnable ∧
    (a.getD 3 0#8).toNat < 32 ∧ (a.getD 4 0#8).toNat < 32
  (∀ (snd : Sender) (s : State),
    (∀ b : Byte, 5 ≤ b.toNat → taken (.readEvents snd b) snd s →
      exec (.readEvents snd b) s = .next (s.respond .readEvents snd ⟨.badField, []⟩)) ∧
    (∀ p : Phaser, let b := BitVec.ofNat 8 p.index
      let g := s.phGroup p
      let c := g.conds
      taken (.readEvents snd b) snd s → ∃ (t : State) (payload : List Byte),
        exec (.readEvents snd b) s = .next (t.respond .readEvents snd ⟨.ok, payload⟩) ∧ payload.length = 30 ∧
        (∀ e, ((t.phGroup p).conds.get e).latch = none ∧ t.stands p e = s.stands p e) ∧
        (t.phGroup p).expired = none ∧ (t.phGroup p).overrun = none ∧ (t.phGroup p).reject = none ∧
        (t.phGroup p).enables = g.enables ∧ (t.phGroup p).groupEnable = g.groupEnable ∧
        (t.phGroup p).summary = false ∧ t = s.setPhGroup p (t.phGroup p) ∧
        (∀ e k, (e, k) ∈ [(PhCond.camLost, 0), (.trackErr, 1), (.releaseHeld, 2), (.limited, 3), (.faulted, 4),
            (.drvOpen, 5), (.drvShort, 6), (.drvHot, 7)] →
          (payload.getD 0 0#8).getLsbD k = s.stands p e ∧ (payload.drop (1 + 2 * k)).take 2 = level (c.get e)) ∧
        (payload.drop 17).take 6 = pure (g.expired.map fun l => l.count) ++ pure (g.overrun.map fun l => l.count) ++
          pure (g.reject.map fun l => l.count) ∧
        (g.expired = none → (payload.drop 23).take 2 = [0#8, 0#8]) ∧
        (∀ l, g.expired = some l →
          (payload.drop 23).take 2 = [l.value.slot.setWidth 8, l.value.gen.setWidth 8]) ∧
        tail s g.enables g.groupEnable (payload.drop 25)) ∧
    (let d := s.cm.dev
     taken (.readEvents snd 4#8) snd s → ∃ (t : State) (payload : List Byte),
        exec (.readEvents snd 4#8) s = .next (t.respond .readEvents snd ⟨.ok, payload⟩) ∧ payload.length = 20 ∧
        t = s.setDev ⟨⟨d.cycleSync.declared, none⟩, ⟨d.engineStopped.declared, none⟩,
          ⟨d.condStale.declared, none⟩, none, none, none, d.enables, d.groupEnable⟩ ∧
        t.cm.dev.summary = false ∧
        (payload.getD 0 0#8).toNat < 8 ∧ (payload.getD 0 0#8).getLsbD 0 = d.cycleSync.declared ∧
        (payload.getD 0 0#8).getLsbD 1 = d.engineStopped.declared ∧
        (payload.getD 0 0#8).getLsbD 2 = d.condStale.declared ∧
        (payload.drop 1).take 12 = level d.cycleSync ++ level d.engineStopped ++ level d.condStale ++
          pure (d.syncDoubt.map fun l => l.count) ++ pure (d.resetOccurred.map fun l => l.count) ++
          pure (d.frameError.map fun l => l.count) ∧
        payload.getD 13 0#8 = (match d.resetOccurred with
          | some ⟨_, .pin⟩ => 1#8
          | some ⟨_, .soft⟩ => 2#8
          | _ => 0#8) ∧
        (d.frameError = none → payload.getD 14 0#8 = 0#8) ∧
        (∀ l, d.frameError = some l →
          (l.value = .badFrame → payload.getD 14 0#8 = 0x80#8) ∧
          (l.value = .unknownCommand → payload.getD 14 0#8 = 0x81#8)) ∧
        tail s d.enables d.groupEnable (payload.drop 15))) ∧
  (∀ (snd : Sender) (b : Byte) (e : Half) (ge : Byte) (s : State), taken (.setEventEnables snd b e ge) snd s →
    (5 ≤ b.toNat ∨ 2 ≤ ge.toNat ∨ (b.toNat ≤ 3 ∧ 2048 ≤ e.toNat) ∨ (b.toNat = 4 ∧ 64 ≤ e.toNat) →
      exec (.setEventEnables snd b e ge) s = .next (s.respond .setEventEnables snd ⟨.badField, []⟩)) ∧
    (∀ p : Phaser, b.toNat = p.index → ge.toNat ≤ 1 → e.toNat < 2048 →
      exec (.setEventEnables snd b e ge) s = .next
        ((s.setPhGroup p { s.phGroup p with enables := e, groupEnable := ge == 1#8 }).respond .setEventEnables snd
          ⟨.ok, [hiByte e, loByte e, ge]⟩)) ∧
    (b.toNat = 4 → ge.toNat ≤ 1 → e.toNat < 64 →
      exec (.setEventEnables snd b e ge) s = .next
        ((s.setDev { s.cm.dev with enables := e, groupEnable := ge == 1#8 }).respond .setEventEnables snd
          ⟨.ok, [hiByte e, loByte e, ge]⟩)))

/-- A group's summary is set exactly while one of its latched events has its enable on; ATTN is asserted exactly when some
latched event has both its event enable and its group enable on. `ph g k` and `dev d k`: the event whose enable 10.8 places at
bit k is latched. -/
def Obligations.AttnFollowsLatchedEnabledEvents : Prop :=
  let ph : PhGroup → Nat → Prop := fun g k =>
    (∃ e, (e, k) ∈ [(PhCond.camLost, 0), (.trackErr, 1), (.releaseHeld, 2), (.limited, 3), (.faulted, 4), (.drvOpen, 5),
      (.drvShort, 6), (.drvHot, 7)] ∧ (g.conds.get e).latch ≠ none) ∨
    (k = 8 ∧ g.expired ≠ none) ∨ (k = 9 ∧ g.overrun ≠ none) ∨ (k = 10 ∧ g.reject ≠ none)
  let dev : DevGroup → Nat → Prop := fun d k =>
    (k = 0 ∧ d.cycleSync.latch ≠ none) ∨ (k = 1 ∧ d.engineStopped.latch ≠ none) ∨
    (k = 2 ∧ d.condStale.latch ≠ none) ∨ (k = 3 ∧ d.syncDoubt ≠ none) ∨ (k = 4 ∧ d.resetOccurred ≠ none) ∨
    (k = 5 ∧ d.frameError ≠ none)
  (∀ g : PhGroup, g.summary = true ↔ ∃ k : Nat, ph g k ∧ g.enables.getLsbD k = true) ∧
  (∀ d : DevGroup, d.summary = true ↔ ∃ k : Nat, dev d k ∧ d.enables.getLsbD k = true) ∧
  ∀ s : State, s.attn = true ↔
    (∃ (p : Phaser) (k : Nat), (s.phGroup p).groupEnable = true ∧ (s.phGroup p).enables.getLsbD k = true ∧
      ph (s.phGroup p) k) ∨
    (∃ k : Nat, s.cm.dev.groupEnable = true ∧ s.cm.dev.enables.getLsbD k = true ∧ dev s.cm.dev k)

/-! ### Parameters -/

/-- The identifiers are those of 10.8 and name the parameters one to one; GET_PARAM answers a listed one with its stored value;
GET_PARAM and SET_PARAM refuse an unlisted one; SET_PARAM clamps, stores and answers each parameter without a row of its own.
-/
def Obligations.ParametersAreNamedReadAndClamped : Prop :=
  ((∀ q r : Param, q.ident = r.ident → q = r) ∧
  (∀ q n, (q, n) ∈ [(Param.applyMode .front, 0x01#8), (.markAngle .front, 0x02#8), (.applyMode .rear, 0x03#8),
      (.markAngle .rear, 0x04#8), (.crank .teeth, 0x20#8), (.crank .missing, 0x21#8), (.crank .polarity, 0x22#8),
      (.syncCam, 0x23#8), (.stopTime, 0x24#8), (.firingOffset, 0x25#8), (.windowMargin, 0x30#8), (.camLostCount, 0x31#8),
      (.releaseDuty, 0x40#8), (.threshold .temperature, 0x41#8), (.threshold .speed, 0x42#8),
      (.threshold .hysteresis, 0x43#8), (.homeBand, 0x44#8), (.releaseInterval, 0x45#8), (.returnTimeout, 0x46#8),
      (.latchInterval, 0x47#8), (.trackBand, 0x48#8), (.time .track, 0x49#8), (.time .fault, 0x4A#8),
      (.freshnessTime, 0x4B#8), (.pwmFrequency, 0x70#8)] → q.ident = n) ∧
  (∀ (p : Phaser) q n, (q, n) ∈ [(Param.authority .lower p, 0x10), (.authority .upper p, 0x14), (.toothList p, 0x28),
      (.camPolarity p, 0x2C), (.kp p, 0x50), (.ki p, 0x54), (.ilim p, 0x58), (.nd p, 0x5C), (.dutyLimit .lower p, 0x60),
      (.dutyLimit .upper p, 0x64)] → q.ident = BitVec.ofNat 8 (n + p.index)) ∧
  ∀ (snd : Sender) (s : State),
    (∀ q : Param, taken (.getParam snd q.ident) snd s →
      exec (.getParam snd q.ident) s = .next (s.respond .getParam snd ⟨.ok, q.ident :: (readParam q s).bytes⟩)) ∧
    (∀ (b : Byte) (v : ValueField), (∀ q : Param, q.ident ≠ b) →
      (taken (.getParam snd b) snd s → exec (.getParam snd b) s = .next (s.respond .getParam snd ⟨.badField, []⟩)) ∧
      (taken (.setParam snd b v) snd s → exec (.setParam snd b v) s = .next (s.respond .setParam snd ⟨.badField, []⟩)))) ∧
  (∀ (snd : Sender) (v : ValueField) (s : State), let n := v.half.toNat
    let d := s.ad
    let q := s.ps.params
    let done : Param → Nat → State → Prop := fun r x t => taken (.setParam snd r.ident v) snd s →
      exec (.setParam snd r.ident v) s =
        .next (t.respond .setParam snd ⟨.ok, r.ident :: (ValueField.ofHalf (BitVec.ofNat 16 x)).bytes⟩)
    done .stopTime (max 50 (min 1000 n)) (s.setDecoder { d with stopTime := max 50 (min 1000 n) }) ∧
    done .firingOffset (min 11519 n) (s.setDecoder { d with firingOffset := min 11519 n }) ∧
    done .homeBand (max 4 (min 160 n)) (s.setSeqParams { q with homeBand := max 4 (min 160 n) }) ∧
    done .releaseInterval (max 20 (min 500 n)) (s.setSeqParams { q with releaseInterval := max 20 (min 500 n) }) ∧
    done .returnTimeout (max 50 (min 2000 n)) (s.setSeqParams { q with returnTimeout := max 50 (min 2000 n) }) ∧
    done .latchInterval (max 10 (min 200 n)) (s.setSeqParams { q with latchInterval := max 10 (min 200 n) }) ∧
    done .trackBand (max 16 (min 960 n)) (s.setSeqParams { q with trackBand := max 16 (min 960 n) }) ∧
    done .freshnessTime (max 50 (min 1000 n)) (s.setSeqParams { q with freshnessTime := max 50 (min 1000 n) }) ∧
    ∀ p : Phaser, let l := (s.loop p).params
      done (.kp p) (min 2047 n) (s.setLoopParams p { l with kp := min 2047 n }) ∧
      done (.ki p) (min 255 n) (s.setLoopParams p { l with ki := min 255 n }) ∧
      done (.nd p) (max 1000 (min 9000 n)) (s.setLoopParams p { l with nd := max 1000 (min 9000 n) }))

/-- The apply configuration, and the decoder's parameters with the STOPPED check first. -/
def Obligations.ApplyAndDecoderParametersAreWritten : Prop :=
  ∀ (snd : Sender) (s : State),
    (∀ (g : Group) (v : Byte), taken (.setApplyMode snd g v) snd s →
      (v.toNat ≤ 1 → exec (.setApplyMode snd g v) s = .next
        ((s.setConfig g { s.config g with mode := if v = 1#8 then .mark else .software }).respond .setParam snd
          ⟨.ok, (Param.applyMode g).ident :: (ValueField.ofByte v).bytes⟩)) ∧
      (2 ≤ v.toNat → exec (.setApplyMode snd g v) s = .next (s.respond .setParam snd ⟨.badValue, []⟩))) ∧
    (∀ (g : Group) (v : Half), taken (.setMarkAngle snd g v) snd s →
      exec (.setMarkAngle snd g v) s = .next
        ((s.setConfig g { s.config g with mark := min 11519 v.toNat }).respond .setParam snd
          ⟨.ok, (Param.markAngle g).ident :: (ValueField.ofHalf (BitVec.ofNat 16 (min 11519 v.toNat))).bytes⟩)) ∧
    (∀ (w : CrankParam) (v : Byte), taken (.setCrankGeometry snd w v) snd s →
      (s.ad.sync ≠ .stopped →
        exec (.setCrankGeometry snd w v) s = .next (s.respond .setParam snd ⟨.notStopped, []⟩)) ∧
      (s.ad.sync = .stopped →
        let listed := match w with
          | .teeth => v.toNat ∈ [12, 18, 24, 36, 48, 60]
          | .missing => v.toNat ∈ [1, 2]
          | .polarity => v.toNat ∈ [0, 1]
        let d := match w with
          | .teeth => { s.ad with teeth := v.toNat }
          | .missing => { s.ad with missing := v.toNat }
          | .polarity => { s.ad with crankRises := v == 1#8 }
        (listed → exec (.setCrankGeometry snd w v) s = .next ((s.setDecoder d).respond .setParam snd
          ⟨.ok, (Param.crank w).ident :: (ValueField.ofByte v).bytes⟩)) ∧
        (¬ listed → exec (.setCrankGeometry snd w v) s = .next (s.respond .setParam snd ⟨.badValue, []⟩)))) ∧
    (∀ v : Byte, taken (.setSyncCam snd v) snd s →
      (s.ad.sync ≠ .stopped → exec (.setSyncCam snd v) s = .next (s.respond .setParam snd ⟨.notStopped, []⟩)) ∧
      (s.ad.sync = .stopped →
        (4 ≤ v.toNat → exec (.setSyncCam snd v) s = .next (s.respond .setParam snd ⟨.badValue, []⟩)) ∧
        ∀ c : Phaser, v.toNat = c.index →
          let n1 := ((s.cam c).teeth.filter fun a => decide (a < 5760)).length
          let n2 := ((s.cam c).teeth.filter fun a => decide (5760 ≤ a)).length
          (n1 ≠ n2 → exec (.setSyncCam snd v) s = .next ((s.setDecoder { s.ad with syncCam := c }).respond .setParam
            snd ⟨.ok, 0x23#8 :: (ValueField.ofByte v).bytes⟩)) ∧
          (n1 = n2 → exec (.setSyncCam snd v) s = .next (s.respond .setParam snd ⟨.badValue, []⟩))))

/-- Edge Capture's parameters: the tooth list's four checks in order, the polarity, the window margin, the cam-lost count. -/
def Obligations.CaptureParametersAreChecked : Prop :=
  ∀ (snd : Sender) (s : State),
    (∀ (c : Phaser) (n : Byte) (a : AngleField), taken (.setToothList snd c n a) snd s →
      let e := Instr.setToothList snd c n a
      let teeth := [a.a0.toNat, a.a1.toNat, a.a2.toNat, a.a3.toNat].take n.toNat
      let W := (s.resolver c).amax - (s.resolver c).amin + 2 * s.ec.margin
      let apart := teeth.Pairwise fun x y => W < ((x : Int) - y) % 11520 ∧ W < ((y : Int) - x) % 11520
      let halves := (teeth.filter fun x => decide (x < 5760)).length ≠ (teeth.filter fun x => decide (5760 ≤ x)).length
      let counted := 1 ≤ n.toNat ∧ n.toNat ≤ 4 ∧ ∀ x ∈ teeth, x ≤ 11519
      (s.ad.sync ≠ .stopped → exec e s = .next (s.respond .setParam snd ⟨.notStopped, []⟩)) ∧
      (s.ad.sync = .stopped →
        (¬ counted ∨ ¬ apart ∨ (c = s.ad.syncCam ∧ ¬ halves) →
          exec e s = .next (s.respond .setParam snd ⟨.badValue, []⟩)) ∧
        (counted → apart → (c = s.ad.syncCam → halves) → ∃ marks : List Bool, marks.length = teeth.length ∧
          exec e s = .next ((s.setCam c { s.cam c with teeth := teeth, marks := marks }).respond .setParam snd
            ⟨.ok, (Param.toothList c).ident :: (ValueField.ofList n
              ⟨if 1 ≤ n.toNat then a.a0 else 0#16, if 2 ≤ n.toNat then a.a1 else 0#16,
               if 3 ≤ n.toNat then a.a2 else 0#16, if 4 ≤ n.toNat then a.a3 else 0#16⟩).bytes⟩)))) ∧
    (∀ (c : Phaser) (v : Byte), taken (.setCamPolarity snd c v) snd s →
      (s.ad.sync ≠ .stopped → exec (.setCamPolarity snd c v) s = .next (s.respond .setParam snd ⟨.notStopped, []⟩)) ∧
      (s.ad.sync = .stopped → 2 ≤ v.toNat →
        exec (.setCamPolarity snd c v) s = .next (s.respond .setParam snd ⟨.badValue, []⟩)) ∧
      (s.ad.sync = .stopped → v.toNat ≤ 1 → exec (.setCamPolarity snd c v) s = .next
        ((s.setCam c { s.cam c with rises := v == 1#8 }).respond .setParam snd
          ⟨.ok, (Param.camPolarity c).ident :: (ValueField.ofByte v).bytes⟩))) ∧
    (∀ v : Half, taken (.setWindowMargin snd v) snd s →
      let m := min 480 v.toNat
      let passes := ∀ c : Phaser, (s.cam c).teeth.Pairwise fun x y =>
        (s.resolver c).amax - (s.resolver c).amin + 2 * m < ((x : Int) - y) % 11520 ∧
        (s.resolver c).amax - (s.resolver c).amin + 2 * m < ((y : Int) - x) % 11520
      (passes → exec (.setWindowMargin snd v) s = .next ({ s with ec := { s.ec with margin := m } }.respond .setParam snd
        ⟨.ok, 0x30#8 :: (ValueField.ofHalf (BitVec.ofNat 16 m)).bytes⟩)) ∧
      (¬ passes → exec (.setWindowMargin snd v) s = .next (s.respond .setParam snd ⟨.badValue, []⟩))) ∧
    (∀ v : Half, taken (.setCamLostCount snd v) snd s →
      exec (.setCamLostCount snd v) s = .next
        ({ s with ec := { s.ec with lostCount := max 2 (min 8 v.toNat) } }.respond .setParam snd
          ⟨.ok, 0x31#8 :: (ValueField.ofHalf (BitVec.ofNat 16 (max 2 (min 8 v.toNat)))).bytes⟩))

/-- The Sequencer's and the Loop Unit's parameters with a row of their own, and the PWM frequency. A write of a release
threshold is an evaluation of permission and withdrawal with the new value (R108 to R110). MODEL'S CHOICE, logs 9, 36 and 38,
as in O30: the clause on a driven phaser leaves out one whose fault time has been found reached, the cause list is empty while
RELEASE_HELD is clear, and it can be empty outside CYCLE_SYNC before the handling of the departure. -/
def Obligations.SequencerLoopAndPwmParametersAreWritten : Prop :=
  (∀ (snd : Sender) (v : Half) (s : State), let q := s.ps.params
    (taken (.setReleaseDuty snd v) snd s → let d := max 3000 (min 10000 v.toNat)
      ∃ t : State, exec (.setReleaseDuty snd v) s = .next
          (t.respond .setParam snd ⟨.ok, 0x40#8 :: (ValueField.ofHalf (BitVec.ofNat 16 d)).bytes⟩) ∧
        t.ps = { s.ps with params := { q with releaseDuty := d } } ∧ t.cm = s.cm ∧ t.lu = s.lu ∧
        ∀ p, t.channel p = if (s.phaser p).state = .releasing then { s.channel p with commanded := d }
          else s.channel p) ∧
    (∀ w, taken (.setReleaseThresholds snd w v) snd s →
      let q' : SeqParams := match w with
        | .temperature => { q with releaseTemp := max (-20) (min 120 v.toInt) }
        | .speed => { q with releaseSpeed := max 500 (min 6000 v.toNat) }
        | .hysteresis => { q with hysteresis := min 1000 v.toNat }
      let value : Half := match w with
        | .temperature => BitVec.ofInt 16 (max (-20) (min 120 v.toInt))
        | .speed => BitVec.ofNat 16 (max 500 (min 6000 v.toNat))
        | .hysteresis => BitVec.ofNat 16 (min 1000 v.toNat)
      ∃ t : State, exec (.setReleaseThresholds snd w v) s = .next
          (t.respond .setParam snd ⟨.ok, (Param.threshold w).ident :: (ValueField.ofHalf value).bytes⟩) ∧
        t.ps.params = q' ∧ t.ps.cond = s.ps.cond ∧ t.rt = s.rt ∧ t.tr = s.tr ∧ t.ad = s.ad ∧ t.ec = s.ec ∧
        ∀ p, evaluated p s t) ∧
    (∀ w, taken (.setTrackFaultTime snd w v) snd s →
      let q' : SeqParams := match w with
        | .track => { q with trackTime := max 20 (min 2000 v.toNat) }
        | .fault => { q with faultTime := max 20 (min 5000 v.toNat) }
      let value : Nat := match w with
        | .track => max 20 (min 2000 v.toNat)
        | .fault => max 20 (min 5000 v.toNat)
      (q'.trackTime ≤ q'.faultTime → exec (.setTrackFaultTime snd w v) s = .next ((s.setSeqParams q').respond .setParam
        snd ⟨.ok, (Param.time w).ident :: (ValueField.ofHalf (BitVec.ofNat 16 value)).bytes⟩)) ∧
      (q'.faultTime < q'.trackTime →
        exec (.setTrackFaultTime snd w v) s = .next (s.respond .setParam snd ⟨.badValue, []⟩)))) ∧
  (∀ (snd : Sender) (v : Half) (s : State), let n := min 10000 v.toNat
    (∀ p, taken (.setIntegratorLimit snd p v) snd s → let m := min 5000 v.toNat
      exec (.setIntegratorLimit snd p v) s = .next
        ((s.setLoop p { s.loop p with
            integrator := max (-((m : Int) * 256)) (min ((m : Int) * 256) (s.loop p).integrator),
            params := { (s.loop p).params with ilim := m } }).respond .setParam snd
          ⟨.ok, (Param.ilim p).ident :: (ValueField.ofHalf (BitVec.ofNat 16 m)).bytes⟩)) ∧
    (∀ p b, taken (.setDutyLimit snd p b v) snd s → let q := (s.loop p).params
      let fits := match b with
        | .lower => n < q.dmax
        | .upper => q.dmin < n
      let q' : LoopParams := match b with
        | .lower => { q with dmin := n }
        | .upper => { q with dmax := n }
      (fits → exec (.setDutyLimit snd p b v) s = .next ((s.setLoopParams p q').respond .setParam snd
        ⟨.ok, (Param.dutyLimit b p).ident :: (ValueField.ofHalf (BitVec.ofNat 16 n)).bytes⟩)) ∧
      (¬ fits → exec (.setDutyLimit snd p b v) s = .next (s.respond .setParam snd ⟨.badValue, []⟩))) ∧
    (taken (.setPwmFrequency snd v) snd s →
      let f := (max 100 (min 1000 v.toNat) + 5) / 10 * 10
      exec (.setPwmFrequency snd v) s = .next ({ s with vd := { s.vd with frequency := f } }.respond .setParam snd
        ⟨.ok, 0x70#8 :: (ValueField.ofHalf (BitVec.ofNat 16 f)).bytes⟩)))

/-- A write of an authority window bound: clamp of the bound, sign check, spacing check; then the bound stored, the ramp
target clamped and the phaser recomputed, in one event: `u` is the state with the bound stored and the ramp target clamped, and the
state after the write is the one that a recompute of O19 and O20 gives from it. The clause on the ramp target after the write leaves
out RETURNING, from which the recompute can lead into TRACKING, whose entry sets it. MODEL'S CHOICE, logs 35, 38 and 42: as in O19. -/
def Obligations.AuthorityWindowIsCheckedStoredAndRecomputed : Prop :=
  ∀ (snd : Sender) (p : Phaser) (b : Bound) (v : Half) (s : State), taken (.setAuthorityWindow snd p b v) snd s →
    let x := s.resolver p
    let w : Int := match b with
      | .lower => max (-5760) v.toInt
      | .upper => min 5759 v.toInt
    let lo : Int := match b with
      | .lower => w
      | .upper => x.amin
    let hi : Int := match b with
      | .lower => x.amax
      | .upper => w
    let signed := match b with
      | .lower => w < 0
      | .upper => 0 < w
    let apart := (s.cam p).teeth.Pairwise fun y z =>
      hi - lo + 2 * s.ec.margin < ((y : Int) - z) % 11520 ∧ hi - lo + 2 * s.ec.margin < ((z : Int) - y) % 11520
    (¬ (signed ∧ apart) → exec (.setAuthorityWindow snd p b v) s = .next (s.respond .setParam snd ⟨.badValue, []⟩)) ∧
    (signed → apart → ∃ t : State,
      let r := (s.loop p).ramp
      let bounded := { x with amin := lo, amax := hi }
      let u := (s.setResolver p bounded).setLoop p { s.loop p with ramp := if r < lo then lo else if hi < r then hi else r }
      exec (.setAuthorityWindow snd p b v) s = .next (t.respond .setParam snd
        ⟨.ok, (Param.authority b p).ident :: (ValueField.ofHalf (BitVec.ofInt 16 w)).bytes⟩) ∧
      (∀ who, exec (.recompute p) (u.setResolver p { bounded with asked := who :: x.asked }) = .next t) ∧
      targetTaken p u t ∧
      (t.resolver p).amin = lo ∧ (t.resolver p).amax = hi ∧ (t.resolver p).notes = [] ∧
      (t.resolver p).asked = x.asked ∧ t.stands p .limited = (t.resolver p).record.limited ∧
      (x.windowOk → (t.resolver p).targetOk) ∧
      ((s.phaser p).state ≠ .returning → (t.loop p).ramp = (u.loop p).ramp ∧ (t.loop p).output = (s.loop p).output) ∧
      t.rt = s.rt ∧ t.ad = s.ad ∧ t.ec = s.ec ∧ t.fp = s.fp)

/-! ### Readouts -/

/-- READ_PHASER, RESOLVE and READ_ENGINE answer captured readouts, byte by byte as 10.8 lays them out, and change nothing.
MODEL'S CHOICE, log 8: a timer that has run out and whose expiry is not taken is shown as 1. MODEL'S CHOICE, log 47: a bit that
10.8 gives no meaning is 0. -/
def Obligations.ReadoutsShowTheStateAndChangeNothing : Prop :=
  let timer : Option Nat → List Byte := fun n => match n with
    | none => [0xFF#8, 0xFF#8]
    | some n => halfBytes (BitVec.ofNat 16 (max 1 n))
  let target : Target → List Byte := fun t => match t with
    | .au v => halfBytes (BitVec.ofInt 16 v)
    | .park => [0x80#8, 0x00#8]
  let disposition : Disposition → List Byte := fun d => match d with
    | .setpoint h => [0#8, h.slot.setWidth 8, h.gen.setWidth 8]
    | .hold _ _ => [1#8, 0xFF#8, 0xFF#8]
    | .parkDefault => [2#8, 0xFF#8, 0xFF#8]
  ∀ (snd : Sender) (s : State),
    (∀ b : Byte, 4 ≤ b.toNat →
      (taken (.readPhaser snd b) snd s → exec (.readPhaser snd b) s = .next (s.respond .readPhaser snd ⟨.badField, []⟩)) ∧
      (taken (.resolve snd b) snd s → exec (.resolve snd b) s = .next (s.respond .resolve snd ⟨.badField, []⟩))) ∧
    (∀ p : Phaser, let b := BitVec.ofNat 8 p.index
      let x := s.phaser p
      taken (.readPhaser snd b) snd s → ∃ a : List Byte,
        exec (.readPhaser snd b) s = .next (s.respond .readPhaser snd ⟨.ok, a⟩) ∧ a.length = 30 ∧
        a.getD 0 0#8 = (match x.state with
          | .stopped => 0#8
          | .parked => 1#8
          | .releasing => 2#8
          | .tracking => 3#8
          | .returning => 4#8
          | .latching => 5#8
          | .faulted => 6#8
          | .off => 7#8) ∧
        (a.drop 1).take 2 = timer x.timer ∧
        (x.overBand = none → (a.drop 3).take 2 = [0xFF#8, 0xFF#8]) ∧
        (∀ n, x.overBand = some n → (a.drop 3).take 2 = halfBytes (BitVec.ofNat 16 n)) ∧
        (a.drop 5).take 2 = target (s.resolver p).record.target ∧
        (a.drop 7).take 3 = disposition (s.resolver p).record.disposition ∧
        (a.drop 10).take 2 = halfBytes (BitVec.ofInt 16 (s.loop p).ramp) ∧
        (∀ m, (s.cam p).last = some m →
          (a.drop 12).take 4 = 1#8 :: halfBytes (BitVec.ofInt 16 m.phase) ++ [BitVec.ofNat 8 m.age]) ∧
        ((s.cam p).last = none → (a.drop 12).take 4 = [0#8, 0#8, 0#8, 0#8]) ∧
        (a.drop 16).take 4 = halfBytes (BitVec.ofInt 16 ((2 * (s.loop p).integrator + 256) / 512)) ++
          halfBytes (BitVec.ofNat 16 (s.loop p).output) ∧
        a.getD 20 0#8 = (match (s.loop p).sat with
          | .none => 0#8
          | .upper => 1#8
          | .lower => 2#8) ∧
        (a.drop 21).take 4 = halfBytes (BitVec.ofNat 16 (s.channel p).commanded) ++
          halfBytes (BitVec.ofNat 16 (s.channel p).active) ∧
        (∀ e k, (e, k) ∈ [(PhCond.camLost, 0), (.trackErr, 1), (.releaseHeld, 2), (.limited, 3), (.faulted, 4),
            (.drvOpen, 5), (.drvShort, 6), (.drvHot, 7)] → (a.getD 25 0#8).getLsbD k = s.stands p e) ∧
        ((a.getD 26 0#8).getLsbD 0 = x.held.stale ∧ (a.getD 26 0#8).getLsbD 1 = x.held.oilLow ∧
          (a.getD 26 0#8).getLsbD 2 = x.held.oilCold ∧ (a.getD 26 0#8).getLsbD 3 = x.held.speedLow ∧
          (a.getD 26 0#8).toNat < 16) ∧
        ((a.getD 27 0#8).getLsbD 0 = x.causes.drvOpen ∧ (a.getD 27 0#8).getLsbD 1 = x.causes.drvShort ∧
          (a.getD 27 0#8).getLsbD 2 = x.causes.drvHot ∧ (a.getD 27 0#8).getLsbD 3 = x.causes.camLost ∧
          (a.getD 27 0#8).getLsbD 4 = x.causes.trackErr ∧ (a.getD 27 0#8).getLsbD 5 = x.causes.latchFail ∧
          (a.getD 27 0#8).toNat < 64) ∧
        a.getD 28 0#8 = BitVec.ofNat 8 (s.cam p).rejects ∧
        a.getD 29 0#8 = (if x.enable then 1#8 else 0#8)) ∧
    (∀ p : Phaser, let b := BitVec.ofNat 8 p.index
      let r := (s.resolver p).record
      taken (.resolve snd b) snd s → ∃ a : List Byte,
        exec (.resolve snd b) s = .next (s.respond .resolve snd ⟨.ok, a⟩) ∧
        a.length = 11 + 2 * r.trims.length + 2 * r.limits.length ∧
        a.take 2 = target r.target ∧ (a.drop 2).take 3 = disposition r.disposition ∧
        (∀ v c, r.disposition = .hold v c →
          (a.drop 5).take 3 = halfBytes (BitVec.ofInt 16 v) ++ [BitVec.ofNat 8 c.rank]) ∧
        ((∀ v c, r.disposition ≠ .hold v c) → (a.drop 5).take 3 = [0#8, 0#8, 0#8]) ∧
        a.getD 8 0#8 = BitVec.ofNat 8 (r.authClamp.toNat + 2 * r.limited.toNat) ∧
        a.getD 9 0#8 = BitVec.ofNat 8 r.trims.length ∧
        (a.drop 10).take (2 * r.trims.length) = r.trims.flatMap Handle.bytes ∧
        a.getD (10 + 2 * r.trims.length) 0#8 = BitVec.ofNat 8 r.limits.length ∧
        a.drop (11 + 2 * r.trims.length) = r.limits.flatMap Handle.bytes) ∧
    (let d := s.ad
     taken (.readEngine snd) snd s → ∃ a : List Byte,
      exec (.readEngine snd) s = .next (s.respond .readEngine snd ⟨.ok, a⟩) ∧ a.length = 20 ∧
      a.getD 0 0#8 = (match d.sync with
        | .stopped => 0#8
        | .seeking => 1#8
        | .crankSync => 2#8
        | .cycleSync => 3#8) ∧
      (∀ k, d.toothIndex = some k → a.getD 1 0#8 = BitVec.ofNat 8 k) ∧
      (d.toothIndex = none → a.getD 1 0#8 = 0xFF#8) ∧
      (d.sync = .stopped ∨ d.sync = .seeking → (a.drop 2).take 4 = [0xFF#8, 0xFF#8, 0xFF#8, 0xFF#8]) ∧
      (∀ k, d.sync = .crankSync → d.toothIndex = some k →
        (a.drop 2).take 4 = halfBytes (BitVec.ofNat 16 (k * (5760 / d.teeth))) ++ [0xFF#8, 0xFF#8]) ∧
      (∀ k h, d.sync = .cycleSync → d.toothIndex = some k → d.half = some h →
        let angle := k * (5760 / d.teeth) + (if h = .second then 5760 else 0)
        (a.drop 2).take 4 = halfBytes (BitVec.ofNat 16 angle) ++
          halfBytes (BitVec.ofNat 16 (((angle : Int) - d.firingOffset) % 11520).toNat)) ∧
      (a.drop 6).take 2 = halfBytes (BitVec.ofNat 16 d.speed) ∧
      (d.lastNormal = none → (a.drop 8).take 3 = [0xFF#8, 0xFF#8, 0xFF#8]) ∧
      (∀ n, d.lastNormal = some n →
        (a.drop 8).take 3 = [BitVec.ofNat 8 (n / 65536), BitVec.ofNat 8 (n / 256), BitVec.ofNat 8 n]) ∧
      a.getD 11 0#8 = BitVec.ofNat 8 d.doubt ∧
      (a.drop 12).take 5 = (if s.ps.cond.oilOk then 1#8 else 0#8) ::
        halfBytes (BitVec.ofInt 16 s.ps.cond.temperature) ++ halfBytes (BitVec.ofNat 16 s.ps.cond.battery) ∧
      a.getD 17 0#8 = (if s.ps.cond.fresh then 1#8 else 0#8) ∧
      (a.drop 18).take 2 = timer s.ps.cond.timer)

/-! ### The millisecond time base -/

/-- An advance of the time base. What an advance before it has found run out and nobody has taken is taken first, each by its own
event: the expiries in slot order, then phaser by phaser the state timers and the over-band events, then the freshness timer and
the stop timer (MODEL'S CHOICE, logs 1 and 9: this order; a sender can place the events before the advance in any other). So no
deadline passes an advance at 0 (R8), and where nothing has run out nothing is taken. `u` is the state then: every deadline and
timer decreases, every age and over-band time increases; at the track time and the fault time the over-band events fall due
(MODEL'S CHOICE, log 8: a timer that runs out stands at 0, and the over-band events wait in two flags, until they are taken).
MODEL'S CHOICE, log 5: the capture counter moves to the next boundary of the time base. MODEL'S CHOICE, log 19: the over-band time
saturates at 65,535. -/
def Obligations.TimeBaseAdvanceMovesEveryTimer : Prop :=
  ∀ s : State,
    let due : List Instr := (List.finRange 24).map Instr.expiry ++
      [Phaser.fi, .fe, .ri, .re].flatMap (fun p => [.releaseIntervalExpiry p, .returnTimeoutExpiry p,
        .latchIntervalExpiry p, .overBandTrackTime p, .overBandFaultTime p]) ++
      [.freshnessTimerExpiry, .stopTimerExpiry]
    ∃ u t : State, exec .timeBaseAdvance s = .next t ∧
    (∃ path : List State, path.length = due.length + 1 ∧ path[0]? = some s ∧ path[due.length]? = some u ∧
      ∀ (k : Nat) (i : Instr) (x y : State), due[k]? = some i → path[k]? = some x → path[k + 1]? = some y →
        exec i x = .next y) ∧
    ((∀ i r, (s.rt.slots.get i).record = some r → r.deadline ≠ some 0) →
      (∀ p, (s.phaser p).timer ≠ some 0 ∧ (s.phaser p).trackDue = false ∧ (s.phaser p).faultDue = false) →
      s.ps.cond.timer ≠ some 0 → s.ad.stopTimer ≠ some 0 → u = s) ∧
    (∀ i r, (u.rt.slots.get i).record = some r → r.deadline ≠ some 0) ∧
    t.rt.front = u.rt.front ∧ t.rt.rear = u.rt.rear ∧ t.tr = u.tr ∧ t.vd = u.vd ∧ t.cm = u.cm ∧ t.fp = s.fp ∧
    t.msTicks = 0 ∧ t.counter = s.counter + BitVec.ofNat 24 (8000 - s.msTicks) ∧
    (∀ i, (t.rt.slots.get i).gen = (s.rt.slots.get i).gen ∧
      ((s.rt.slots.get i).record = none → (t.rt.slots.get i).record = none) ∧
      (∀ r, (s.rt.slots.get i).record = some r → r.deadline = some 0 → (t.rt.slots.get i).record = none) ∧
      (∀ r, (s.rt.slots.get i).record = some r → r.deadline ≠ some 0 → (t.rt.slots.get i).record =
        some { r with deadline := match r.deadline with
          | none => none
          | some d => some (d - 1) })) ∧
    t.ad = { u.ad with stopTimer := match u.ad.stopTimer with
      | none => none
      | some n => some (n - 1) } ∧
    t.ps.cond = { u.ps.cond with timer := match u.ps.cond.timer with
      | none => none
      | some n => some (n - 1) } ∧
    t.ps.params = s.ps.params ∧ t.ps.departed = u.ps.departed ∧
    ∀ p,
      t.cam p = { u.cam p with last := match (u.cam p).last with
        | none => none
        | some m => some ⟨m.phase, min 255 (m.age + 1)⟩ } ∧
      t.loop p = { u.loop p with stepAge := match (u.loop p).stepAge with
        | none => none
        | some a => some (min 17 (a + 1)) } ∧
      (t.phaser p).state = (u.phaser p).state ∧ (t.phaser p).causes = (u.phaser p).causes ∧
      (t.phaser p).enable = (s.phaser p).enable ∧
      ((u.phaser p).timer = none → (t.phaser p).timer = none) ∧
      (∀ n, (u.phaser p).timer = some n → (t.phaser p).timer = some (n - 1)) ∧
      ((u.phaser p).overBand = none → (t.phaser p).overBand = none ∧
        (t.phaser p).trackDue = (u.phaser p).trackDue ∧ (t.phaser p).faultDue = (u.phaser p).faultDue) ∧
      (∀ n, (u.phaser p).overBand = some n → let m := min 65535 (n + 1)
        (t.phaser p).overBand = some m ∧
        ((t.phaser p).trackDue = true ↔ (u.phaser p).trackDue = true ∨
          s.ps.params.trackTime ≤ m ∧ u.stands p .trackErr = false) ∧
        ((t.phaser p).faultDue = true ↔ (u.phaser p).faultDue = true ∨ s.ps.params.faultTime ≤ m))

/-! ### The laws of the state -/

/-- Every law of Safety.lean holds right after reset. -/
def Obligations.EveryLawHoldsAtReset : Prop :=
  TableLaw State.reset ∧ WindowLaw State.reset ∧ LoopLaw State.reset ∧ DutyLaw State.reset ∧ PhaserLaw State.reset ∧
    DepartureLaw State.reset ∧ SyncLaw State.reset ∧ StatusLaw State.reset

/-- Every step keeps the law of the Request Table. -/
def Obligations.StepKeepsTheTableLaw : Prop :=
  ∀ s t : State, TableLaw s → step s = .next t → TableLaw t

/-- Every step keeps every effective target and every ramp target within its authority window. -/
def Obligations.StepKeepsTheWindowLaw : Prop :=
  ∀ s t : State, WindowLaw s → step s = .next t → WindowLaw t

/-- Every step keeps the integrators within their limits, at 0 with no step time and no delivered measurement outside TRACKING,
and the commanded duties at 0 outside RELEASING and TRACKING. -/
def Obligations.StepKeepsTheLoopAndDutyLaws : Prop :=
  ∀ s t : State, LoopLaw s ∧ DutyLaw s → step s = .next t → LoopLaw t ∧ DutyLaw t

/-- Every step keeps the law of the phaser records, and keeps every phaser STOPPED, OFF or FAULTED outside CYCLE_SYNC once a
departure has been handled. -/
def Obligations.StepKeepsThePhaserAndDepartureLaws : Prop :=
  ∀ s t : State, PhaserLaw s ∧ DepartureLaw s → step s = .next t → PhaserLaw t ∧ DepartureLaw t

/-- Every step keeps the law of the decoder record and of Edge Capture, and the condition status in agreement with the owners'
records. -/
def Obligations.StepKeepsTheSyncAndStatusLaws : Prop :=
  ∀ s t : State, SyncLaw s ∧ StatusLaw s → step s = .next t → SyncLaw t ∧ StatusLaw t

/-! ### Frames and isolation -/

/-- A well-formed command leaves every block outside its list of touched blocks as it was. -/
def Obligations.CommandsTouchOnlyTheirBlocks : Prop :=
  ∀ (i : Instr) (s t : State), i.wellFormed = true → exec i s = .next t → ∀ b, b ∉ touches i → b.same s t

/-- An event of one phaser, cam or output leaves the records of every other one as they were. -/
def Obligations.EventsOfOnePhaserLeaveTheOthers : Prop :=
  ∀ (p q : Phaser) (s t : State) (i : Instr), q ≠ p →
    (i = .recompute p ∨ i = .controlStep p ∨ (∃ r h x, i = .camEdge p r h x) ∨ i = .releaseIntervalExpiry p ∨
      i = .returnTimeoutExpiry p ∨ i = .latchIntervalExpiry p ∨ i = .overBandTrackTime p ∨ i = .overBandFaultTime p ∨
      i = .periodStart p ∨ i = .endOfOnTime p ∨ (∃ b, i = .periodEnd p b) ∨ i = .overcurrent p ∨
      i = .thermalHoldSet p ∨ i = .thermalHoldClear p ∨ ∃ d, i = .driverConditionFault p d) →
    exec i s = .next t →
    t.resolver q = s.resolver q ∧ t.phaser q = s.phaser q ∧ t.loop q = s.loop q ∧ t.channel q = s.channel q ∧
      t.cam q = s.cam q ∧ t.phGroup q = s.phGroup q
end

