-- ==== Sys2Proof/Laws/State.lean ====
section
/-! SUPPORT. One lemma per field for each named update of the state, and reading one phaser's record after another's was
replaced. -/

namespace Sys2Proof.Machine

open Sys2Proof

/-! ### Four values by index -/

@[simp] theorem quad_get_set_self {α : Type} (q : Quad α) (p : Phaser) (x : α) : (q.set p x).get p = x := by
  cases p <;> rfl

theorem quad_get_set_ne {α : Type} (q : Quad α) {p r : Phaser} (x : α) (h : r ≠ p) : (q.set p x).get r = q.get r := by
  cases p <;> cases r <;> first | rfl | exact absurd rfl h

theorem quad_get_set {α : Type} (q : Quad α) (p r : Phaser) (x : α) :
    (q.set p x).get r = if r = p then x else q.get r := by
  cases p <;> cases r <;> rfl

@[simp] theorem quad_get_map {α β : Type} (f : α → β) (q : Quad α) (p : Phaser) : (q.map f).get p = f (q.get p) := by
  cases p <;> rfl

@[simp] theorem quad_get_all {α : Type} (x : α) (p : Phaser) : (Quad.all x).get p = x := by
  cases p <;> rfl

@[simp] theorem quad_set_get {α : Type} (q : Quad α) (p : Phaser) : q.set p (q.get p) = q := by
  cases p <;> rfl

@[simp] theorem quad_set_set {α : Type} (q : Quad α) (p : Phaser) (x y : α) : (q.set p x).set p y = q.set p y := by
  cases p <;> rfl

theorem quad_ext {α : Type} {q r : Quad α} (h : ∀ p, q.get p = r.get p) : q = r := by
  obtain ⟨a, b, c, d⟩ := q
  obtain ⟨a', b', c', d'⟩ := r
  have h0 : a = a' := h .fi
  have h1 : b = b' := h .fe
  have h2 : c = c' := h .ri
  have h3 : d = d' := h .re
  subst h0 h1 h2 h3
  rfl

/-! ### The fields after each update -/

@[simp] theorem setResolver_rt (s : State) (p : Phaser) (x : Resolver) : (s.setResolver p x).rt = s.rt := rfl
@[simp] theorem setResolver_ad (s : State) (p : Phaser) (x : Resolver) : (s.setResolver p x).ad = s.ad := rfl
@[simp] theorem setResolver_ec (s : State) (p : Phaser) (x : Resolver) : (s.setResolver p x).ec = s.ec := rfl
@[simp] theorem setResolver_ps (s : State) (p : Phaser) (x : Resolver) : (s.setResolver p x).ps = s.ps := rfl
@[simp] theorem setResolver_lu (s : State) (p : Phaser) (x : Resolver) : (s.setResolver p x).lu = s.lu := rfl
@[simp] theorem setResolver_vd (s : State) (p : Phaser) (x : Resolver) : (s.setResolver p x).vd = s.vd := rfl
@[simp] theorem setResolver_cm (s : State) (p : Phaser) (x : Resolver) : (s.setResolver p x).cm = s.cm := rfl
@[simp] theorem setResolver_fp (s : State) (p : Phaser) (x : Resolver) : (s.setResolver p x).fp = s.fp := rfl
@[simp] theorem setResolver_counter (s : State) (p : Phaser) (x : Resolver) : (s.setResolver p x).counter = s.counter := rfl
@[simp] theorem setResolver_msTicks (s : State) (p : Phaser) (x : Resolver) : (s.setResolver p x).msTicks = s.msTicks := rfl
@[simp] theorem setResolver_pending (s : State) (p : Phaser) (x : Resolver) : (s.setResolver p x).pending = s.pending := rfl

@[simp] theorem setPhaser_rt (s : State) (p : Phaser) (x : PhaserRec) : (s.setPhaser p x).rt = s.rt := rfl
@[simp] theorem setPhaser_tr (s : State) (p : Phaser) (x : PhaserRec) : (s.setPhaser p x).tr = s.tr := rfl
@[simp] theorem setPhaser_ad (s : State) (p : Phaser) (x : PhaserRec) : (s.setPhaser p x).ad = s.ad := rfl
@[simp] theorem setPhaser_ec (s : State) (p : Phaser) (x : PhaserRec) : (s.setPhaser p x).ec = s.ec := rfl
@[simp] theorem setPhaser_lu (s : State) (p : Phaser) (x : PhaserRec) : (s.setPhaser p x).lu = s.lu := rfl
@[simp] theorem setPhaser_vd (s : State) (p : Phaser) (x : PhaserRec) : (s.setPhaser p x).vd = s.vd := rfl
@[simp] theorem setPhaser_cm (s : State) (p : Phaser) (x : PhaserRec) : (s.setPhaser p x).cm = s.cm := rfl
@[simp] theorem setPhaser_fp (s : State) (p : Phaser) (x : PhaserRec) : (s.setPhaser p x).fp = s.fp := rfl
@[simp] theorem setPhaser_counter (s : State) (p : Phaser) (x : PhaserRec) : (s.setPhaser p x).counter = s.counter := rfl
@[simp] theorem setPhaser_msTicks (s : State) (p : Phaser) (x : PhaserRec) : (s.setPhaser p x).msTicks = s.msTicks := rfl
@[simp] theorem setPhaser_pending (s : State) (p : Phaser) (x : PhaserRec) : (s.setPhaser p x).pending = s.pending := rfl

@[simp] theorem setLoop_rt (s : State) (p : Phaser) (x : Loop) : (s.setLoop p x).rt = s.rt := rfl
@[simp] theorem setLoop_tr (s : State) (p : Phaser) (x : Loop) : (s.setLoop p x).tr = s.tr := rfl
@[simp] theorem setLoop_ad (s : State) (p : Phaser) (x : Loop) : (s.setLoop p x).ad = s.ad := rfl
@[simp] theorem setLoop_ec (s : State) (p : Phaser) (x : Loop) : (s.setLoop p x).ec = s.ec := rfl
@[simp] theorem setLoop_ps (s : State) (p : Phaser) (x : Loop) : (s.setLoop p x).ps = s.ps := rfl
@[simp] theorem setLoop_vd (s : State) (p : Phaser) (x : Loop) : (s.setLoop p x).vd = s.vd := rfl
@[simp] theorem setLoop_cm (s : State) (p : Phaser) (x : Loop) : (s.setLoop p x).cm = s.cm := rfl
@[simp] theorem setLoop_fp (s : State) (p : Phaser) (x : Loop) : (s.setLoop p x).fp = s.fp := rfl
@[simp] theorem setLoop_counter (s : State) (p : Phaser) (x : Loop) : (s.setLoop p x).counter = s.counter := rfl
@[simp] theorem setLoop_msTicks (s : State) (p : Phaser) (x : Loop) : (s.setLoop p x).msTicks = s.msTicks := rfl
@[simp] theorem setLoop_pending (s : State) (p : Phaser) (x : Loop) : (s.setLoop p x).pending = s.pending := rfl

@[simp] theorem setChannel_rt (s : State) (p : Phaser) (x : Channel) : (s.setChannel p x).rt = s.rt := rfl
@[simp] theorem setChannel_tr (s : State) (p : Phaser) (x : Channel) : (s.setChannel p x).tr = s.tr := rfl
@[simp] theorem setChannel_ad (s : State) (p : Phaser) (x : Channel) : (s.setChannel p x).ad = s.ad := rfl
@[simp] theorem setChannel_ec (s : State) (p : Phaser) (x : Channel) : (s.setChannel p x).ec = s.ec := rfl
@[simp] theorem setChannel_ps (s : State) (p : Phaser) (x : Channel) : (s.setChannel p x).ps = s.ps := rfl
@[simp] theorem setChannel_lu (s : State) (p : Phaser) (x : Channel) : (s.setChannel p x).lu = s.lu := rfl
@[simp] theorem setChannel_cm (s : State) (p : Phaser) (x : Channel) : (s.setChannel p x).cm = s.cm := rfl
@[simp] theorem setChannel_fp (s : State) (p : Phaser) (x : Channel) : (s.setChannel p x).fp = s.fp := rfl
@[simp] theorem setChannel_counter (s : State) (p : Phaser) (x : Channel) : (s.setChannel p x).counter = s.counter := rfl
@[simp] theorem setChannel_msTicks (s : State) (p : Phaser) (x : Channel) : (s.setChannel p x).msTicks = s.msTicks := rfl
@[simp] theorem setChannel_pending (s : State) (p : Phaser) (x : Channel) : (s.setChannel p x).pending = s.pending := rfl

@[simp] theorem setCam_rt (s : State) (c : Phaser) (x : Cam) : (s.setCam c x).rt = s.rt := rfl
@[simp] theorem setCam_tr (s : State) (c : Phaser) (x : Cam) : (s.setCam c x).tr = s.tr := rfl
@[simp] theorem setCam_ad (s : State) (c : Phaser) (x : Cam) : (s.setCam c x).ad = s.ad := rfl
@[simp] theorem setCam_ps (s : State) (c : Phaser) (x : Cam) : (s.setCam c x).ps = s.ps := rfl
@[simp] theorem setCam_lu (s : State) (c : Phaser) (x : Cam) : (s.setCam c x).lu = s.lu := rfl
@[simp] theorem setCam_vd (s : State) (c : Phaser) (x : Cam) : (s.setCam c x).vd = s.vd := rfl
@[simp] theorem setCam_cm (s : State) (c : Phaser) (x : Cam) : (s.setCam c x).cm = s.cm := rfl
@[simp] theorem setCam_fp (s : State) (c : Phaser) (x : Cam) : (s.setCam c x).fp = s.fp := rfl
@[simp] theorem setCam_counter (s : State) (c : Phaser) (x : Cam) : (s.setCam c x).counter = s.counter := rfl
@[simp] theorem setCam_msTicks (s : State) (c : Phaser) (x : Cam) : (s.setCam c x).msTicks = s.msTicks := rfl
@[simp] theorem setCam_pending (s : State) (c : Phaser) (x : Cam) : (s.setCam c x).pending = s.pending := rfl

@[simp] theorem setPhGroup_rt (s : State) (p : Phaser) (x : PhGroup) : (s.setPhGroup p x).rt = s.rt := rfl
@[simp] theorem setPhGroup_tr (s : State) (p : Phaser) (x : PhGroup) : (s.setPhGroup p x).tr = s.tr := rfl
@[simp] theorem setPhGroup_ad (s : State) (p : Phaser) (x : PhGroup) : (s.setPhGroup p x).ad = s.ad := rfl
@[simp] theorem setPhGroup_ec (s : State) (p : Phaser) (x : PhGroup) : (s.setPhGroup p x).ec = s.ec := rfl
@[simp] theorem setPhGroup_ps (s : State) (p : Phaser) (x : PhGroup) : (s.setPhGroup p x).ps = s.ps := rfl
@[simp] theorem setPhGroup_lu (s : State) (p : Phaser) (x : PhGroup) : (s.setPhGroup p x).lu = s.lu := rfl
@[simp] theorem setPhGroup_vd (s : State) (p : Phaser) (x : PhGroup) : (s.setPhGroup p x).vd = s.vd := rfl
@[simp] theorem setPhGroup_fp (s : State) (p : Phaser) (x : PhGroup) : (s.setPhGroup p x).fp = s.fp := rfl
@[simp] theorem setPhGroup_counter (s : State) (p : Phaser) (x : PhGroup) : (s.setPhGroup p x).counter = s.counter := rfl
@[simp] theorem setPhGroup_msTicks (s : State) (p : Phaser) (x : PhGroup) : (s.setPhGroup p x).msTicks = s.msTicks := rfl
@[simp] theorem setPhGroup_pending (s : State) (p : Phaser) (x : PhGroup) : (s.setPhGroup p x).pending = s.pending := rfl

@[simp] theorem setDev_rt (s : State) (x : DevGroup) : (s.setDev x).rt = s.rt := rfl
@[simp] theorem setDev_tr (s : State) (x : DevGroup) : (s.setDev x).tr = s.tr := rfl
@[simp] theorem setDev_ad (s : State) (x : DevGroup) : (s.setDev x).ad = s.ad := rfl
@[simp] theorem setDev_ec (s : State) (x : DevGroup) : (s.setDev x).ec = s.ec := rfl
@[simp] theorem setDev_ps (s : State) (x : DevGroup) : (s.setDev x).ps = s.ps := rfl
@[simp] theorem setDev_lu (s : State) (x : DevGroup) : (s.setDev x).lu = s.lu := rfl
@[simp] theorem setDev_vd (s : State) (x : DevGroup) : (s.setDev x).vd = s.vd := rfl
@[simp] theorem setDev_fp (s : State) (x : DevGroup) : (s.setDev x).fp = s.fp := rfl
@[simp] theorem setDev_counter (s : State) (x : DevGroup) : (s.setDev x).counter = s.counter := rfl
@[simp] theorem setDev_msTicks (s : State) (x : DevGroup) : (s.setDev x).msTicks = s.msTicks := rfl
@[simp] theorem setDev_pending (s : State) (x : DevGroup) : (s.setDev x).pending = s.pending := rfl

@[simp] theorem setDecoder_rt (s : State) (x : Decoder) : (s.setDecoder x).rt = s.rt := rfl
@[simp] theorem setDecoder_tr (s : State) (x : Decoder) : (s.setDecoder x).tr = s.tr := rfl
@[simp] theorem setDecoder_ec (s : State) (x : Decoder) : (s.setDecoder x).ec = s.ec := rfl
@[simp] theorem setDecoder_ps (s : State) (x : Decoder) : (s.setDecoder x).ps = s.ps := rfl
@[simp] theorem setDecoder_lu (s : State) (x : Decoder) : (s.setDecoder x).lu = s.lu := rfl
@[simp] theorem setDecoder_vd (s : State) (x : Decoder) : (s.setDecoder x).vd = s.vd := rfl
@[simp] theorem setDecoder_cm (s : State) (x : Decoder) : (s.setDecoder x).cm = s.cm := rfl
@[simp] theorem setDecoder_fp (s : State) (x : Decoder) : (s.setDecoder x).fp = s.fp := rfl
@[simp] theorem setDecoder_counter (s : State) (x : Decoder) : (s.setDecoder x).counter = s.counter := rfl
@[simp] theorem setDecoder_msTicks (s : State) (x : Decoder) : (s.setDecoder x).msTicks = s.msTicks := rfl
@[simp] theorem setDecoder_pending (s : State) (x : Decoder) : (s.setDecoder x).pending = s.pending := rfl

@[simp] theorem setSlots_tr (s : State) (x : Slots) : (s.setSlots x).tr = s.tr := rfl
@[simp] theorem setSlots_ad (s : State) (x : Slots) : (s.setSlots x).ad = s.ad := rfl
@[simp] theorem setSlots_ec (s : State) (x : Slots) : (s.setSlots x).ec = s.ec := rfl
@[simp] theorem setSlots_ps (s : State) (x : Slots) : (s.setSlots x).ps = s.ps := rfl
@[simp] theorem setSlots_lu (s : State) (x : Slots) : (s.setSlots x).lu = s.lu := rfl
@[simp] theorem setSlots_vd (s : State) (x : Slots) : (s.setSlots x).vd = s.vd := rfl
@[simp] theorem setSlots_cm (s : State) (x : Slots) : (s.setSlots x).cm = s.cm := rfl
@[simp] theorem setSlots_fp (s : State) (x : Slots) : (s.setSlots x).fp = s.fp := rfl
@[simp] theorem setSlots_counter (s : State) (x : Slots) : (s.setSlots x).counter = s.counter := rfl
@[simp] theorem setSlots_msTicks (s : State) (x : Slots) : (s.setSlots x).msTicks = s.msTicks := rfl
@[simp] theorem setSlots_pending (s : State) (x : Slots) : (s.setSlots x).pending = s.pending := rfl

@[simp] theorem setCommanded_rt (s : State) (p : Phaser) (d : Nat) : (s.setCommanded p d).rt = s.rt := rfl
@[simp] theorem setCommanded_tr (s : State) (p : Phaser) (d : Nat) : (s.setCommanded p d).tr = s.tr := rfl
@[simp] theorem setCommanded_ad (s : State) (p : Phaser) (d : Nat) : (s.setCommanded p d).ad = s.ad := rfl
@[simp] theorem setCommanded_ec (s : State) (p : Phaser) (d : Nat) : (s.setCommanded p d).ec = s.ec := rfl
@[simp] theorem setCommanded_ps (s : State) (p : Phaser) (d : Nat) : (s.setCommanded p d).ps = s.ps := rfl
@[simp] theorem setCommanded_lu (s : State) (p : Phaser) (d : Nat) : (s.setCommanded p d).lu = s.lu := rfl
@[simp] theorem setCommanded_cm (s : State) (p : Phaser) (d : Nat) : (s.setCommanded p d).cm = s.cm := rfl
@[simp] theorem setCommanded_fp (s : State) (p : Phaser) (d : Nat) : (s.setCommanded p d).fp = s.fp := rfl
@[simp] theorem setCommanded_counter (s : State) (p : Phaser) (d : Nat) : (s.setCommanded p d).counter = s.counter := rfl
@[simp] theorem setCommanded_msTicks (s : State) (p : Phaser) (d : Nat) : (s.setCommanded p d).msTicks = s.msTicks := rfl
@[simp] theorem setCommanded_pending (s : State) (p : Phaser) (d : Nat) : (s.setCommanded p d).pending = s.pending := rfl

@[simp] theorem setSeqParams_rt (s : State) (x : SeqParams) : (s.setSeqParams x).rt = s.rt := rfl
@[simp] theorem setSeqParams_tr (s : State) (x : SeqParams) : (s.setSeqParams x).tr = s.tr := rfl
@[simp] theorem setSeqParams_ad (s : State) (x : SeqParams) : (s.setSeqParams x).ad = s.ad := rfl
@[simp] theorem setSeqParams_ec (s : State) (x : SeqParams) : (s.setSeqParams x).ec = s.ec := rfl
@[simp] theorem setSeqParams_lu (s : State) (x : SeqParams) : (s.setSeqParams x).lu = s.lu := rfl
@[simp] theorem setSeqParams_vd (s : State) (x : SeqParams) : (s.setSeqParams x).vd = s.vd := rfl
@[simp] theorem setSeqParams_cm (s : State) (x : SeqParams) : (s.setSeqParams x).cm = s.cm := rfl
@[simp] theorem setSeqParams_fp (s : State) (x : SeqParams) : (s.setSeqParams x).fp = s.fp := rfl
@[simp] theorem setSeqParams_counter (s : State) (x : SeqParams) : (s.setSeqParams x).counter = s.counter := rfl
@[simp] theorem setSeqParams_msTicks (s : State) (x : SeqParams) : (s.setSeqParams x).msTicks = s.msTicks := rfl
@[simp] theorem setSeqParams_pending (s : State) (x : SeqParams) : (s.setSeqParams x).pending = s.pending := rfl

@[simp] theorem setLoopParams_rt (s : State) (p : Phaser) (x : LoopParams) : (s.setLoopParams p x).rt = s.rt := rfl
@[simp] theorem setLoopParams_tr (s : State) (p : Phaser) (x : LoopParams) : (s.setLoopParams p x).tr = s.tr := rfl
@[simp] theorem setLoopParams_ad (s : State) (p : Phaser) (x : LoopParams) : (s.setLoopParams p x).ad = s.ad := rfl
@[simp] theorem setLoopParams_ec (s : State) (p : Phaser) (x : LoopParams) : (s.setLoopParams p x).ec = s.ec := rfl
@[simp] theorem setLoopParams_ps (s : State) (p : Phaser) (x : LoopParams) : (s.setLoopParams p x).ps = s.ps := rfl
@[simp] theorem setLoopParams_vd (s : State) (p : Phaser) (x : LoopParams) : (s.setLoopParams p x).vd = s.vd := rfl
@[simp] theorem setLoopParams_cm (s : State) (p : Phaser) (x : LoopParams) : (s.setLoopParams p x).cm = s.cm := rfl
@[simp] theorem setLoopParams_fp (s : State) (p : Phaser) (x : LoopParams) : (s.setLoopParams p x).fp = s.fp := rfl
@[simp] theorem setLoopParams_counter (s : State) (p : Phaser) (x : LoopParams) : (s.setLoopParams p x).counter = s.counter := rfl
@[simp] theorem setLoopParams_msTicks (s : State) (p : Phaser) (x : LoopParams) : (s.setLoopParams p x).msTicks = s.msTicks := rfl
@[simp] theorem setLoopParams_pending (s : State) (p : Phaser) (x : LoopParams) : (s.setLoopParams p x).pending = s.pending := rfl

@[simp] theorem drive_rt (s : State) (p : Phaser) (e : PhCond) (b : Bool) : (s.drive p e b).rt = s.rt := rfl
@[simp] theorem drive_tr (s : State) (p : Phaser) (e : PhCond) (b : Bool) : (s.drive p e b).tr = s.tr := rfl
@[simp] theorem drive_ad (s : State) (p : Phaser) (e : PhCond) (b : Bool) : (s.drive p e b).ad = s.ad := rfl
@[simp] theorem drive_ec (s : State) (p : Phaser) (e : PhCond) (b : Bool) : (s.drive p e b).ec = s.ec := rfl
@[simp] theorem drive_ps (s : State) (p : Phaser) (e : PhCond) (b : Bool) : (s.drive p e b).ps = s.ps := rfl
@[simp] theorem drive_lu (s : State) (p : Phaser) (e : PhCond) (b : Bool) : (s.drive p e b).lu = s.lu := rfl
@[simp] theorem drive_vd (s : State) (p : Phaser) (e : PhCond) (b : Bool) : (s.drive p e b).vd = s.vd := rfl
@[simp] theorem drive_fp (s : State) (p : Phaser) (e : PhCond) (b : Bool) : (s.drive p e b).fp = s.fp := rfl
@[simp] theorem drive_counter (s : State) (p : Phaser) (e : PhCond) (b : Bool) : (s.drive p e b).counter = s.counter := rfl
@[simp] theorem drive_msTicks (s : State) (p : Phaser) (e : PhCond) (b : Bool) : (s.drive p e b).msTicks = s.msTicks := rfl
@[simp] theorem drive_pending (s : State) (p : Phaser) (e : PhCond) (b : Bool) : (s.drive p e b).pending = s.pending := rfl

@[simp] theorem put_rt (s : State) (p : Phaser) (e : PhCond) (b : Bool) : (s.put p e b).rt = s.rt := rfl
@[simp] theorem put_tr (s : State) (p : Phaser) (e : PhCond) (b : Bool) : (s.put p e b).tr = s.tr := rfl
@[simp] theorem put_ad (s : State) (p : Phaser) (e : PhCond) (b : Bool) : (s.put p e b).ad = s.ad := rfl
@[simp] theorem put_ec (s : State) (p : Phaser) (e : PhCond) (b : Bool) : (s.put p e b).ec = s.ec := rfl
@[simp] theorem put_ps (s : State) (p : Phaser) (e : PhCond) (b : Bool) : (s.put p e b).ps = s.ps := rfl
@[simp] theorem put_lu (s : State) (p : Phaser) (e : PhCond) (b : Bool) : (s.put p e b).lu = s.lu := rfl
@[simp] theorem put_vd (s : State) (p : Phaser) (e : PhCond) (b : Bool) : (s.put p e b).vd = s.vd := rfl
@[simp] theorem put_fp (s : State) (p : Phaser) (e : PhCond) (b : Bool) : (s.put p e b).fp = s.fp := rfl
@[simp] theorem put_counter (s : State) (p : Phaser) (e : PhCond) (b : Bool) : (s.put p e b).counter = s.counter := rfl
@[simp] theorem put_msTicks (s : State) (p : Phaser) (e : PhCond) (b : Bool) : (s.put p e b).msTicks = s.msTicks := rfl
@[simp] theorem put_pending (s : State) (p : Phaser) (e : PhCond) (b : Bool) : (s.put p e b).pending = s.pending := rfl

@[simp] theorem driveDev_rt (s : State) (e : DevCond) (b : Bool) : (s.driveDev e b).rt = s.rt := rfl
@[simp] theorem driveDev_tr (s : State) (e : DevCond) (b : Bool) : (s.driveDev e b).tr = s.tr := rfl
@[simp] theorem driveDev_ad (s : State) (e : DevCond) (b : Bool) : (s.driveDev e b).ad = s.ad := rfl
@[simp] theorem driveDev_ec (s : State) (e : DevCond) (b : Bool) : (s.driveDev e b).ec = s.ec := rfl
@[simp] theorem driveDev_ps (s : State) (e : DevCond) (b : Bool) : (s.driveDev e b).ps = s.ps := rfl
@[simp] theorem driveDev_lu (s : State) (e : DevCond) (b : Bool) : (s.driveDev e b).lu = s.lu := rfl
@[simp] theorem driveDev_vd (s : State) (e : DevCond) (b : Bool) : (s.driveDev e b).vd = s.vd := rfl
@[simp] theorem driveDev_fp (s : State) (e : DevCond) (b : Bool) : (s.driveDev e b).fp = s.fp := rfl
@[simp] theorem driveDev_counter (s : State) (e : DevCond) (b : Bool) : (s.driveDev e b).counter = s.counter := rfl
@[simp] theorem driveDev_msTicks (s : State) (e : DevCond) (b : Bool) : (s.driveDev e b).msTicks = s.msTicks := rfl
@[simp] theorem driveDev_pending (s : State) (e : DevCond) (b : Bool) : (s.driveDev e b).pending = s.pending := rfl

@[simp] theorem latchExpired_rt (s : State) (p : Phaser) (h : Handle) : (s.latchExpired p h).rt = s.rt := rfl
@[simp] theorem latchExpired_tr (s : State) (p : Phaser) (h : Handle) : (s.latchExpired p h).tr = s.tr := rfl
@[simp] theorem latchExpired_ad (s : State) (p : Phaser) (h : Handle) : (s.latchExpired p h).ad = s.ad := rfl
@[simp] theorem latchExpired_ec (s : State) (p : Phaser) (h : Handle) : (s.latchExpired p h).ec = s.ec := rfl
@[simp] theorem latchExpired_ps (s : State) (p : Phaser) (h : Handle) : (s.latchExpired p h).ps = s.ps := rfl
@[simp] theorem latchExpired_lu (s : State) (p : Phaser) (h : Handle) : (s.latchExpired p h).lu = s.lu := rfl
@[simp] theorem latchExpired_vd (s : State) (p : Phaser) (h : Handle) : (s.latchExpired p h).vd = s.vd := rfl
@[simp] theorem latchExpired_fp (s : State) (p : Phaser) (h : Handle) : (s.latchExpired p h).fp = s.fp := rfl
@[simp] theorem latchExpired_counter (s : State) (p : Phaser) (h : Handle) : (s.latchExpired p h).counter = s.counter := rfl
@[simp] theorem latchExpired_msTicks (s : State) (p : Phaser) (h : Handle) : (s.latchExpired p h).msTicks = s.msTicks := rfl
@[simp] theorem latchExpired_pending (s : State) (p : Phaser) (h : Handle) : (s.latchExpired p h).pending = s.pending := rfl

@[simp] theorem latchOverrun_rt (s : State) (p : Phaser) : (s.latchOverrun p).rt = s.rt := rfl
@[simp] theorem latchOverrun_tr (s : State) (p : Phaser) : (s.latchOverrun p).tr = s.tr := rfl
@[simp] theorem latchOverrun_ad (s : State) (p : Phaser) : (s.latchOverrun p).ad = s.ad := rfl
@[simp] theorem latchOverrun_ec (s : State) (p : Phaser) : (s.latchOverrun p).ec = s.ec := rfl
@[simp] theorem latchOverrun_ps (s : State) (p : Phaser) : (s.latchOverrun p).ps = s.ps := rfl
@[simp] theorem latchOverrun_lu (s : State) (p : Phaser) : (s.latchOverrun p).lu = s.lu := rfl
@[simp] theorem latchOverrun_vd (s : State) (p : Phaser) : (s.latchOverrun p).vd = s.vd := rfl
@[simp] theorem latchOverrun_fp (s : State) (p : Phaser) : (s.latchOverrun p).fp = s.fp := rfl
@[simp] theorem latchOverrun_counter (s : State) (p : Phaser) : (s.latchOverrun p).counter = s.counter := rfl
@[simp] theorem latchOverrun_msTicks (s : State) (p : Phaser) : (s.latchOverrun p).msTicks = s.msTicks := rfl
@[simp] theorem latchOverrun_pending (s : State) (p : Phaser) : (s.latchOverrun p).pending = s.pending := rfl

@[simp] theorem latchReject_rt (s : State) (p : Phaser) : (s.latchReject p).rt = s.rt := rfl
@[simp] theorem latchReject_tr (s : State) (p : Phaser) : (s.latchReject p).tr = s.tr := rfl
@[simp] theorem latchReject_ad (s : State) (p : Phaser) : (s.latchReject p).ad = s.ad := rfl
@[simp] theorem latchReject_ec (s : State) (p : Phaser) : (s.latchReject p).ec = s.ec := rfl
@[simp] theorem latchReject_ps (s : State) (p : Phaser) : (s.latchReject p).ps = s.ps := rfl
@[simp] theorem latchReject_lu (s : State) (p : Phaser) : (s.latchReject p).lu = s.lu := rfl
@[simp] theorem latchReject_vd (s : State) (p : Phaser) : (s.latchReject p).vd = s.vd := rfl
@[simp] theorem latchReject_fp (s : State) (p : Phaser) : (s.latchReject p).fp = s.fp := rfl
@[simp] theorem latchReject_counter (s : State) (p : Phaser) : (s.latchReject p).counter = s.counter := rfl
@[simp] theorem latchReject_msTicks (s : State) (p : Phaser) : (s.latchReject p).msTicks = s.msTicks := rfl
@[simp] theorem latchReject_pending (s : State) (p : Phaser) : (s.latchReject p).pending = s.pending := rfl

@[simp] theorem latchDoubt_rt (s : State) : (s.latchDoubt).rt = s.rt := rfl
@[simp] theorem latchDoubt_tr (s : State) : (s.latchDoubt).tr = s.tr := rfl
@[simp] theorem latchDoubt_ad (s : State) : (s.latchDoubt).ad = s.ad := rfl
@[simp] theorem latchDoubt_ec (s : State) : (s.latchDoubt).ec = s.ec := rfl
@[simp] theorem latchDoubt_ps (s : State) : (s.latchDoubt).ps = s.ps := rfl
@[simp] theorem latchDoubt_lu (s : State) : (s.latchDoubt).lu = s.lu := rfl
@[simp] theorem latchDoubt_vd (s : State) : (s.latchDoubt).vd = s.vd := rfl
@[simp] theorem latchDoubt_fp (s : State) : (s.latchDoubt).fp = s.fp := rfl
@[simp] theorem latchDoubt_counter (s : State) : (s.latchDoubt).counter = s.counter := rfl
@[simp] theorem latchDoubt_msTicks (s : State) : (s.latchDoubt).msTicks = s.msTicks := rfl
@[simp] theorem latchDoubt_pending (s : State) : (s.latchDoubt).pending = s.pending := rfl

@[simp] theorem latchFrameError_rt (s : State) (st : Status) : (s.latchFrameError st).rt = s.rt := rfl
@[simp] theorem latchFrameError_tr (s : State) (st : Status) : (s.latchFrameError st).tr = s.tr := rfl
@[simp] theorem latchFrameError_ad (s : State) (st : Status) : (s.latchFrameError st).ad = s.ad := rfl
@[simp] theorem latchFrameError_ec (s : State) (st : Status) : (s.latchFrameError st).ec = s.ec := rfl
@[simp] theorem latchFrameError_ps (s : State) (st : Status) : (s.latchFrameError st).ps = s.ps := rfl
@[simp] theorem latchFrameError_lu (s : State) (st : Status) : (s.latchFrameError st).lu = s.lu := rfl
@[simp] theorem latchFrameError_vd (s : State) (st : Status) : (s.latchFrameError st).vd = s.vd := rfl
@[simp] theorem latchFrameError_fp (s : State) (st : Status) : (s.latchFrameError st).fp = s.fp := rfl
@[simp] theorem latchFrameError_counter (s : State) (st : Status) : (s.latchFrameError st).counter = s.counter := rfl
@[simp] theorem latchFrameError_msTicks (s : State) (st : Status) : (s.latchFrameError st).msTicks = s.msTicks := rfl
@[simp] theorem latchFrameError_pending (s : State) (st : Status) : (s.latchFrameError st).pending = s.pending := rfl

@[simp] theorem respond_rt (s : State) (c : Command) (snd : Sender) (a : Reply) : (s.respond c snd a).rt = s.rt := rfl
@[simp] theorem respond_tr (s : State) (c : Command) (snd : Sender) (a : Reply) : (s.respond c snd a).tr = s.tr := rfl
@[simp] theorem respond_ad (s : State) (c : Command) (snd : Sender) (a : Reply) : (s.respond c snd a).ad = s.ad := rfl
@[simp] theorem respond_ec (s : State) (c : Command) (snd : Sender) (a : Reply) : (s.respond c snd a).ec = s.ec := rfl
@[simp] theorem respond_ps (s : State) (c : Command) (snd : Sender) (a : Reply) : (s.respond c snd a).ps = s.ps := rfl
@[simp] theorem respond_lu (s : State) (c : Command) (snd : Sender) (a : Reply) : (s.respond c snd a).lu = s.lu := rfl
@[simp] theorem respond_vd (s : State) (c : Command) (snd : Sender) (a : Reply) : (s.respond c snd a).vd = s.vd := rfl
@[simp] theorem respond_cm (s : State) (c : Command) (snd : Sender) (a : Reply) : (s.respond c snd a).cm = s.cm := rfl
@[simp] theorem respond_counter (s : State) (c : Command) (snd : Sender) (a : Reply) : (s.respond c snd a).counter = s.counter := rfl
@[simp] theorem respond_msTicks (s : State) (c : Command) (snd : Sender) (a : Reply) : (s.respond c snd a).msTicks = s.msTicks := rfl
@[simp] theorem respond_pending (s : State) (c : Command) (snd : Sender) (a : Reply) : (s.respond c snd a).pending = s.pending := rfl

@[simp] theorem countSense_rt (s : State) : s.countSense.rt = s.rt := rfl
@[simp] theorem countSense_tr (s : State) : s.countSense.tr = s.tr := rfl
@[simp] theorem countSense_ad (s : State) : s.countSense.ad = s.ad := rfl
@[simp] theorem countSense_ec (s : State) : s.countSense.ec = s.ec := rfl
@[simp] theorem countSense_ps (s : State) : s.countSense.ps = s.ps := rfl
@[simp] theorem countSense_lu (s : State) : s.countSense.lu = s.lu := rfl
@[simp] theorem countSense_cm (s : State) : s.countSense.cm = s.cm := rfl
@[simp] theorem countSense_fp (s : State) : s.countSense.fp = s.fp := rfl
@[simp] theorem countSense_counter (s : State) : s.countSense.counter = s.counter := rfl
@[simp] theorem countSense_msTicks (s : State) : s.countSense.msTicks = s.msTicks := rfl
@[simp] theorem countSense_pending (s : State) : s.countSense.pending = s.pending := rfl
@[simp] theorem countSense_frequency (s : State) : s.countSense.vd.frequency = s.vd.frequency := rfl
@[simp] theorem countSense_senses (s : State) : s.countSense.vd.senses = s.vd.senses + 1 := rfl

/-! ### One record after an update of a record of the same kind -/

theorem setResolver_resolver (s : State) (p r : Phaser) (x : Resolver) :
    (s.setResolver p x).resolver r = if r = p then x else s.resolver r :=
  quad_get_set _ p r x

@[simp] theorem setResolver_resolver_self (s : State) (p : Phaser) (x : Resolver) : (s.setResolver p x).resolver p = x :=
  quad_get_set_self _ p x

theorem setPhaser_phaser (s : State) (p r : Phaser) (x : PhaserRec) :
    (s.setPhaser p x).phaser r = if r = p then x else s.phaser r :=
  quad_get_set _ p r x

@[simp] theorem setPhaser_phaser_self (s : State) (p : Phaser) (x : PhaserRec) : (s.setPhaser p x).phaser p = x :=
  quad_get_set_self _ p x

theorem setLoop_loop (s : State) (p r : Phaser) (x : Loop) :
    (s.setLoop p x).loop r = if r = p then x else s.loop r :=
  quad_get_set _ p r x

@[simp] theorem setLoop_loop_self (s : State) (p : Phaser) (x : Loop) : (s.setLoop p x).loop p = x :=
  quad_get_set_self _ p x

theorem setChannel_channel (s : State) (p r : Phaser) (x : Channel) :
    (s.setChannel p x).channel r = if r = p then x else s.channel r :=
  quad_get_set _ p r x

@[simp] theorem setChannel_channel_self (s : State) (p : Phaser) (x : Channel) : (s.setChannel p x).channel p = x :=
  quad_get_set_self _ p x

theorem setCam_cam (s : State) (p r : Phaser) (x : Cam) :
    (s.setCam p x).cam r = if r = p then x else s.cam r :=
  quad_get_set _ p r x

@[simp] theorem setCam_cam_self (s : State) (p : Phaser) (x : Cam) : (s.setCam p x).cam p = x :=
  quad_get_set_self _ p x

theorem setPhGroup_phGroup (s : State) (p r : Phaser) (x : PhGroup) :
    (s.setPhGroup p x).phGroup r = if r = p then x else s.phGroup r :=
  quad_get_set _ p r x

@[simp] theorem setPhGroup_phGroup_self (s : State) (p : Phaser) (x : PhGroup) : (s.setPhGroup p x).phGroup p = x :=
  quad_get_set_self _ p x

/-! ### One record after an update of another kind -/

@[simp] theorem setResolver_phaser_frame (s : State) (p : Phaser) (x : Resolver) (r : Phaser) :
    (s.setResolver p x).phaser r = s.phaser r := rfl
@[simp] theorem setResolver_loop_frame (s : State) (p : Phaser) (x : Resolver) (r : Phaser) :
    (s.setResolver p x).loop r = s.loop r := rfl
@[simp] theorem setResolver_channel_frame (s : State) (p : Phaser) (x : Resolver) (r : Phaser) :
    (s.setResolver p x).channel r = s.channel r := rfl
@[simp] theorem setResolver_cam_frame (s : State) (p : Phaser) (x : Resolver) (r : Phaser) :
    (s.setResolver p x).cam r = s.cam r := rfl
@[simp] theorem setResolver_phGroup_frame (s : State) (p : Phaser) (x : Resolver) (r : Phaser) :
    (s.setResolver p x).phGroup r = s.phGroup r := rfl

@[simp] theorem setPhaser_resolver_frame (s : State) (p : Phaser) (x : PhaserRec) (r : Phaser) :
    (s.setPhaser p x).resolver r = s.resolver r := rfl
@[simp] theorem setPhaser_loop_frame (s : State) (p : Phaser) (x : PhaserRec) (r : Phaser) :
    (s.setPhaser p x).loop r = s.loop r := rfl
@[simp] theorem setPhaser_channel_frame (s : State) (p : Phaser) (x : PhaserRec) (r : Phaser) :
    (s.setPhaser p x).channel r = s.channel r := rfl
@[simp] theorem setPhaser_cam_frame (s : State) (p : Phaser) (x : PhaserRec) (r : Phaser) :
    (s.setPhaser p x).cam r = s.cam r := rfl
@[simp] theorem setPhaser_phGroup_frame (s : State) (p : Phaser) (x : PhaserRec) (r : Phaser) :
    (s.setPhaser p x).phGroup r = s.phGroup r := rfl

@[simp] theorem setLoop_resolver_frame (s : State) (p : Phaser) (x : Loop) (r : Phaser) :
    (s.setLoop p x).resolver r = s.resolver r := rfl
@[simp] theorem setLoop_phaser_frame (s : State) (p : Phaser) (x : Loop) (r : Phaser) :
    (s.setLoop p x).phaser r = s.phaser r := rfl
@[simp] theorem setLoop_channel_frame (s : State) (p : Phaser) (x : Loop) (r : Phaser) :
    (s.setLoop p x).channel r = s.channel r := rfl
@[simp] theorem setLoop_cam_frame (s : State) (p : Phaser) (x : Loop) (r : Phaser) :
    (s.setLoop p x).cam r = s.cam r := rfl
@[simp] theorem setLoop_phGroup_frame (s : State) (p : Phaser) (x : Loop) (r : Phaser) :
    (s.setLoop p x).phGroup r = s.phGroup r := rfl

@[simp] theorem setChannel_resolver_frame (s : State) (p : Phaser) (x : Channel) (r : Phaser) :
    (s.setChannel p x).resolver r = s.resolver r := rfl
@[simp] theorem setChannel_phaser_frame (s : State) (p : Phaser) (x : Channel) (r : Phaser) :
    (s.setChannel p x).phaser r = s.phaser r := rfl
@[simp] theorem setChannel_loop_frame (s : State) (p : Phaser) (x : Channel) (r : Phaser) :
    (s.setChannel p x).loop r = s.loop r := rfl
@[simp] theorem setChannel_cam_frame (s : State) (p : Phaser) (x : Channel) (r : Phaser) :
    (s.setChannel p x).cam r = s.cam r := rfl
@[simp] theorem setChannel_phGroup_frame (s : State) (p : Phaser) (x : Channel) (r : Phaser) :
    (s.setChannel p x).phGroup r = s.phGroup r := rfl

@[simp] theorem setCam_resolver_frame (s : State) (c : Phaser) (x : Cam) (r : Phaser) :
    (s.setCam c x).resolver r = s.resolver r := rfl
@[simp] theorem setCam_phaser_frame (s : State) (c : Phaser) (x : Cam) (r : Phaser) :
    (s.setCam c x).phaser r = s.phaser r := rfl
@[simp] theorem setCam_loop_frame (s : State) (c : Phaser) (x : Cam) (r : Phaser) :
    (s.setCam c x).loop r = s.loop r := rfl
@[simp] theorem setCam_channel_frame (s : State) (c : Phaser) (x : Cam) (r : Phaser) :
    (s.setCam c x).channel r = s.channel r := rfl
@[simp] theorem setCam_phGroup_frame (s : State) (c : Phaser) (x : Cam) (r : Phaser) :
    (s.setCam c x).phGroup r = s.phGroup r := rfl

@[simp] theorem setPhGroup_resolver_frame (s : State) (p : Phaser) (x : PhGroup) (r : Phaser) :
    (s.setPhGroup p x).resolver r = s.resolver r := rfl
@[simp] theorem setPhGroup_phaser_frame (s : State) (p : Phaser) (x : PhGroup) (r : Phaser) :
    (s.setPhGroup p x).phaser r = s.phaser r := rfl
@[simp] theorem setPhGroup_loop_frame (s : State) (p : Phaser) (x : PhGroup) (r : Phaser) :
    (s.setPhGroup p x).loop r = s.loop r := rfl
@[simp] theorem setPhGroup_channel_frame (s : State) (p : Phaser) (x : PhGroup) (r : Phaser) :
    (s.setPhGroup p x).channel r = s.channel r := rfl
@[simp] theorem setPhGroup_cam_frame (s : State) (p : Phaser) (x : PhGroup) (r : Phaser) :
    (s.setPhGroup p x).cam r = s.cam r := rfl

@[simp] theorem setDev_resolver_frame (s : State) (x : DevGroup) (r : Phaser) :
    (s.setDev x).resolver r = s.resolver r := rfl
@[simp] theorem setDev_phaser_frame (s : State) (x : DevGroup) (r : Phaser) :
    (s.setDev x).phaser r = s.phaser r := rfl
@[simp] theorem setDev_loop_frame (s : State) (x : DevGroup) (r : Phaser) :
    (s.setDev x).loop r = s.loop r := rfl
@[simp] theorem setDev_channel_frame (s : State) (x : DevGroup) (r : Phaser) :
    (s.setDev x).channel r = s.channel r := rfl
@[simp] theorem setDev_cam_frame (s : State) (x : DevGroup) (r : Phaser) :
    (s.setDev x).cam r = s.cam r := rfl
@[simp] theorem setDev_phGroup_frame (s : State) (x : DevGroup) (r : Phaser) :
    (s.setDev x).phGroup r = s.phGroup r := rfl

@[simp] theorem setDecoder_resolver_frame (s : State) (x : Decoder) (r : Phaser) :
    (s.setDecoder x).resolver r = s.resolver r := rfl
@[simp] theorem setDecoder_phaser_frame (s : State) (x : Decoder) (r : Phaser) :
    (s.setDecoder x).phaser r = s.phaser r := rfl
@[simp] theorem setDecoder_loop_frame (s : State) (x : Decoder) (r : Phaser) :
    (s.setDecoder x).loop r = s.loop r := rfl
@[simp] theorem setDecoder_channel_frame (s : State) (x : Decoder) (r : Phaser) :
    (s.setDecoder x).channel r = s.channel r := rfl
@[simp] theorem setDecoder_cam_frame (s : State) (x : Decoder) (r : Phaser) :
    (s.setDecoder x).cam r = s.cam r := rfl
@[simp] theorem setDecoder_phGroup_frame (s : State) (x : Decoder) (r : Phaser) :
    (s.setDecoder x).phGroup r = s.phGroup r := rfl

@[simp] theorem setSlots_resolver_frame (s : State) (x : Slots) (r : Phaser) :
    (s.setSlots x).resolver r = s.resolver r := rfl
@[simp] theorem setSlots_phaser_frame (s : State) (x : Slots) (r : Phaser) :
    (s.setSlots x).phaser r = s.phaser r := rfl
@[simp] theorem setSlots_loop_frame (s : State) (x : Slots) (r : Phaser) :
    (s.setSlots x).loop r = s.loop r := rfl
@[simp] theorem setSlots_channel_frame (s : State) (x : Slots) (r : Phaser) :
    (s.setSlots x).channel r = s.channel r := rfl
@[simp] theorem setSlots_cam_frame (s : State) (x : Slots) (r : Phaser) :
    (s.setSlots x).cam r = s.cam r := rfl
@[simp] theorem setSlots_phGroup_frame (s : State) (x : Slots) (r : Phaser) :
    (s.setSlots x).phGroup r = s.phGroup r := rfl

@[simp] theorem setCommanded_resolver_frame (s : State) (p : Phaser) (d : Nat) (r : Phaser) :
    (s.setCommanded p d).resolver r = s.resolver r := rfl
@[simp] theorem setCommanded_phaser_frame (s : State) (p : Phaser) (d : Nat) (r : Phaser) :
    (s.setCommanded p d).phaser r = s.phaser r := rfl
@[simp] theorem setCommanded_loop_frame (s : State) (p : Phaser) (d : Nat) (r : Phaser) :
    (s.setCommanded p d).loop r = s.loop r := rfl
@[simp] theorem setCommanded_cam_frame (s : State) (p : Phaser) (d : Nat) (r : Phaser) :
    (s.setCommanded p d).cam r = s.cam r := rfl
@[simp] theorem setCommanded_phGroup_frame (s : State) (p : Phaser) (d : Nat) (r : Phaser) :
    (s.setCommanded p d).phGroup r = s.phGroup r := rfl

@[simp] theorem setSeqParams_resolver_frame (s : State) (x : SeqParams) (r : Phaser) :
    (s.setSeqParams x).resolver r = s.resolver r := rfl
@[simp] theorem setSeqParams_phaser_frame (s : State) (x : SeqParams) (r : Phaser) :
    (s.setSeqParams x).phaser r = s.phaser r := rfl
@[simp] theorem setSeqParams_loop_frame (s : State) (x : SeqParams) (r : Phaser) :
    (s.setSeqParams x).loop r = s.loop r := rfl
@[simp] theorem setSeqParams_channel_frame (s : State) (x : SeqParams) (r : Phaser) :
    (s.setSeqParams x).channel r = s.channel r := rfl
@[simp] theorem setSeqParams_cam_frame (s : State) (x : SeqParams) (r : Phaser) :
    (s.setSeqParams x).cam r = s.cam r := rfl
@[simp] theorem setSeqParams_phGroup_frame (s : State) (x : SeqParams) (r : Phaser) :
    (s.setSeqParams x).phGroup r = s.phGroup r := rfl

@[simp] theorem setLoopParams_resolver_frame (s : State) (p : Phaser) (x : LoopParams) (r : Phaser) :
    (s.setLoopParams p x).resolver r = s.resolver r := rfl
@[simp] theorem setLoopParams_phaser_frame (s : State) (p : Phaser) (x : LoopParams) (r : Phaser) :
    (s.setLoopParams p x).phaser r = s.phaser r := rfl
@[simp] theorem setLoopParams_channel_frame (s : State) (p : Phaser) (x : LoopParams) (r : Phaser) :
    (s.setLoopParams p x).channel r = s.channel r := rfl
@[simp] theorem setLoopParams_cam_frame (s : State) (p : Phaser) (x : LoopParams) (r : Phaser) :
    (s.setLoopParams p x).cam r = s.cam r := rfl
@[simp] theorem setLoopParams_phGroup_frame (s : State) (p : Phaser) (x : LoopParams) (r : Phaser) :
    (s.setLoopParams p x).phGroup r = s.phGroup r := rfl

@[simp] theorem drive_resolver_frame (s : State) (p : Phaser) (e : PhCond) (b : Bool) (r : Phaser) :
    (s.drive p e b).resolver r = s.resolver r := rfl
@[simp] theorem drive_phaser_frame (s : State) (p : Phaser) (e : PhCond) (b : Bool) (r : Phaser) :
    (s.drive p e b).phaser r = s.phaser r := rfl
@[simp] theorem drive_loop_frame (s : State) (p : Phaser) (e : PhCond) (b : Bool) (r : Phaser) :
    (s.drive p e b).loop r = s.loop r := rfl
@[simp] theorem drive_channel_frame (s : State) (p : Phaser) (e : PhCond) (b : Bool) (r : Phaser) :
    (s.drive p e b).channel r = s.channel r := rfl
@[simp] theorem drive_cam_frame (s : State) (p : Phaser) (e : PhCond) (b : Bool) (r : Phaser) :
    (s.drive p e b).cam r = s.cam r := rfl

@[simp] theorem put_resolver_frame (s : State) (p : Phaser) (e : PhCond) (b : Bool) (r : Phaser) :
    (s.put p e b).resolver r = s.resolver r := rfl
@[simp] theorem put_phaser_frame (s : State) (p : Phaser) (e : PhCond) (b : Bool) (r : Phaser) :
    (s.put p e b).phaser r = s.phaser r := rfl
@[simp] theorem put_loop_frame (s : State) (p : Phaser) (e : PhCond) (b : Bool) (r : Phaser) :
    (s.put p e b).loop r = s.loop r := rfl
@[simp] theorem put_channel_frame (s : State) (p : Phaser) (e : PhCond) (b : Bool) (r : Phaser) :
    (s.put p e b).channel r = s.channel r := rfl
@[simp] theorem put_cam_frame (s : State) (p : Phaser) (e : PhCond) (b : Bool) (r : Phaser) :
    (s.put p e b).cam r = s.cam r := rfl

@[simp] theorem driveDev_resolver_frame (s : State) (e : DevCond) (b : Bool) (r : Phaser) :
    (s.driveDev e b).resolver r = s.resolver r := rfl
@[simp] theorem driveDev_phaser_frame (s : State) (e : DevCond) (b : Bool) (r : Phaser) :
    (s.driveDev e b).phaser r = s.phaser r := rfl
@[simp] theorem driveDev_loop_frame (s : State) (e : DevCond) (b : Bool) (r : Phaser) :
    (s.driveDev e b).loop r = s.loop r := rfl
@[simp] theorem driveDev_channel_frame (s : State) (e : DevCond) (b : Bool) (r : Phaser) :
    (s.driveDev e b).channel r = s.channel r := rfl
@[simp] theorem driveDev_cam_frame (s : State) (e : DevCond) (b : Bool) (r : Phaser) :
    (s.driveDev e b).cam r = s.cam r := rfl
@[simp] theorem driveDev_phGroup_frame (s : State) (e : DevCond) (b : Bool) (r : Phaser) :
    (s.driveDev e b).phGroup r = s.phGroup r := rfl

@[simp] theorem latchExpired_resolver_frame (s : State) (p : Phaser) (h : Handle) (r : Phaser) :
    (s.latchExpired p h).resolver r = s.resolver r := rfl
@[simp] theorem latchExpired_phaser_frame (s : State) (p : Phaser) (h : Handle) (r : Phaser) :
    (s.latchExpired p h).phaser r = s.phaser r := rfl
@[simp] theorem latchExpired_loop_frame (s : State) (p : Phaser) (h : Handle) (r : Phaser) :
    (s.latchExpired p h).loop r = s.loop r := rfl
@[simp] theorem latchExpired_channel_frame (s : State) (p : Phaser) (h : Handle) (r : Phaser) :
    (s.latchExpired p h).channel r = s.channel r := rfl
@[simp] theorem latchExpired_cam_frame (s : State) (p : Phaser) (h : Handle) (r : Phaser) :
    (s.latchExpired p h).cam r = s.cam r := rfl

@[simp] theorem latchOverrun_resolver_frame (s : State) (p : Phaser) (r : Phaser) :
    (s.latchOverrun p).resolver r = s.resolver r := rfl
@[simp] theorem latchOverrun_phaser_frame (s : State) (p : Phaser) (r : Phaser) :
    (s.latchOverrun p).phaser r = s.phaser r := rfl
@[simp] theorem latchOverrun_loop_frame (s : State) (p : Phaser) (r : Phaser) :
    (s.latchOverrun p).loop r = s.loop r := rfl
@[simp] theorem latchOverrun_channel_frame (s : State) (p : Phaser) (r : Phaser) :
    (s.latchOverrun p).channel r = s.channel r := rfl
@[simp] theorem latchOverrun_cam_frame (s : State) (p : Phaser) (r : Phaser) :
    (s.latchOverrun p).cam r = s.cam r := rfl

@[simp] theorem latchReject_resolver_frame (s : State) (p : Phaser) (r : Phaser) :
    (s.latchReject p).resolver r = s.resolver r := rfl
@[simp] theorem latchReject_phaser_frame (s : State) (p : Phaser) (r : Phaser) :
    (s.latchReject p).phaser r = s.phaser r := rfl
@[simp] theorem latchReject_loop_frame (s : State) (p : Phaser) (r : Phaser) :
    (s.latchReject p).loop r = s.loop r := rfl
@[simp] theorem latchReject_channel_frame (s : State) (p : Phaser) (r : Phaser) :
    (s.latchReject p).channel r = s.channel r := rfl
@[simp] theorem latchReject_cam_frame (s : State) (p : Phaser) (r : Phaser) :
    (s.latchReject p).cam r = s.cam r := rfl

@[simp] theorem latchDoubt_resolver_frame (s : State) (r : Phaser) :
    (s.latchDoubt).resolver r = s.resolver r := rfl
@[simp] theorem latchDoubt_phaser_frame (s : State) (r : Phaser) :
    (s.latchDoubt).phaser r = s.phaser r := rfl
@[simp] theorem latchDoubt_loop_frame (s : State) (r : Phaser) :
    (s.latchDoubt).loop r = s.loop r := rfl
@[simp] theorem latchDoubt_channel_frame (s : State) (r : Phaser) :
    (s.latchDoubt).channel r = s.channel r := rfl
@[simp] theorem latchDoubt_cam_frame (s : State) (r : Phaser) :
    (s.latchDoubt).cam r = s.cam r := rfl
@[simp] theorem latchDoubt_phGroup_frame (s : State) (r : Phaser) :
    (s.latchDoubt).phGroup r = s.phGroup r := rfl

@[simp] theorem latchFrameError_resolver_frame (s : State) (st : Status) (r : Phaser) :
    (s.latchFrameError st).resolver r = s.resolver r := rfl
@[simp] theorem latchFrameError_phaser_frame (s : State) (st : Status) (r : Phaser) :
    (s.latchFrameError st).phaser r = s.phaser r := rfl
@[simp] theorem latchFrameError_loop_frame (s : State) (st : Status) (r : Phaser) :
    (s.latchFrameError st).loop r = s.loop r := rfl
@[simp] theorem latchFrameError_channel_frame (s : State) (st : Status) (r : Phaser) :
    (s.latchFrameError st).channel r = s.channel r := rfl
@[simp] theorem latchFrameError_cam_frame (s : State) (st : Status) (r : Phaser) :
    (s.latchFrameError st).cam r = s.cam r := rfl
@[simp] theorem latchFrameError_phGroup_frame (s : State) (st : Status) (r : Phaser) :
    (s.latchFrameError st).phGroup r = s.phGroup r := rfl

@[simp] theorem respond_resolver_frame (s : State) (c : Command) (snd : Sender) (a : Reply) (r : Phaser) :
    (s.respond c snd a).resolver r = s.resolver r := rfl
@[simp] theorem respond_phaser_frame (s : State) (c : Command) (snd : Sender) (a : Reply) (r : Phaser) :
    (s.respond c snd a).phaser r = s.phaser r := rfl
@[simp] theorem respond_loop_frame (s : State) (c : Command) (snd : Sender) (a : Reply) (r : Phaser) :
    (s.respond c snd a).loop r = s.loop r := rfl
@[simp] theorem respond_channel_frame (s : State) (c : Command) (snd : Sender) (a : Reply) (r : Phaser) :
    (s.respond c snd a).channel r = s.channel r := rfl
@[simp] theorem respond_cam_frame (s : State) (c : Command) (snd : Sender) (a : Reply) (r : Phaser) :
    (s.respond c snd a).cam r = s.cam r := rfl
@[simp] theorem respond_phGroup_frame (s : State) (c : Command) (snd : Sender) (a : Reply) (r : Phaser) :
    (s.respond c snd a).phGroup r = s.phGroup r := rfl

@[simp] theorem countSense_resolver (s : State) (r : Phaser) : s.countSense.resolver r = s.resolver r := rfl
@[simp] theorem countSense_phaser (s : State) (r : Phaser) : s.countSense.phaser r = s.phaser r := rfl
@[simp] theorem countSense_loop (s : State) (r : Phaser) : s.countSense.loop r = s.loop r := rfl
@[simp] theorem countSense_channel (s : State) (r : Phaser) : s.countSense.channel r = s.channel r := rfl
@[simp] theorem countSense_cam (s : State) (r : Phaser) : s.countSense.cam r = s.cam r := rfl
@[simp] theorem countSense_phGroup (s : State) (r : Phaser) : s.countSense.phGroup r = s.phGroup r := rfl

/-! ### Parts of a block that an update leaves -/

@[simp] theorem setPhaser_cond (s : State) (p : Phaser) (x : PhaserRec) : (s.setPhaser p x).ps.cond = s.ps.cond := rfl
@[simp] theorem setPhaser_params (s : State) (p : Phaser) (x : PhaserRec) :
    (s.setPhaser p x).ps.params = s.ps.params := rfl
@[simp] theorem setPhaser_departed (s : State) (p : Phaser) (x : PhaserRec) :
    (s.setPhaser p x).ps.departed = s.ps.departed := rfl
@[simp] theorem setPhGroup_dev (s : State) (p : Phaser) (x : PhGroup) : (s.setPhGroup p x).cm.dev = s.cm.dev := rfl
@[simp] theorem setChannel_senses (s : State) (p : Phaser) (x : Channel) : (s.setChannel p x).vd.senses = s.vd.senses := rfl
@[simp] theorem setChannel_frequency (s : State) (p : Phaser) (x : Channel) :
    (s.setChannel p x).vd.frequency = s.vd.frequency := rfl
@[simp] theorem setCam_margin (s : State) (p : Phaser) (x : Cam) : (s.setCam p x).ec.margin = s.ec.margin := rfl
@[simp] theorem setCam_lostCount (s : State) (p : Phaser) (x : Cam) :
    (s.setCam p x).ec.lostCount = s.ec.lostCount := rfl
@[simp] theorem setCam_bracket (s : State) (p : Phaser) (x : Cam) : (s.setCam p x).ec.bracket = s.ec.bracket := rfl
@[simp] theorem setSlots_slots (s : State) (x : Slots) : (s.setSlots x).rt.slots = x := rfl
@[simp] theorem setSlots_front (s : State) (x : Slots) : (s.setSlots x).rt.front = s.rt.front := rfl
@[simp] theorem setSlots_rear (s : State) (x : Slots) : (s.setSlots x).rt.rear = s.rt.rear := rfl
@[simp] theorem drive_dev (s : State) (p : Phaser) (e : PhCond) (b : Bool) : (s.drive p e b).cm.dev = s.cm.dev := rfl

theorem setCommanded_channel (s : State) (p r : Phaser) (d : Nat) :
    (s.setCommanded p d).channel r = if r = p then { s.channel p with commanded := d } else s.channel r :=
  setChannel_channel _ _ _ _

theorem setLoopParams_loop (s : State) (p r : Phaser) (x : LoopParams) :
    (s.setLoopParams p x).loop r = if r = p then { s.loop p with params := x } else s.loop r :=
  setLoop_loop _ _ _ _

/-! ### The status of the conditions (R163, R164) -/

theorem cond_drive_declared (c : Cond) (b : Bool) : (c.drive b).declared = b := by
  unfold Cond.drive
  split
  · assumption
  · rfl

theorem phConds_get_set (c : PhConds) (e f : PhCond) (x : Cond) : (c.set e x).get f = if f = e then x else c.get f := by
  cases e <;> cases f <;> rfl

/-- The status of every condition of every phaser after one was declared or cleared. -/
theorem drive_stands (s : State) (p r : Phaser) (e f : PhCond) (b : Bool) :
    (s.drive p e b).stands r f = if r = p ∧ f = e then b else s.stands r f := by
  unfold State.drive State.stands
  rw [setPhGroup_phGroup]
  by_cases hr : r = p
  · subst hr
    rw [if_pos rfl, phConds_get_set]
    by_cases hf : f = e
    · subst hf
      rw [if_pos rfl, if_pos ⟨rfl, rfl⟩, cond_drive_declared]
    · rw [if_neg hf, if_neg (fun h => hf h.2)]
  · rw [if_neg hr, if_neg (fun h => hr h.1)]

/-- Updates of the other blocks leave every condition. -/
theorem stands_congr {s t : State} (h : t.cm = s.cm) (p : Phaser) (e : PhCond) : t.stands p e = s.stands p e := by
  unfold State.stands State.phGroup
  rw [h]

@[simp] theorem setResolver_stands (s : State) (p : Phaser) (x : Resolver) (r : Phaser) (e : PhCond) :
    (s.setResolver p x).stands r e = s.stands r e := rfl
@[simp] theorem setPhaser_stands (s : State) (p : Phaser) (x : PhaserRec) (r : Phaser) (e : PhCond) :
    (s.setPhaser p x).stands r e = s.stands r e := rfl
@[simp] theorem setLoop_stands (s : State) (p : Phaser) (x : Loop) (r : Phaser) (e : PhCond) :
    (s.setLoop p x).stands r e = s.stands r e := rfl
@[simp] theorem setChannel_stands (s : State) (p : Phaser) (x : Channel) (r : Phaser) (e : PhCond) :
    (s.setChannel p x).stands r e = s.stands r e := rfl
@[simp] theorem setCam_stands (s : State) (c : Phaser) (x : Cam) (r : Phaser) (e : PhCond) :
    (s.setCam c x).stands r e = s.stands r e := rfl
@[simp] theorem setDecoder_stands (s : State) (x : Decoder) (r : Phaser) (e : PhCond) :
    (s.setDecoder x).stands r e = s.stands r e := rfl
@[simp] theorem setSlots_stands (s : State) (x : Slots) (r : Phaser) (e : PhCond) :
    (s.setSlots x).stands r e = s.stands r e := rfl
@[simp] theorem setCommanded_stands (s : State) (p : Phaser) (d : Nat) (r : Phaser) (e : PhCond) :
    (s.setCommanded p d).stands r e = s.stands r e := rfl
@[simp] theorem setSeqParams_stands (s : State) (x : SeqParams) (r : Phaser) (e : PhCond) :
    (s.setSeqParams x).stands r e = s.stands r e := rfl
@[simp] theorem setLoopParams_stands (s : State) (p : Phaser) (x : LoopParams) (r : Phaser) (e : PhCond) :
    (s.setLoopParams p x).stands r e = s.stands r e := rfl
@[simp] theorem respond_stands (s : State) (c : Command) (snd : Sender) (a : Reply) (r : Phaser) (e : PhCond) :
    (s.respond c snd a).stands r e = s.stands r e := rfl
@[simp] theorem countSense_stands (s : State) (r : Phaser) (e : PhCond) : s.countSense.stands r e = s.stands r e := rfl

end Sys2Proof.Machine
end

