-- ==== Sys2Proof/Laws/Frames.lean ====
section
/-! SUPPORT. What the Sequencer's operations leave unchanged, said once: a move of one phaser acts on that phaser's record, its
loop record, its commanded duty and its conditions, and on nothing else. -/

namespace Sys2Proof.Machine

open Sys2Proof

theorem SeqFrame.refl (s : State) : SeqFrame s s := ⟨rfl, rfl, rfl, rfl, rfl, rfl, rfl, rfl, rfl, rfl, rfl, rfl, rfl⟩

theorem SeqFrame.trans {s t u : State} (a : SeqFrame s t) (b : SeqFrame t u) : SeqFrame s u :=
  ⟨b.rt.trans a.rt, b.tr.trans a.tr, b.ad.trans a.ad, b.ec.trans a.ec, b.fp.trans a.fp, b.counter.trans a.counter,
   b.msTicks.trans a.msTicks, b.pending.trans a.pending, b.cond.trans a.cond, b.params.trans a.params,
   b.departed.trans a.departed, b.dev.trans a.dev, b.frequency.trans a.frequency⟩

theorem SeqLocal.refl (p : Phaser) (s : State) : SeqLocal p s s :=
  ⟨.refl s, fun _ _ => rfl, fun _ _ => rfl, fun _ _ => rfl, fun _ _ => rfl⟩

theorem SeqLocal.trans {p : Phaser} {s t u : State} (a : SeqLocal p s t) (b : SeqLocal p t u) : SeqLocal p s u :=
  ⟨a.frame.trans b.frame, fun q h => (b.phaser q h).trans (a.phaser q h), fun q h => (b.loop q h).trans (a.loop q h),
   fun q h => (b.channel q h).trans (a.channel q h), fun q h => (b.phGroup q h).trans (a.phGroup q h)⟩

/-! ### The primitive updates -/

theorem local_setPhaser (p : Phaser) (x : PhaserRec) (s : State) : SeqLocal p s (s.setPhaser p x) :=
  ⟨⟨rfl, rfl, rfl, rfl, rfl, rfl, rfl, rfl, rfl, rfl, rfl, rfl, rfl⟩,
   fun q h => by rw [setPhaser_phaser, if_neg h], fun _ _ => rfl, fun _ _ => rfl, fun _ _ => rfl⟩

theorem local_setLoop (p : Phaser) (x : Loop) (s : State) : SeqLocal p s (s.setLoop p x) :=
  ⟨⟨rfl, rfl, rfl, rfl, rfl, rfl, rfl, rfl, rfl, rfl, rfl, rfl, rfl⟩,
   fun _ _ => rfl, fun q h => by rw [setLoop_loop, if_neg h], fun _ _ => rfl, fun _ _ => rfl⟩

theorem local_setChannel (p : Phaser) (x : Channel) (s : State) : SeqLocal p s (s.setChannel p x) :=
  ⟨⟨rfl, rfl, rfl, rfl, rfl, rfl, rfl, rfl, rfl, rfl, rfl, rfl, rfl⟩,
   fun _ _ => rfl, fun _ _ => rfl, fun q h => by rw [setChannel_channel, if_neg h], fun _ _ => rfl⟩

theorem local_setCommanded (p : Phaser) (d : Nat) (s : State) : SeqLocal p s (s.setCommanded p d) :=
  local_setChannel p _ s

theorem local_drive (p : Phaser) (e : PhCond) (b : Bool) (s : State) : SeqLocal p s (s.drive p e b) :=
  ⟨⟨rfl, rfl, rfl, rfl, rfl, rfl, rfl, rfl, rfl, rfl, rfl, rfl, rfl⟩,
   fun _ _ => rfl, fun _ _ => rfl, fun _ _ => rfl,
   fun q h => by unfold State.drive; rw [setPhGroup_phGroup, if_neg h]⟩

/-! ### The operations of the Sequencer -/

theorem local_updateHeld (p : Phaser) (s : State) : SeqLocal p s (updateHeld p s) :=
  (local_setPhaser p _ s).trans (local_drive p _ _ _)

theorem local_leaveState (p : Phaser) (s : State) : SeqLocal p s (leaveState p s) := by
  unfold leaveState
  split
  · exact ((local_setLoop p _ s).trans (local_setPhaser p _ _)).trans (local_drive p _ _ _)
  · exact local_setLoop p _ s
  · exact .refl p s

theorem local_moveTo (p : Phaser) (st : PhaserState) (timer : Option Nat) (s : State) :
    SeqLocal p s (moveTo p st timer s) :=
  ((local_leaveState p s).trans (local_setPhaser p _ _)).trans (local_setCommanded p _ _)

theorem local_moveToTracking (p : Phaser) (s : State) : SeqLocal p s (moveToTracking p s) :=
  (((local_moveTo p _ _ s).trans (local_setPhaser p _ _)).trans (local_setLoop p _ _)).trans (local_setCommanded p _ _)

theorem local_faultEntry (p : Phaser) (c : CauseSet) (s : State) : SeqLocal p s (faultEntry p c s) :=
  ((local_moveTo p _ _ s).trans (local_setPhaser p _ _)).trans (local_drive p _ _ _)

theorem local_addCause (p : Phaser) (c : CauseSet) (s : State) : SeqLocal p s (addCause p c s) := local_setPhaser p _ s

theorem local_declareTrackErr (p : Phaser) (s : State) : SeqLocal p s (declareTrackErr p s) := by
  unfold declareTrackErr
  split
  · exact (local_setPhaser p _ s).trans (local_drive p _ _ _)
  · exact .refl p s

theorem local_overBandEvent (p : Phaser) (s : State) : SeqLocal p s (overBandEvent p s) := by
  unfold overBandEvent
  split
  · split
    · exact ((local_declareTrackErr p s).trans (local_faultEntry p _ _)).trans (local_updateHeld p _)
    · exact local_declareTrackErr p s
  · exact .refl p s

theorem local_faultStanding (p : Phaser) (s : State) : SeqLocal p s (faultStanding p s) := by
  unfold faultStanding
  split
  · exact .refl p s
  · exact .refl p s
  · split
    · exact .refl p s
    · exact local_faultEntry p _ s

theorem local_enterStopped (p : Phaser) (s : State) : SeqLocal p s (enterStopped p s) :=
  (local_moveTo p _ _ s).trans (local_faultStanding p _)

theorem local_enterReleasing (p : Phaser) (s : State) : SeqLocal p s (enterReleasing p s) :=
  (local_moveTo p _ _ s).trans (local_faultStanding p _)

theorem local_enterTracking (p : Phaser) (s : State) : SeqLocal p s (enterTracking p s) :=
  (local_moveToTracking p s).trans (local_faultStanding p _)

theorem local_enterLatching (p : Phaser) (s : State) : SeqLocal p s (enterLatching p s) :=
  (local_moveTo p _ _ s).trans (local_faultStanding p _)

theorem local_checkParked (p : Phaser) (s : State) : SeqLocal p s (checkParked p s) := by
  unfold checkParked
  split
  · exact local_enterReleasing p s
  · exact .refl p s

theorem local_checkReturning (p : Phaser) (s : State) : SeqLocal p s (checkReturning p s) := by
  unfold checkReturning
  split
  · exact local_enterTracking p s
  · exact .refl p s

theorem local_enterParked (p : Phaser) (s : State) : SeqLocal p s (enterParked p s) :=
  ((local_moveTo p _ _ s).trans (local_faultStanding p _)).trans (local_checkParked p _)

theorem local_enterReturning (p : Phaser) (s : State) : SeqLocal p s (enterReturning p s) :=
  ((local_moveTo p _ _ s).trans (local_faultStanding p _)).trans (local_checkReturning p _)

theorem local_evaluateNow (p : Phaser) (s : State) : SeqLocal p s (evaluateNow p s) := by
  unfold evaluateNow
  refine SeqLocal.trans ?_ (local_updateHeld p _)
  split
  · exact local_checkParked p s
  · exact local_checkReturning p s
  · split
    · exact local_enterReturning p s
    · exact .refl p s
  · split
    · exact local_enterReturning p s
    · exact .refl p s
  · exact .refl p s

theorem local_evaluate (p : Phaser) (s : State) : SeqLocal p s (evaluate p s) :=
  (local_overBandEvent p s).trans (local_evaluateNow p _)

theorem frame_evaluateAll (s : State) : SeqFrame s (evaluateAll s) :=
  (((local_evaluate .fi s).frame.trans (local_evaluate .fe _).frame).trans (local_evaluate .ri _).frame).trans
    (local_evaluate .re _).frame

theorem local_measured (p : Phaser) (phase : Int) (s : State) : SeqLocal p s (measured p phase s) := by
  unfold measured
  split
  · refine SeqLocal.trans ?_ (local_updateHeld p _)
    split
    · exact local_enterParked p s
    · exact local_enterReturning p s
  · refine SeqLocal.trans ?_ (local_updateHeld p _)
    split
    · exact local_enterTracking p s
    · split
      · exact local_enterLatching p s
      · exact .refl p s
  · exact .refl p s

theorem local_targetHandled (p : Phaser) (was : Target) (s : State) : SeqLocal p s (targetHandled p was s) := by
  unfold targetHandled
  split
  · exact (local_enterReturning p s).trans (local_updateHeld p _)
  · exact (local_enterReturning p s).trans (local_updateHeld p _)
  · exact .refl p s
  · exact .refl p s
  · split
    · exact .refl p s
    · split
      · exact local_evaluateNow p s
      · exact local_updateHeld p s

theorem local_camLostDeclared (p : Phaser) (s : State) : SeqLocal p s (camLostDeclared p s) := by
  unfold camLostDeclared
  refine ((local_overBandEvent p s).trans (local_drive p .camLost true _)).trans ?_
  dsimp only
  split
  · exact (local_faultEntry p _ _).trans (local_updateHeld p _)
  · exact (local_faultEntry p _ _).trans (local_updateHeld p _)
  · exact (local_faultEntry p _ _).trans (local_updateHeld p _)
  · exact local_addCause p _ _
  · exact .refl p _

theorem local_stopPhaser (p : Phaser) (s : State) : SeqLocal p s (stopPhaser p s) := by
  unfold stopPhaser
  refine (local_overBandEvent p s).trans ?_
  dsimp only
  split
  · exact .refl p _
  · exact .refl p _
  · exact .refl p _
  · exact (local_enterStopped p _).trans (local_updateHeld p _)

theorem local_disable (p : Phaser) (s : State) : SeqLocal p s (disable p s) := by
  unfold disable
  split
  · exact .refl p s
  · exact (((((local_overBandEvent p s).trans (local_moveTo p _ _ _)).trans (local_setPhaser p _ _)).trans (local_updateHeld p _)).trans
      (local_drive p _ _ _)).trans (local_setChannel p _ _)

theorem local_enable (p : Phaser) (s : State) : SeqLocal p s (enable p s) := by
  unfold enable
  split
  · exact (((local_setPhaser p _ s).trans (local_setChannel p _ _)).trans (local_enterStopped p _)).trans
      (local_updateHeld p _)
  · exact .refl p s

theorem local_clearShort (p : Phaser) (s : State) : SeqLocal p s (clearShort p s) :=
  ((local_drive p _ _ s).trans (local_setChannel p _ _)).trans (local_setPhaser p _ _)

theorem local_clearFaulted (p : Phaser) (s : State) : SeqLocal p s (clearFaulted p s) := by
  have key : ∀ t, SeqLocal p s t →
      SeqLocal p s (updateHeld p (if t.ad.sync = .cycleSync then enterReturning p t else enterStopped p t)) := by
    intro t h
    refine (h.trans ?_).trans (local_updateHeld p _)
    split
    · exact local_enterReturning p t
    · exact local_enterStopped p t
  exact key _ (((local_setPhaser p _ s).trans (local_drive p _ _ _)).trans (local_clearShort p _))

theorem local_takeDriverFault (p : Phaser) (d : DriverCause) (s : State) : SeqLocal p s (takeDriverFault p d s) := by
  unfold takeDriverFault
  split
  · have key : ∀ t, SeqLocal p s t → SeqLocal p s (match (t.phaser p).state with
        | .off => t
        | .faulted => addCause p (driverCause d) t
        | _ => updateHeld p (faultEntry p (driverCause d) t)) := by
      intro t h
      refine h.trans ?_
      split
      · exact .refl p t
      · exact local_addCause p _ t
      · exact (local_faultEntry p _ t).trans (local_updateHeld p _)
    exact key _ ((local_setPhaser p _ s).trans (local_overBandEvent p _))
  · exact .refl p s

theorem local_endRelease (p : Phaser) (s : State) : SeqLocal p s (endRelease p s) := by
  unfold endRelease
  split
  · exact (local_enterTracking p s).trans (local_evaluateNow p _)
  · exact .refl p s

theorem local_endReturn (p : Phaser) (s : State) : SeqLocal p s (endReturn p s) := by
  unfold endReturn
  split
  · exact (local_faultEntry p _ s).trans (local_updateHeld p _)
  · exact .refl p s

theorem local_endLatch (p : Phaser) (s : State) : SeqLocal p s (endLatch p s) := by
  unfold endLatch
  split
  · exact (local_enterParked p s).trans (local_updateHeld p _)
  · exact .refl p s

theorem local_takeTimers (p : Phaser) (s : State) : SeqLocal p s (takeTimers p s) :=
  ((local_endRelease p s).trans (local_endReturn p _)).trans ((local_endLatch p _).trans (local_overBandEvent p _))

theorem local_supervise (p : Phaser) (error : Int) (s : State) : SeqLocal p s (supervise p error s) := by
  unfold supervise
  split
  · exact local_setPhaser p _ s
  · exact (local_setPhaser p _ s).trans (local_drive p _ _ _)

theorem local_stepOn (p : Phaser) (phase : Int) (s : State) : SeqLocal p s (stepOn p phase s) := by
  unfold stepOn
  split
  · exact ((local_setLoop p _ s).trans (local_setCommanded p _ _)).trans (local_supervise p _ _)
  · exact .refl p s

theorem local_takeOldest (p : Phaser) (s : State) : SeqLocal p s (takeOldest p s) := by
  unfold takeOldest
  split
  · exact .refl p s
  · exact (local_setLoop p _ s).trans (local_stepOn p _ _)

theorem local_takeDelivered (p : Phaser) (s : State) : SeqLocal p s (takeDelivered p s) := by
  unfold takeDelivered
  split
  · exact .refl p s
  · exact (local_overBandEvent p s).trans (local_takeOldest p _)

theorem local_deliverLoop (p : Phaser) (phase : Int) (s : State) : SeqLocal p s (deliverLoop p phase s) := by
  unfold deliverLoop
  split
  · exact local_setLoop p _ s
  · exact .refl p s

theorem local_deliver (p : Phaser) (phase : Int) (s : State) : SeqLocal p s (deliver p phase s) :=
  ((local_overBandEvent p s).trans (local_deliverLoop p phase _)).trans (local_measured p phase _)

/-! ### The Valve Drivers -/

theorem local_declareDriver (p : Phaser) (d : DriverCause) (s : State) : SeqLocal p s (declareDriver p d s) := by
  unfold declareDriver
  split
  · exact .refl p s
  · exact ((local_drive p _ _ s).trans (local_setChannel p _ _)).trans (local_setPhaser p _ _)

theorem local_clearDriver (p : Phaser) (d : DriverCause) (s : State) : SeqLocal p s (clearDriver p d s) :=
  local_drive p _ _ s

theorem local_followHold (p : Phaser) (s : State) : SeqLocal p s (followHold p s) := by
  unfold followHold
  split
  · exact .refl p s
  · split
    · exact local_declareDriver p _ s
    · exact local_clearDriver p _ s

theorem local_periodStartAt (p : Phaser) (s : State) : SeqLocal p s (periodStartAt p s) := by
  unfold periodStartAt
  split
  · exact (local_followHold p s).trans (local_setChannel p _ _)
  · exact .refl p s

theorem local_countSense (p : Phaser) (s : State) : SeqLocal p s s.countSense :=
  ⟨⟨rfl, rfl, rfl, rfl, rfl, rfl, rfl, rfl, rfl, rfl, rfl, rfl, rfl⟩, fun _ _ => rfl, fun _ _ => rfl, fun _ _ => rfl,
   fun _ _ => rfl⟩

theorem local_judgeShort (p : Phaser) (s : State) : SeqLocal p s (judgeShort p s) := by
  unfold judgeShort
  dsimp only
  split
  · exact (local_setChannel p _ s).trans (local_declareDriver p _ _)
  · exact local_setChannel p _ s

theorem local_judgeOpen (p : Phaser) (seen : Bool) (s : State) : SeqLocal p s (judgeOpen p seen s) := by
  unfold judgeOpen
  split
  · have key : ∀ t, SeqLocal p s t → SeqLocal p s (if seen then
          (if (t.channel p).openPass = 4 then clearDriver p .drvOpen t else t)
        else if (t.channel p).openFail = 4 then declareDriver p .drvOpen t else t) := by
      intro t h
      refine h.trans ?_
      split
      · split
        · exact local_clearDriver p _ t
        · exact .refl p t
      · split
        · exact local_declareDriver p _ t
        · exact .refl p t
    exact key _ (local_setChannel p _ s)
  · exact .refl p s

theorem local_periodEndAt (p : Phaser) (seen : Bool) (s : State) : SeqLocal p s (periodEndAt p seen s) := by
  unfold periodEndAt
  split
  · have key : ∀ t, SeqLocal p s t →
        SeqLocal p s (if (t.channel p).suspended then t else judgeShort p (judgeOpen p seen t)) := by
      intro t h
      refine h.trans ?_
      split
      · exact .refl p t
      · exact (local_judgeOpen p seen t).trans (local_judgeShort p _)
    exact (key _ ((local_setChannel p _ s).trans (local_countSense p _))).trans (local_setChannel p _ _)
  · exact .refl p s

theorem local_overcurrentAt (p : Phaser) (s : State) : SeqLocal p s (overcurrentAt p s) := by
  unfold overcurrentAt
  split
  · exact (local_periodStartAt p s).trans (local_setChannel p _ _)
  · exact .refl p s

/-! ### The departure, the report and the freshness timer -/

/-- What the handling of a departure leaves as it was: all that `SeqFrame` names but the owed departure. -/
theorem frame_handleDeparture (s : State) :
    ∃ t, SeqFrame s t ∧ handleDeparture s = { t with ps := { t.ps with departed := false } } := by
  unfold handleDeparture
  split
  · exact ⟨_, (((local_stopPhaser .fi s).frame.trans (local_stopPhaser .fe _).frame).trans
      (local_stopPhaser .ri _).frame).trans (local_stopPhaser .re _).frame, rfl⟩
  · refine ⟨s, .refl s, ?_⟩
    have h : s.ps.departed = false := by simpa using ‹¬s.ps.departed = true›
    rw [← h]

end Sys2Proof.Machine
end

