-- ==== Sys2Proof/Laws/Ops.lean ====
section
/-! SUPPORT. What each shared operation can do, said once: the answering of a command, the slots of the table, and the moves
of the Sequencer. -/

namespace Sys2Proof.Machine

open Sys2Proof

/-! ### Answering a command (R176 to R179) -/

@[simp] theorem respond_fp (s : State) (c : Command) (snd : Sender) (r : Reply) :
    (s.respond c snd r).fp = { s.fp with slot := some ⟨r.status, c.code, snd.byte, r.payload⟩, work := none } := rfl

/-- A command that is taken is answered by its owner. -/
theorem takeCommand_taken {i : Instr} {snd : Sender} {s : State} (c : Command) (owner : State → State × Reply)
    (h : taken i snd s) : takeCommand i c snd owner s = (owner s).1.respond c snd (owner s).2 := by
  unfold takeCommand
  rw [if_pos h.1, if_pos h.2]

/-- A command while another one is in hand is ignored. -/
theorem takeCommand_ignored {i j : Instr} {snd : Sender} {s : State} (c : Command) (owner : State → State × Reply)
    (h : s.fp.work = some j) (hj : j ≠ i) : takeCommand i c snd owner s = s := by
  unfold takeCommand
  rw [if_neg]
  rintro (h' | h')
  · rw [h] at h'
    cases h'
  · rw [h] at h'
    exact hj (Option.some.inj h')

/-- A command with an issuer class outside 1 to 5 never reaches its owner. -/
theorem takeCommand_badIssuer {i : Instr} {snd : Sender} {s : State} (c : Command) (owner : State → State × Reply)
    (h : s.fp.work = none ∨ s.fp.work = some i) (hv : snd.valid = false) :
    takeCommand i c snd owner s = rejectFrame s .badFrame c.code snd.byte := by
  unfold takeCommand
  rw [if_pos h, if_neg]
  rw [hv]
  exact Bool.false_ne_true

/-- All that taking a command can do. -/
theorem takeCommand_cases (i : Instr) (c : Command) (snd : Sender) (owner : State → State × Reply) (s : State) :
    takeCommand i c snd owner s = s ∨
    takeCommand i c snd owner s = rejectFrame s .badFrame c.code snd.byte ∧ snd.valid = false ∨
    takeCommand i c snd owner s = (owner s).1.respond c snd (owner s).2 ∧ taken i snd s := by
  by_cases h : s.fp.work = none ∨ s.fp.work = some i
  · cases hv : snd.valid with
    | true => exact .inr (.inr ⟨takeCommand_taken c owner ⟨h, hv⟩, h, hv⟩)
    | false => exact .inr (.inl ⟨takeCommand_badIssuer c owner h hv, rfl⟩)
  · left
    unfold takeCommand
    rw [if_neg h]

/-! ### The slots of the table -/

theorem slots_get_set (t : Slots) (i j : Fin 24) (x : Slot) : (t.set i x).get j = if j = i then x else t.get j := by
  unfold Slots.set Slots.get
  simp only [List.getElem_set]
  by_cases h : j = i
  · subst h
    simp
  · rw [if_neg h, if_neg]
    intro hv
    exact h (Fin.ext hv.symm)

@[simp] theorem slots_get_set_self (t : Slots) (i : Fin 24) (x : Slot) : (t.set i x).get i = x := by
  rw [slots_get_set, if_pos rfl]

@[simp] theorem slots_get_map (t : Slots) (f : Slot → Slot) (i : Fin 24) : (t.map f).get i = f (t.get i) := by
  unfold Slots.map Slots.get
  simp

@[simp] theorem slots_get_empty (i : Fin 24) : Slots.empty.get i = ⟨0#4, none⟩ := by
  unfold Slots.empty Slots.get
  exact List.getElem_replicate _

theorem slots_ext {t u : Slots} (h : ∀ i, t.get i = u.get i) : t = u := by
  obtain ⟨a, ha⟩ := t
  obtain ⟨b, hb⟩ := u
  have : a = b := by
    apply List.ext_getElem (by rw [ha, hb])
    intro n h1 h2
    exact h ⟨n, by rw [← ha]; exact h1⟩
  subst this
  rfl

/-- The search of the table answers a slot whose record passes the test, and none only where no record does. -/
theorem findRecord_some {t : Slots} {f : Record → Bool} {i : Fin 24} (h : t.findRecord f = some i) :
    ∃ r, (t.get i).record = some r ∧ f r = true := by
  have := List.find?_some h
  simpa [Option.any_eq_true] using this

theorem findRecord_none {t : Slots} {f : Record → Bool} (h : t.findRecord f = none) (i : Fin 24) (r : Record)
    (hr : (t.get i).record = some r) : f r = false := by
  have := List.find?_eq_none.mp h i (List.mem_finRange i)
  rw [hr] at this
  simpa using this

/-- The search for a FREE slot answers the lowest one. -/
theorem findFree_some {t : Slots} {i : Fin 24} (h : t.findFree = some i) :
    (t.get i).record = none ∧ ∀ j, j < i → (t.get j).record ≠ none := by
  unfold Slots.findFree slotNumbers at h
  rw [List.find?_eq_some_iff_getElem] at h
  obtain ⟨hp, n, hn, he, hlt⟩ := h
  refine ⟨by simpa using hp, ?_⟩
  intro j hj
  have hi : n = i.val := by
    have := congrArg Fin.val he
    simpa using this
  have := hlt j.val (by rw [hi]; exact hj)
  intro hn
  simp [hn] at this

theorem findFree_none {t : Slots} (h : t.findFree = none) (i : Fin 24) : (t.get i).record ≠ none := by
  have := List.find?_eq_none.mp h i (List.mem_finRange i)
  simpa using this

/-- A handle that resolves names a slot that holds the record, with the slot's generation (R3). -/
theorem resolve_ok {t : Slots} {h : Handle} {i : Fin 24} {r : Record} (hr : t.resolve h = .ok (i, r)) :
    h.slot.toNat = i.val ∧ (t.get i).record = some r ∧ (t.get i).gen = h.gen := by
  unfold Slots.resolve at hr
  split at hr
  · rename_i hs
    dsimp only at hr
    split at hr
    · cases hr
    · rename_i q hq
      split at hr
      · rename_i hg
        cases hr
        exact ⟨rfl, hq, hg⟩
      · cases hr
  · cases hr

/-! ### The moves of the Sequencer -/

@[simp] theorem leaveState_state (p : Phaser) (s : State) : ((leaveState p s).phaser p).state = (s.phaser p).state := by
  unfold leaveState
  split <;> simp

/-- The state a move enters and the timer it starts. -/
theorem moveTo_phaser (p : Phaser) (st : PhaserState) (timer : Option Nat) (s : State) :
    ((moveTo p st timer s).phaser p).state = st ∧ ((moveTo p st timer s).phaser p).timer = timer := by
  unfold moveTo
  simp

/-- The duty a move commands (R105). -/
theorem moveTo_commanded (p : Phaser) (st : PhaserState) (timer : Option Nat) (s : State) :
    ((moveTo p st timer s).channel p).commanded = s.stateDuty st := by
  unfold moveTo
  have h : (leaveState p s).ps.params = s.ps.params := (local_leaveState p s).frame.params
  simp only [setCommanded_channel, if_true]
  cases st <;> simp [State.stateDuty, h]

end Sys2Proof.Machine
end

