-- ==== Sys2Proof/Laws/Sequencer.lean ====
section
/-! SUPPORT. What each move of the Sequencer does to the phaser it moves, said once: the phaser record, the loop record, the
channel and the conditions. -/

namespace Sys2Proof.Machine

open Sys2Proof

/-! ### Leaving a state (R118, R143) -/

/-- The over-band time runs in TRACKING only. -/
theorem leaveState_phaser (p : Phaser) (s : State) :
    (leaveState p s).phaser p =
      if (s.phaser p).state = .tracking then
        { s.phaser p with overBand := none, trackDue := false, faultDue := false }
      else s.phaser p := by
  unfold leaveState
  cases h : (s.phaser p).state <;> simp

/-- A departure from RELEASING or TRACKING reaches the loop record. -/
theorem leaveState_loop (p : Phaser) (s : State) :
    (leaveState p s).loop p =
      if (s.phaser p).state = .tracking ∨ (s.phaser p).state = .releasing then (s.loop p).departed else s.loop p := by
  unfold leaveState
  cases h : (s.phaser p).state <;> simp

@[simp] theorem leaveState_channel (p : Phaser) (s : State) : (leaveState p s).channel p = s.channel p := by
  unfold leaveState
  split <;> simp

/-- TRACK_ERR is cleared on leaving TRACKING; no other condition moves. -/
theorem leaveState_stands (p : Phaser) (s : State) (e : PhCond) :
    (leaveState p s).stands p e =
      if (s.phaser p).state = .tracking ∧ e = .trackErr then false else s.stands p e := by
  unfold leaveState
  cases h : (s.phaser p).state <;> simp [drive_stands]

/-! ### Moves (R104, R105) -/

theorem moveTo_record (p : Phaser) (st : PhaserState) (timer : Option Nat) (s : State) :
    (moveTo p st timer s).phaser p =
      if (s.phaser p).state = .tracking then
        { s.phaser p with state := st, timer := timer, overBand := none, trackDue := false, faultDue := false }
      else { s.phaser p with state := st, timer := timer } := by
  unfold moveTo
  simp only [setCommanded_phaser_frame, setPhaser_phaser_self, leaveState_phaser]
  split <;> rfl

theorem moveTo_loop (p : Phaser) (st : PhaserState) (timer : Option Nat) (s : State) :
    (moveTo p st timer s).loop p =
      if (s.phaser p).state = .tracking ∨ (s.phaser p).state = .releasing then (s.loop p).departed else s.loop p := by
  unfold moveTo
  simp [leaveState_loop]

theorem moveTo_channel (p : Phaser) (st : PhaserState) (timer : Option Nat) (s : State) :
    (moveTo p st timer s).channel p = { s.channel p with commanded := s.stateDuty st } := by
  have h : (leaveState p s).ps.params = s.ps.params := (local_leaveState p s).frame.params
  unfold moveTo
  cases st <;> simp [setCommanded_channel, State.stateDuty, h]

theorem moveTo_stands (p : Phaser) (st : PhaserState) (timer : Option Nat) (s : State) (e : PhCond) :
    (moveTo p st timer s).stands p e =
      if (s.phaser p).state = .tracking ∧ e = .trackErr then false else s.stands p e := by
  unfold moveTo
  simp [leaveState_stands]

/-! ### What a frame gives to the readings of the whole state -/

theorem SeqFrame.numeric {s t : State} (h : SeqFrame s t) (p : Phaser) : t.numeric p = s.numeric p := by
  unfold State.numeric State.resolver
  rw [h.tr]

theorem SeqFrame.failing {s t : State} (h : SeqFrame s t) : t.failing = s.failing := by
  unfold State.failing State.oilCounts
  rw [h.cond, h.params, h.ad]

theorem SeqFrame.permission {s t : State} (h : SeqFrame s t) : t.permission = s.permission := by
  unfold State.permission
  rw [h.failing, h.ad]

theorem SeqFrame.withdrawn {s t : State} (h : SeqFrame s t) : t.withdrawn = s.withdrawn := by
  unfold State.withdrawn State.oilCounts
  rw [h.cond, h.params, h.ad]

theorem SeqFrame.resolver {s t : State} (h : SeqFrame s t) (p : Phaser) : t.resolver p = s.resolver p := by
  unfold State.resolver
  rw [h.tr]

theorem SeqFrame.cam {s t : State} (h : SeqFrame s t) (p : Phaser) : t.cam p = s.cam p := by
  unfold State.cam
  rw [h.ec]

/-- Conditions of another phaser are left by a local operation. -/
theorem SeqLocal.stands {p : Phaser} {s t : State} (h : SeqLocal p s t) {q : Phaser} (hq : q ≠ p) (e : PhCond) :
    t.stands q e = s.stands q e := by
  unfold State.stands
  rw [h.phGroup q hq]

/-! ### The end of every transition (R110) -/

@[simp] theorem updateHeld_loop (p r : Phaser) (s : State) : (updateHeld p s).loop r = s.loop r := rfl

@[simp] theorem updateHeld_channel (p r : Phaser) (s : State) : (updateHeld p s).channel r = s.channel r := rfl

theorem updateHeld_phaser (p : Phaser) (s : State) :
    (updateHeld p s).phaser p = { s.phaser p with held := if s.holds p then s.failing else HeldCauses.empty } := by
  unfold updateHeld
  simp

theorem updateHeld_stands (p : Phaser) (s : State) (e : PhCond) :
    (updateHeld p s).stands p e = if e = .releaseHeld then s.holds p else s.stands p e := by
  unfold updateHeld
  rw [drive_stands]
  simp

/-! ### Fault entry (R119) -/

theorem faultEntry_phaser (p : Phaser) (c : CauseSet) (s : State) :
    (faultEntry p c s).phaser p =
      { (moveTo p .faulted none s).phaser p with causes := c.union (s.standing p (s.phaser p).state) } := by
  unfold faultEntry
  simp

@[simp] theorem faultEntry_loop (p : Phaser) (c : CauseSet) (s : State) :
    (faultEntry p c s).loop p = (moveTo p .faulted none s).loop p := by
  unfold faultEntry
  simp

@[simp] theorem faultEntry_channel (p : Phaser) (c : CauseSet) (s : State) :
    (faultEntry p c s).channel p = { s.channel p with commanded := 0 } := by
  unfold faultEntry
  simp [moveTo_channel, State.stateDuty]

theorem faultEntry_stands (p : Phaser) (c : CauseSet) (s : State) (e : PhCond) :
    (faultEntry p c s).stands p e =
      if e = .faulted then true
      else if (s.phaser p).state = .tracking ∧ e = .trackErr then false else s.stands p e := by
  unfold faultEntry
  rw [drive_stands]
  simp [moveTo_stands]

/-- With nothing standing that faults the phaser, the check on entry leaves the state as it was. -/
theorem faultStanding_none {p : Phaser} {s : State} (h : s.standing p (s.phaser p).state = CauseSet.empty) :
    faultStanding p s = s := by
  unfold faultStanding
  split <;> first | rfl | simp [h]

/-- Nothing stands that faults a phaser in any state. -/
theorem standing_none {p : Phaser} {s : State} (st : PhaserState) (hc : s.stands p .camLost = false)
    (ho : s.stands p .drvOpen = false) (hs : s.stands p .drvShort = false) (hh : s.stands p .drvHot = false) :
    s.standing p st = CauseSet.empty := by
  unfold State.standing
  rw [hc, ho, hs, hh]
  rfl

/-- An unfaulted phaser is one on which none of the four conditions stands. -/
theorem unfaulted_iff (s : State) (p : Phaser) :
    s.unfaulted p = true ↔ s.stands p .camLost = false ∧ s.stands p .drvOpen = false ∧ s.stands p .drvShort = false ∧
      s.stands p .drvHot = false := by
  unfold State.unfaulted
  simp [and_assoc]

theorem standing_unfaulted {p : Phaser} {s : State} (st : PhaserState) (h : s.unfaulted p = true) :
    s.standing p st = CauseSet.empty := by
  obtain ⟨a, b, c, d⟩ := (unfaulted_iff s p).mp h
  exact standing_none st a b c d

/-! ### The over-band events (R115, R127) -/

theorem declareTrackErr_none {p : Phaser} {s : State} (h : (s.phaser p).trackDue = false) : declareTrackErr p s = s := by
  unfold declareTrackErr
  simp [h]

/-- Outside TRACKING no over-band event is taken. -/
theorem overBandEvent_other {p : Phaser} {s : State} (h : (s.phaser p).state ≠ .tracking) : overBandEvent p s = s := by
  unfold overBandEvent
  rw [if_neg h]

/-- Below the fault time, only TRACK_ERR can be declared. -/
theorem overBandEvent_track {p : Phaser} {s : State} (h : (s.phaser p).state = .tracking)
    (hf : (s.phaser p).faultDue = false) : overBandEvent p s = declareTrackErr p s := by
  unfold overBandEvent
  simp [h, hf]

/-- At the fault time the phaser is FAULTED. -/
theorem overBandEvent_fault {p : Phaser} {s : State} (h : (s.phaser p).state = .tracking)
    (hf : (s.phaser p).faultDue = true) :
    overBandEvent p s = updateHeld p (faultEntry p { CauseSet.empty with trackErr := true } (declareTrackErr p s)) := by
  unfold overBandEvent
  simp [h, hf]

/-- With no over-band event waiting the state is left. -/
theorem overBandEvent_none {p : Phaser} {s : State} (ht : (s.phaser p).trackDue = false)
    (hf : (s.phaser p).faultDue = false) : overBandEvent p s = s := by
  by_cases h : (s.phaser p).state = .tracking
  · rw [overBandEvent_track h hf, declareTrackErr_none ht]
  · exact overBandEvent_other h

theorem declareTrackErr_phaser (p : Phaser) (s : State) :
    (declareTrackErr p s).phaser p = { s.phaser p with trackDue := false } := by
  unfold declareTrackErr
  split
  · simp
  · rename_i h
    have h' : (s.phaser p).trackDue = false := by simpa using h
    rw [← h']

@[simp] theorem declareTrackErr_loop (p r : Phaser) (s : State) : (declareTrackErr p s).loop r = s.loop r := by
  unfold declareTrackErr
  split <;> simp

@[simp] theorem declareTrackErr_channel (p r : Phaser) (s : State) : (declareTrackErr p s).channel r = s.channel r := by
  unfold declareTrackErr
  split <;> simp

/-- Only TRACK_ERR moves, and only to declared. -/
theorem declareTrackErr_stands (p : Phaser) (s : State) (e : PhCond) :
    (declareTrackErr p s).stands p e = if (s.phaser p).trackDue = true ∧ e = .trackErr then true else s.stands p e := by
  unfold declareTrackErr
  split
  · rename_i h
    rw [drive_stands]
    simp [h]
  · rename_i h
    simp [h]

/-- The state and the loop record of a phaser after its over-band events. -/
theorem overBandEvent_state (p : Phaser) (s : State) :
    ((overBandEvent p s).phaser p).state =
      if (s.phaser p).state = .tracking ∧ (s.phaser p).faultDue = true then .faulted else (s.phaser p).state := by
  by_cases h : (s.phaser p).state = .tracking
  · cases hf : (s.phaser p).faultDue
    · rw [overBandEvent_track h hf, declareTrackErr_phaser]
      simp
    · rw [overBandEvent_fault h hf, updateHeld_phaser, faultEntry_phaser]
      simp [moveTo_phaser, h]
  · rw [overBandEvent_other h]
    simp [h]

theorem overBandEvent_loop (p : Phaser) (s : State) :
    (overBandEvent p s).loop p =
      if (s.phaser p).state = .tracking ∧ (s.phaser p).faultDue = true then (s.loop p).departed else s.loop p := by
  by_cases h : (s.phaser p).state = .tracking
  · cases hf : (s.phaser p).faultDue
    · rw [overBandEvent_track h hf]
      simp
    · rw [overBandEvent_fault h hf]
      simp [moveTo_loop, declareTrackErr_phaser, h]
  · rw [overBandEvent_other h]
    simp [h]

end Sys2Proof.Machine
end

