-- ==== Sys2Proof/Tests/Slice0.lean ====
section
/-! SUPPORT. The part's own tests: the smoke test of well-formedness, the worked examples of the manual, and for every
statement with hypotheses a concrete state and operands that meet them. -/

namespace Sys2Proof.Tests

open Sys2Proof Sys2Proof.Machine

-- The theorems below are evaluated by the kernel; one at a time keeps the checker's memory small.
set_option Elab.async false

/-! ### Helpers -/

/-- A sender of class SERVICE with tag 0. -/
def host : Sender := ⟨5#4, 0#4⟩

/-- A READY port takes a command of a valid issuer. -/
theorem ready {i : Instr} {s : State} (h : s.fp.work = none) : taken i host s := ⟨.inl h, by decide⟩

/-- The state after a command. -/
def after (i : Instr) (s : State) : State :=
  match exec i s with
  | .next t => t
  | _ => s

/-- The reset state with one record in one slot, of generation 1. -/
def withRecord (i : Fin 24) (r : Record) : State := State.reset.setSlots (Slots.empty.set i ⟨1#4, some r⟩)

/-- A live BASE setpoint of FI at 320, slew 200, with a keep-alive interval of 50 ms. -/
def live : Record := ⟨⟨.fi, .base, .setpoint⟩, .live (.setpoint (.au 320) 200 false 5), some 50⟩

/-- The reset state with FI in a state of the Sequencer. -/
def inState (st : PhaserState) (timer : Option Nat) : State :=
  State.reset.setPhaser .fi { PhaserRec.reset with state := st, timer := timer, enable := st != .off }

/-- The decoder in CYCLE_SYNC at tooth 13 of the first half, at 6,000 rpm. -/
def turning : Decoder :=
  ⟨.cycleSync, some 1000000#24, some 3333, some 13, some .first, 1, 0, 6000, some 200, 24, 2, false, .fi, 200, 4320, false⟩

/-- A state in CYCLE_SYNC with the decoder `turning`, its conditions and its bracketing tooth. -/
def synced (s : State) : State :=
  let s := (s.setDecoder turning).setDev { s.cm.dev with cycleSync := .standing, engineStopped := .clear }
  { s with ec := { s.ec with bracket := some ⟨1000000#24, 3120⟩ } }

/-- A state with a numeric effective target for FI. -/
def targeted (s : State) (v : Int) : State :=
  s.setResolver .fi { s.resolver .fi with record := ⟨.au v, .setpoint ⟨0#5, 1#4⟩, [], [], false, false⟩ }

/-- A state with a fresh report: oil OK, 80 degrees, 12,000 mV. -/
def reported (s : State) : State := { s with ps := { s.ps with cond := ⟨true, 80, 12000, true, some 250⟩ } }

/-! ### Well-formed commands -/

theorem test_wellFormed_issuer_zero_refused : (Instr.nop ⟨0#4, 1#4⟩).wellFormed = false := by decide +kernel

theorem test_wellFormed_issuer_six_refused : (Instr.apply ⟨6#4, 1#4⟩ 3#8).wellFormed = false := by decide +kernel

/-- Identifier 0x10 is FI's Amin, which has a row of its own. -/
theorem test_wellFormed_setParam_own_row_refused :
    (Instr.setParam host 0x10#8 (.ofHalf 0#16)).wellFormed = false := by decide +kernel

theorem test_wellFormed_accepts :
    (Instr.setParam host 0x24#8 (.ofHalf 0#16)).wellFormed = true ∧ (Instr.setParam host 0x7F#8 (.ofHalf 0#16)).wellFormed = true ∧
    Instr.timeBaseAdvance.wellFormed = true ∧ (Instr.nop host).wellFormed = true := by decide +kernel

/-! ### The manual's worked examples -/

/-- 10, Worked sequence: the NOP of class 1 and tag 0 is the frame 0x01 0x10 0x00. -/
theorem test_frame_of_nop :
    checkFrame [0x01#8, 0x10#8, 0x00#8] = .good (.nop ⟨1#4, 0#4⟩) ∧
    checkFrame [0x01#8, 0x10#8, 0x01#8] = .bad .badFrame := by decide +kernel

/-- 10.8: a POST of class TRANSIENT written out byte by byte: FI, TRANSIENT, SETPOINT, 240, slew 2,000, no, 5. -/
theorem test_payload_of_post :
    decodePayload .post ⟨3#4, 1#4⟩ [0#8, 3#8, 0#8, 0x00#8, 0xF0#8, 0x07#8, 0xD0#8, 0#8, 5#8] =
      some (.post ⟨3#4, 1#4⟩ ⟨0#8, 3#8, 0#8⟩ ⟨240#16, 2000#16, 0#8, 5#8⟩) := by decide +kernel

/-- 10, Worked sequence, transaction 2: the first POST after power-on is answered with handle 0/1 and slew 2,000. -/
theorem test_first_post :
    (after (.post ⟨3#4, 1#4⟩ ⟨0#8, 3#8, 0#8⟩ ⟨240#16, 2000#16, 0#8, 5#8⟩) State.reset).fp.slot =
      some ⟨.ok, 0x02#8, 0x31#8, [0#8, 1#8, 0x07#8, 0xD0#8]⟩ := by decide +kernel

/-- 01, Worked sequence, time 1: a slew of 5,000 is stored as 4,000. -/
theorem test_slew_is_clamped :
    readContent .setpoint ⟨BitVec.ofInt 16 (-320), 5000#16, 0#8, 5#8⟩ = some (.setpoint (.au (-320)) 4000 false 5) := by decide +kernel

/-- 01, Worked sequence, time 60: a CHANGE of the target alone is answered with TARGET and RENEWED. -/
theorem test_change_names_target_and_renewed :
    changedFields ⟨⟨.fi, .transient, .setpoint⟩, .live (.setpoint (.au 240) 2000 false 5), some 25⟩
      (.setpoint (.au 320) 2000 false 5) = 0x0101#16 := by decide +kernel

/-- 03, Worked sequence, step A: 560 with +48 and +160 gives 768, and the limits take it to 640. -/
theorem test_composition_step_A :
    addTrims 560 [(.mode, ⟨12#5, 1#4⟩, .trim 48 0), (.transient, ⟨13#5, 1#4⟩, .trim 160 0)] = 768 ∧
    applyLimits 768 [(.mode, ⟨14#5, 1#4⟩, .limit 0 900 0), (.protect, ⟨15#5, 1#4⟩, .limit (-160) 640 0)] = (640, true) := by
  decide +kernel

/-- R56: 5,000 with +2,000 and then −1,000 gives 5,759 and then 4,759. -/
theorem test_trims_saturate_in_order :
    addTrims 5000 [(.base, ⟨0#5, 1#4⟩, .trim 2000 0), (.mode, ⟨1#5, 1#4⟩, .trim (-1000) 0)] = 4759 := by decide +kernel

/-- 04, Worked sequence: cranking at 250 rpm, a normal period is 80,000 ticks. -/
theorem test_speed_while_cranking : speedOf 24 80000 = 250 ∧ speedOf 24 3333 = 6000 := by decide +kernel

/-- CRANK_SYNC at the last tooth of a revolution with 2 edges of the sync cam counted. -/
def cranking : Decoder :=
  let d := { Decoder.reset with sync := .crankSync, prevTooth := some 0#24, lastNormal := some 80000 }
  { d with toothIndex := some 21, edgeCount := 2 }

/-- 04, Worked sequence: at 90 ms the gap of 240,000 ticks moves SEEKING to CRANK_SYNC; at 330 ms a count of n1 = 2 moves
CRANK_SYNC to CYCLE_SYNC in the second half. -/
theorem test_gaps_while_cranking :
    ({ Decoder.reset with sync := .seeking, prevTooth := some 0#24, lastNormal := some 80000 }.tooth 240000#24 2 1).sync =
      .crankSync ∧
    (cranking.tooth 240000#24 2 1).sync = .cycleSync ∧ (cranking.tooth 240000#24 2 1).half = some .second := by decide +kernel

/-- 05, Worked conversions: the FI edge is placed at 3,192 and gives a phase of 8; the RI edge in the gap is placed at 5,160,
and one at the gap tooth's own time at 5,759. -/
theorem test_edges_are_placed :
    placeEdge ⟨1000000#24, 3120⟩ 1003333#24 240 1001000#24 = 3192 ∧
    associate [960, 3200, 6720] 3192 (-320) 1120 = some (1, 8) ∧
    placeEdge ⟨2000000#24, 5040⟩ 2009999#24 720 2001667#24 = 5160 ∧
    placeEdge ⟨2000000#24, 5040⟩ 2009999#24 720 2009999#24 = 5759 := by decide +kernel

/-- 05, Worked conversions: the RE edge at 11,400 fits no tooth. -/
theorem test_edge_across_the_cycle_is_rejected : associate [6720, 480] 11400 (-1120) 320 = none := by decide +kernel

/-- 07, Worked step: the loop record and the duty. -/
theorem test_worked_step :
    loopStep { Loop.fresh 320 with ramp := 400, integrator := 51200, stepAge := some 3, lastStep := some 0#24 }
      480 20 12000 24000#24 430 =
    ({ Loop.fresh 320 with ramp := 460, integrator := 51425, stepAge := some 0, lastStep := some 24000#24, output := 5239 },
     5894) := by decide +kernel

/-- 07, Worked sequence: the rear exhaust's first step after a slow entry. -/
theorem test_worked_slow_entry :
    loopStep { Loop.fresh 280 with ramp := -30, stepAge := some 17, lastStep := some 0#24 } (-640) 30 13500 160000#24 (-32) =
    ({ Loop.fresh 280 with ramp := -510, integrator := -19120, stepAge := some 0, lastStep := some 160000#24, output := 4402 },
     4402) := by decide +kernel

/-- 07, Worked sequence: the integrator held at the upper limit, and SAT UPPER. -/
theorem test_worked_upper_limit :
    integrate (Loop.fresh 320).params (proportional 320 2000) 2000 500 640000 = 640000 ∧
    loopOutput (Loop.fresh 320).params (5000 + 2500 + 2500) = (9500, .upper) ∧
    integrate (Loop.fresh 320).params (proportional 320 (-40)) (-40) (increment 40 (-40) 2000) 640000 = 639800 := by decide +kernel

/-- 07, Limits of the arithmetic: the battery's corners. -/
theorem test_battery_compensation :
    compensate 9500 8000 = 10000 ∧ compensate 9500 18000 = 7125 ∧ compensate 9500 6000 = 10000 := by decide +kernel

/-- R150, R151: stored frequencies, a period length and an on-time. -/
theorem test_pwm_numbers :
    storedFrequency 255 = 260 ∧ storedFrequency 1500 = 1000 ∧ periodLength 330 = 24242 ∧ onTime 5894 32000 = 18861 := by decide +kernel

/-! ### Witnesses: the queue, the whole set, resets -/

/-- The reset state with every output within a period. -/
def quiet : State := { State.reset with vd := ⟨250, State.reset.vd.channels.map fun c => { c with running := true, start := 0#24 }, 0⟩ }

theorem witness_EmptyQueueTakesOwedEventOrTick :
    (State.reset.pending = [] ∧ State.reset.owed = [.periodStart .fi]) ∧
    (quiet.pending = [] ∧ quiet.owed = [] ∧ quiet.msTicks + 1 < 8000) ∧
    (let s := { quiet with msTicks := 7999 }
     s.pending = [] ∧ s.owed = [] ∧ 8000 ≤ s.msTicks + 1) := by decide +kernel

/-- R150: a period that begins at tick 0 is over at tick 32,000, and the next one begins there. -/
theorem test_periods_follow_without_pause :
    (let s := { quiet with counter := 32000#24 }
     s.owed.head? = some (.periodEnd .fi (Config.loadSensed 0)) ∧
      (after (.periodEnd .fi true) s).owed.head? = some (.periodStart .fi) ∧
      ((after (.periodStart .fi) (after (.periodEnd .fi true) s)).channel .fi).start = 32000#24) ∧
    (after (.periodEnd .fi true) { quiet with counter := 31999#24 }) = { quiet with counter := 31999#24 } := by
  refine ⟨⟨rfl, ?_, ?_⟩, ?_⟩ <;> decide +kernel

theorem witness_EveryCommandCompletesAndKeepsTheQueue :
    (let s := { State.reset with fp := { Port.reset with work := some (Instr.list host) } }
     (Instr.nop host).sender = some host ∧ s.fp.work = some (.list host) ∧ Instr.list host ≠ .nop host) ∧
    (let snd : Sender := ⟨6#4, 0#4⟩
     (Instr.nop snd).sender = some snd ∧ State.reset.fp.work = none ∧ snd.valid = false ∧
      encodeFrame (.nop snd) = some (0x01#8 :: [0x60#8, crc8 [0x01#8, 0x60#8]])) := by decide +kernel

theorem witness_SoftResetActsBlockByBlock : taken (.resetDevice host) host State.reset := ready rfl

/-! ### Witnesses: the Frame Port -/

/-- The reset state with the port in a given shape. -/
def port (t : Transaction) (slot : Option Response) (work : Option Instr) : State :=
  { State.reset with fp := ⟨t, slot, work⟩ }

theorem witness_TransactionEdgesFollowReadiness :
    (let s := port .idle (some notReady) none
     s.fp.transaction = .idle ∧ s.fp.work = none ∧ s.fp.slot = some notReady) ∧
    (State.reset.fp.transaction = .idle ∧ State.reset.fp.work = none ∧ State.reset.fp.slot = none) ∧
    (let s := port .idle none (some (.list host))
     s.fp.transaction = .idle ∧ s.fp.work = some (.list host)) ∧
    (port .abandoned none none).fp.transaction ≠ .idle ∧
    (let bits := (List.replicate 7 false ++ [true]) ++ [false, false, false, true] ++ List.replicate 12 false
     (port (.active true notReady) none none).fp.transaction = .active true notReady ∧
      checkFrame (bytesOfBits bits) = .good (.nop ⟨1#4, 0#4⟩)) ∧
    ((port (.active true notReady) none none).fp.transaction = .active true notReady ∧
      checkFrame (bytesOfBits []) = .bad .badFrame) ∧
    (port (.active false notReady) none none).fp.transaction = .active false notReady ∧
    (port .abandoned none none).fp.transaction = .abandoned := by decide +kernel

/-- One frame for each of R178's checks 2 to 5, and one that passes. -/
theorem witness_FrameChecksDecideInOrder :
    (∀ c ∈ Command.all, c.code ≠ 0xFF#8) ∧
    (Command.nop.code = 0x01#8 ∧ [0x01#8, 0x10#8].length < Command.nop.payloadLength + 3) ∧
    (Command.nop.payloadLength + 3 ≤ [0x01#8, 0x10#8, 0x01#8].length ∧
      [0x01#8, 0x10#8, 0x01#8][Command.nop.payloadLength + 2]? ≠ some (crc8 [0x01#8, 0x10#8])) ∧
    (let snd : Sender := ⟨6#4, 0#4⟩
     (mkFrame .nop snd [])[Command.nop.payloadLength + 2]? = some (crc8 ((mkFrame .nop snd []).take 2)) ∧
      (Sender.ofByte ((mkFrame .nop snd []).getD 1 0#8)).valid = false) ∧
    ([0x01#8, 0x10#8, 0x00#8][Command.nop.payloadLength + 2]? = some (crc8 [0x01#8, 0x10#8]) ∧
      (Sender.ofByte 0x10#8).valid = true) := by decide +kernel

theorem witness_FrameDecodeUndoesEncode :
    (Instr.nop ⟨1#4, 0#4⟩).wellFormed = true ∧
    encodeFrame (.nop ⟨1#4, 0#4⟩) = some [0x01#8, 0x10#8, 0x00#8] := by decide +kernel

theorem witness_NopIsAnsweredOkAndResponsesAreFramed :
    taken (.nop host) host State.reset ∧ (Response.mk .ok 0x01#8 0x10#8 []).payload.length < 256 := ⟨ready rfl, by decide⟩

/-! ### Witnesses: the Request Table -/

/-- Each content at the ends of its ranges is read. -/
theorem witness_KeyAndContentFieldsAreChecked :
    readContent .setpoint ⟨0x8000#16, 4001#16, 1#8, 255#8⟩ = some (.setpoint .park 4000 true 255) ∧
    readContent .setpoint ⟨BitVec.ofInt 16 (-5760), 0#16, 0#8, 0#8⟩ = some (.setpoint (.au (-5760)) 0 false 0) ∧
    readContent .trim ⟨2047#16, 9#16, 9#8, 0#8⟩ = some (.trim 2047 0) ∧
    readContent .limit ⟨BitVec.ofInt 16 (-5760), 5759#16, 0#8, 1#8⟩ = some (.limit (-5760) 5759 1) := by decide +kernel

/-- A slot of the full table: 20 TRIMs and 4 LIMITs, all POSTED. -/
def fullSlot (i : Fin 24) : Slot :=
  let p := Phaser.list.getD (i.val % 4) .fi
  let c := Cls.ascending.getD (i.val / 4 % 5) .base
  if i.val < 20 then ⟨1#4, some ⟨⟨p, c, .trim⟩, .posted (.trim 0 0), none⟩⟩
  else ⟨1#4, some ⟨⟨p, c, .limit⟩, .posted (.limit 0 1 0), none⟩⟩

/-- The reset state with every slot taken. -/
def full : State := State.reset.setSlots ⟨(List.finRange 24).map fullSlot, by simp⟩

theorem full_get (i : Fin 24) : full.rt.slots.get i = fullSlot i := by
  unfold full Slots.get
  simp

/-- A record that is LIVE or POSTED with a lawful content is lawful. -/
theorem posted_lawful (k : Key) (c : Content) (hc : c.inRange) (hk : c.kind = k.kind) :
    (Record.mk k (.posted c) none).contentsOk ∧ (Record.mk k (.posted c) none).deadlineOk := by
  refine ⟨?_, rfl⟩
  rintro d (h | h) <;> cases h
  exact ⟨hc, hk⟩

theorem live_lawful : live.contentsOk ∧ live.deadlineOk := by
  refine ⟨?_, ⟨50, rfl, by decide⟩⟩
  rintro d (h | h) <;> cases h
  exact ⟨⟨by decide, by decide, by decide, by decide⟩, rfl⟩

theorem full_law : TableLaw full := by
  have shape : ∀ i r, (full.rt.slots.get i).record = some r →
      ∃ k c, r = ⟨k, .posted c, none⟩ ∧ c.inRange ∧ c.kind = k.kind := by
    intro i r h
    rw [full_get] at h
    unfold fullSlot at h
    dsimp only at h
    split at h <;> cases h
    · exact ⟨_, _, rfl, ⟨by decide, by decide, by decide⟩, rfl⟩
    · exact ⟨_, _, rfl, ⟨by decide, by decide, by decide, by decide⟩, rfl⟩
  refine ⟨?_, ?_⟩
  · intro i r h
    obtain ⟨k, c, rfl, hc, hk⟩ := shape i r h
    exact posted_lawful k c hc hk
  · intro i j r q hr hq hk
    have key : ∀ i j : Fin 24, (fullSlot i).record.map (fun r => r.key) = (fullSlot j).record.map (fun r => r.key) → i = j := by
      decide +kernel
    apply key
    rw [← full_get, ← full_get, hr, hq]
    exact congrArg some hk

theorem one_law (i : Fin 24) (r : Record) (h : r.contentsOk ∧ r.deadlineOk) : TableLaw (withRecord i r) := by
  have get : ∀ j q, ((withRecord i r).rt.slots.get j).record = some q → j = i ∧ q = r := by
    intro j q hq
    unfold withRecord at hq
    rw [setSlots_slots, slots_get_set] at hq
    split at hq
    · exact ⟨by assumption, (Option.some.inj hq).symm⟩
    · rw [slots_get_empty] at hq
      cases hq
  refine ⟨?_, ?_⟩
  · intro j q hq
    rw [(get j q hq).2]
    exact h
  · intro j k q u hq hu _
    rw [(get j q hq).1, (get k u hu).1]

theorem witness_PostAllocatesASlotOrIsRefused :
    (let key : KeyField := ⟨0#8, 1#8, 0#8⟩
     let cf : ContentField := ⟨320#16, 200#16, 0#8, 5#8⟩
     taken (.post host key cf) host State.reset ∧ readKey key = some ⟨.fi, .base, .setpoint⟩ ∧
      Cls.rank .base ≤ host.rank.toNat ∧ readContent .setpoint cf = some (.setpoint (.au 320) 200 false 5) ∧
      (∀ j, (State.reset.rt.slots.get j).record = none)) ∧
    readKey ⟨4#8, 1#8, 0#8⟩ = none ∧
    (readKey ⟨0#8, 5#8, 0#8⟩ = some ⟨.fi, .service, .setpoint⟩ ∧ (4#4).toNat < Cls.rank .service) ∧
    readContent .setpoint ⟨5760#16, 0#16, 0#8, 0#8⟩ = none ∧
    (TableLaw (withRecord 3 live) ∧ ((withRecord 3 live).rt.slots.get 3).record = some live) ∧
    (TableLaw full ∧ readKey ⟨0#8, 1#8, 0#8⟩ = some ⟨.fi, .base, .setpoint⟩ ∧
      (∀ i, (full.rt.slots.get i).record ≠ none) ∧
      ∀ i, (full.rt.slots.get i).record.all fun r => r.key != ⟨.fi, .base, .setpoint⟩) := by
  refine ⟨⟨ready rfl, by decide, by decide, by decide, fun j => by rw [show State.reset.rt.slots = Slots.empty from rfl, slots_get_empty]⟩,
    by decide, by decide, by decide, ⟨one_law 3 live live_lawful, ?_⟩, full_law, by decide, ?_, ?_⟩
  · unfold withRecord
    simp
  · intro i
    rw [full_get]
    revert i
    decide +kernel
  · intro i
    rw [full_get]
    revert i
    decide +kernel

theorem witness_ChangeWritesAndNamesEachAlteration :
    (withRecord 0 live).fp.work = none ∧
    (withRecord 0 live).rt.slots.resolve ⟨0#5, 1#4⟩ = .ok (0, live) ∧ (0#8).toNat = live.key.kind.code ∧
    readContent .setpoint ⟨400#16, 200#16, 0#8, 5#8⟩ = some (.setpoint (.au 400) 200 false 5) ∧
    live.key.cls.rank ≤ host.rank.toNat ∧
    (let r : Record := { live with key := ⟨.fi, .service, .setpoint⟩ }
     (withRecord 0 r).rt.slots.resolve ⟨0#5, 1#4⟩ = .ok (0, r) ∧ (4#4).toNat < r.key.cls.rank) ∧
    (1#8).toNat ≠ live.key.kind.code ∧ readContent .setpoint ⟨400#16, 200#16, 2#8, 5#8⟩ = none ∧
    (∃ t s f k, Content.setpoint (.au 400) 200 false 5 = .setpoint t s f k) := by
  refine ⟨rfl, by decide +kernel, by decide, by decide, by decide, by decide +kernel, by decide, by decide, _, _, _, _, rfl⟩

theorem witness_HandlesThatNameNoRecordAreRefused :
    (24 ≤ (24#5).toNat ∧ taken (.renew host ⟨24#5, 1#4⟩) host State.reset) ∧
    ((withRecord 0 live).rt.slots.get 0).gen ≠ 2#4 ∧ ((withRecord 0 live).rt.slots.get 1).record = none ∧
    (withRecord 0 live).fp.work = none := by
  exact ⟨⟨by decide, ready rfl⟩, by decide +kernel, by decide +kernel, rfl⟩

theorem witness_RetireAndRenewActOnTheNamedRecord :
    (∀ l ∈ [Life.posted (.trim 1 0), .live (.trim 1 0), .changed (.trim 1 0) (.trim 2 0), .retiring (.trim 1 0)],
      (withRecord 0 ⟨⟨.fi, .base, .trim⟩, l, none⟩).rt.slots.resolve ⟨0#5, 1#4⟩ =
        .ok (0, ⟨⟨.fi, .base, .trim⟩, l, none⟩)) ∧
    Cls.rank .base ≤ host.rank.toNat ∧ (4#4).toNat < Cls.rank .service ∧
    ((withRecord 0 live).rt.slots.resolve ⟨0#5, 1#4⟩ = .ok (0, live) ∧ live.deadline = some 50 ∧
      live.life.active = some (.setpoint (.au 320) 200 false 5) ∧ 1 ≤ (Content.setpoint (.au 320) 200 false 5).keepAlive) := by
  decide +kernel

theorem witness_RenewClassRestartsEveryDeadlineOfItsClass :
    (taken (.renewClass host 0#8) host State.reset ∧ (0#8).toNat = 0 ∧ 6 ≤ (6#8).toNat) ∧
    (taken (.renewClass host 1#8) host (withRecord 0 live) ∧ (1#8).toNat = Cls.rank .base ∧ TableLaw (withRecord 0 live)) :=
  ⟨⟨ready rfl, by decide, by decide⟩, ready rfl, by decide, one_law 0 live live_lawful⟩

theorem witness_TableReadersShowTheTable :
    (taken (.find host ⟨0#8, 1#8, 0#8⟩) host (withRecord 0 live) ∧ readKey ⟨0#8, 1#8, 0#8⟩ = some live.key ∧
      TableLaw (withRecord 0 live) ∧ ((withRecord 0 live).rt.slots.get 0).record = some live) ∧
    (readKey ⟨0#8, 2#8, 0#8⟩ = some ⟨.fi, .mode, .setpoint⟩ ∧ live.key ≠ ⟨.fi, .mode, .setpoint⟩) ∧
    readKey ⟨0#8, 6#8, 0#8⟩ = none ∧
    ((withRecord 0 live).rt.slots.resolve ⟨0#5, 1#4⟩ = .ok (0, live) ∧ live.deadline = some 50) ∧
    taken (.list host) host State.reset :=
  ⟨⟨ready rfl, by decide, one_law 0 live live_lawful, by decide +kernel⟩, by decide, by decide, by decide +kernel, ready rfl⟩

theorem witness_ApplyPromotesAndFreesTheCoveredGroups :
    (taken (.apply host 1#8) host (withRecord 0 live) ∧ 1 ≤ (1#8).toNat ∧ (3#8).toNat ≤ 3 ∧
      ∀ p, Asker.apply ∉ ((withRecord 0 live).resolver p).asked ∧ Asker.mark ∉ ((withRecord 0 live).resolver p).asked) ∧
    (0#8).toNat = 0 ∧ 4 ≤ (4#8).toNat := by
  refine ⟨⟨ready rfl, by decide, by decide, ?_⟩, by decide, by decide⟩
  intro p
  cases p <;> decide +kernel

theorem witness_ExpiryRemovesTheRecordAndAsksForARecompute :
    (let s := withRecord 0 { live with deadline := some 0 }
     (s.rt.slots.get 0).record = some { live with deadline := some 0 } ∧
      ∀ p ∈ Phaser.list, Asker.apply ∉ (s.resolver p).asked ∧ Asker.mark ∉ (s.resolver p).asked) ∧
    ((withRecord 0 live).rt.slots.get 0).record = some live ∧ live.deadline ≠ some 0 ∧
    ((withRecord 0 live).rt.slots.get 1).record = none := by decide +kernel

/-! ### Witnesses: the Target Resolver -/

/-- A state with a recompute of FI asked for by an apply. -/
def asked (s : State) : State := s.setResolver .fi { s.resolver .fi with asked := [.apply] }

/-- FI's resolution record with a disposition, and a departure note for the record of slot 0. -/
def noted (d : Disposition) (how : Departure) : State :=
  let s := inState .tracking none
  asked (s.setResolver .fi { s.resolver .fi with
    record := ⟨.au 320, d, [], [], false, false⟩
    notes := [⟨⟨0#5, 1#4⟩, how⟩] })

theorem witness_RecomputeFollowsTheHighestSetpoint :
    let s := asked (withRecord 0 live)
    TableLaw s ∧ (s.resolver .fi).windowOk ∧ (s.resolver .fi).asked = [.apply] ∧ (s.rt.slots.get 0).record = some live ∧
    live.key.phaser = .fi ∧ live.life.active = some (.setpoint (.au 320) 200 false 5) ∧
    (∀ j q, (s.rt.slots.get j).record = some q → q.key.phaser = .fi → q.key.kind = .setpoint → q.life.active ≠ none →
      q.key.cls.rank ≤ live.key.cls.rank) ∧
    (∀ j q, (s.rt.slots.get j).record = some q → q.key.phaser = .fi → q.key.kind ≠ .setpoint → q.life.active = none) := by
  have get : ∀ j q, ((asked (withRecord 0 live)).rt.slots.get j).record = some q → q = live := by
    intro j q hq
    rw [show (asked (withRecord 0 live)).rt = (withRecord 0 live).rt from rfl] at hq
    unfold withRecord at hq
    rw [setSlots_slots, slots_get_set] at hq
    split at hq
    · exact (Option.some.inj hq).symm
    · rw [slots_get_empty] at hq
      cases hq
  refine ⟨?_, by unfold Resolver.windowOk; decide +kernel, by decide +kernel, by decide +kernel, rfl, rfl, ?_, ?_⟩
  · exact one_law 0 live live_lawful
  · intro j q hq _ _ _
    rw [get j q hq]
  · intro j q hq _ hk
    rw [get j q hq] at hk
    exact absurd rfl hk

theorem witness_RecomputeWithoutWinnerFollowsTheNote :
    (State.reset.resolver .fi).asked = [] ∧
    (∀ d how, ((noted d how).resolver .fi).asked = [.apply] ∧ ((noted d how).phaser .fi).state = .tracking ∧
      (∀ j q, ((noted d how).rt.slots.get j).record = some q → q.key.phaser = .fi → q.key.kind = .setpoint →
        q.life.active = none) ∧
      ((noted d how).resolver .fi).record.disposition = d ∧
      ((noted d how).resolver .fi).notes.find? (fun n => n.handle == ⟨0#5, 1#4⟩) = some ⟨⟨0#5, 1#4⟩, how⟩) := by
  refine ⟨by decide +kernel, fun d how => ⟨rfl, rfl, ?_, rfl, rfl⟩⟩
  intro j q hq
  rw [show (noted d how).rt.slots = Slots.empty from rfl, slots_get_empty] at hq
  cases hq

/-- FI with permission and a recompute asked for, in a state of the Sequencer, its table with a record or empty. -/
def handed (st : PhaserState) (timer : Option Nat) (r : Option Record) : State :=
  let s := asked (reported (synced (inState st timer)))
  s.setSlots (Slots.empty.set 0 ⟨1#4, r⟩)

/-- The same without permission: the report is STALE. -/
def refused (st : PhaserState) (timer : Option Nat) (r : Option Record) : State :=
  let s := handed st timer r
  { s with ps := { s.ps with cond := { s.ps.cond with fresh := false } } }

/-- FI with permission, driven toward a HOLD of 320, and nothing in the table. -/
def holding (st : PhaserState) : State :=
  let s := handed st (if st = .releasing then some 5 else none) none
  s.setResolver .fi { s.resolver .fi with record := ⟨.au 320, .hold 320 .base, [], [], false, false⟩ }

/-- Nothing faults FI and no over-band event waits. -/
def free (s : State) : Bool := s.unfaulted .fi && !(s.phaser .fi).trackDue && !(s.phaser .fi).faultDue

/-- The state of FI after its recompute. -/
def recomputed (s : State) : PhaserState := ((after (.recompute .fi) s).phaser .fi).state

/-- The cases of the Sequencer's answer to a recompute: a numeric target with and without permission, PARK, and a numeric target
kept. -/
theorem witness_targetTaken :
    (free (handed .parked none (some live)) = true ∧ recomputed (handed .parked none (some live)) = .releasing) ∧
    (free (handed .returning (some 5) (some live)) = true ∧ recomputed (handed .returning (some 5) (some live)) = .tracking) ∧
    (free (handed .latching (some 5) (some live)) = true ∧ recomputed (handed .latching (some 5) (some live)) = .latching) ∧
    (∀ x ∈ [(PhaserState.parked, none), (.returning, some 5), (.latching, some 5)],
      let s := refused x.1 x.2 (some live)
      free s = true ∧ s.permission = false ∧ recomputed s = x.1 ∧
        (after (.recompute .fi) s).stands .fi .releaseHeld = true) ∧
    (∀ x ∈ [(PhaserState.releasing, some 5), (.tracking, none)],
      let s := handed x.1 x.2 none
      free s = true ∧ ((after (.recompute .fi) s).resolver .fi).record.target = .park ∧ recomputed s = .returning) ∧
    (∀ st ∈ [PhaserState.releasing, .tracking], free (holding st) = true ∧ (holding st).withdrawn = false ∧
      recomputed (holding st) = st) ∧
    (∀ st ∈ [PhaserState.releasing, .tracking],
      let s := (holding st).setResolver .fi
        { (holding st).resolver .fi with record := ⟨.au 100, .hold 320 .base, [], [], false, false⟩ }
      free s = true ∧ recomputed s = st ∧ ((after (.recompute .fi) s).resolver .fi).record.target = .au 320 ∧
      (let w := s.setDecoder { s.ad with speed := 0 }
       w.withdrawn = true ∧ recomputed w = st)) ∧
    (∀ x ∈ [(PhaserState.parked, none), (.returning, some 5), (.latching, some 5)],
      let s := targeted (refused x.1 x.2 (some live)) 100
      free s = true ∧ s.permission = false ∧ recomputed s = x.1 ∧
        ((after (.recompute .fi) s).resolver .fi).record.target = .au 320 ∧
        (after (.recompute .fi) s).stands .fi .releaseHeld = true) := by decide +kernel

/-- R60, R108: with the speed gone to 0 by the stop timer and the departure not yet handled, a recompute that leaves FI's target as
it was is no evaluation: FI stays as it is, and RELEASE_HELD is not declared. -/
theorem test_unchanged_target_is_no_evaluation :
    ∀ st ∈ [PhaserState.releasing, .tracking],
      let s := (holding st).setDecoder { (holding st).ad with speed := 0 }
      let t := after (.recompute .fi) s
      s.withdrawn = true ∧ t.phaser .fi = s.phaser .fi ∧ t.stands .fi .releaseHeld = false ∧
        (t.resolver .fi).asked = [] := by decide +kernel

/-- Two TRIMs and two LIMITs of FI in the table, the lower class in the higher slot. -/
def mixed : Slots :=
  let t := Slots.empty.set 0 ⟨1#4, some ⟨⟨.fi, .mode, .trim⟩, .live (.trim (-1000) 0), none⟩⟩
  let t := t.set 1 ⟨1#4, some ⟨⟨.fi, .base, .trim⟩, .live (.trim 2000 0), none⟩⟩
  let t := t.set 2 ⟨1#4, some ⟨⟨.fi, .protect, .limit⟩, .live (.limit (-50) 50 0), none⟩⟩
  t.set 3 ⟨1#4, some ⟨⟨.fi, .base, .limit⟩, .live (.limit 100 4700 0), none⟩⟩

theorem mixed_keys (i j : Fin 24) (r q : Record) (hr : (mixed.get i).record = some r) (hq : (mixed.get j).record = some q)
    (h : r.key = q.key) : i = j := by
  have key : ∀ i j : Fin 24, (mixed.get i).record.isSome = true →
      (mixed.get i).record.map (fun r => r.key) = (mixed.get j).record.map (fun r => r.key) → i = j := by decide +kernel
  apply key
  · rw [hr]
    rfl
  · rw [hr, hq]
    exact congrArg some h

/-- Two trims and two limits together, in class order: 5,000 with +2,000 saturates at 5,759, −1,000 gives 4,759, BASE's limit
gives 4,700 and PROTECT's, the last, 50. With a reference class of MODE the first trim is left out. -/
theorem witness_CompositionAddsTrimsThenClamps :
    mixed.activeRecords .fi .trim = [(.base, ⟨1#5, 1#4⟩, .trim 2000 0), (.mode, ⟨0#5, 1#4⟩, .trim (-1000) 0)] ∧
    mixed.activeRecords .fi .limit = [(.base, ⟨3#5, 1#4⟩, .limit 100 4700 0), (.protect, ⟨2#5, 1#4⟩, .limit (-50) 50 0)] ∧
    compose mixed .fi (-160) 960 .parkDefault 5000 .base =
      ⟨.au 50, .parkDefault, [⟨1#5, 1#4⟩, ⟨0#5, 1#4⟩], [⟨3#5, 1#4⟩, ⟨2#5, 1#4⟩], false, true⟩ ∧
    (compose mixed .fi (-160) 20 .parkDefault 5000 .mode).authClamp = true ∧
    (compose mixed .fi (-160) 20 .parkDefault 5000 .mode).trims = [⟨0#5, 1#4⟩] := by decide +kernel

/-! ### Witnesses: the Angle Decoder and Edge Capture -/

/-- The reset state with a number of edges in FI's queue, its decoder in CYCLE_SYNC. -/
def queued (n : Nat) : State :=
  let s := synced State.reset
  s.setCam .fi { s.cam .fi with queue := List.replicate n 1000100#24 }

theorem witness_InputsAreFilteredAndCamEdgesQueued :
    (State.reset.ad.pulseOpen = false ∧ (15 : Nat) < 16 ∧ true ≠ State.reset.ad.crankRises ∧
      (State.reset.setDecoder { Decoder.reset with pulseOpen := true }).ad.pulseOpen = true) ∧
    ((State.reset.cam .fi).pulseOpen = false ∧ false ≠ (State.reset.cam .fi).rises ∧
      ((State.reset.setCam .fi { Cam.fresh [960] with pulseOpen := true }).cam .fi).pulseOpen = true) ∧
    State.reset.ad.sync ≠ .cycleSync ∧
    ((queued 1).ad.sync = .cycleSync ∧ ((queued 1).cam .fi).pulseOpen = false ∧ ((queued 1).cam .fi).queue.length < 2) ∧
    ((queued 2).ad.sync = .cycleSync ∧ 2 ≤ ((queued 2).cam .fi).queue.length) := by decide +kernel

theorem witness_FirstToothMovesTheDecoderToSeeking :
    State.reset.ad.sync = .stopped ∧ State.reset.ad.pulseOpen = false ∧ State.reset.ps.departed = false ∧
    StatusLaw State.reset := by
  refine ⟨rfl, rfl, rfl, ?_⟩
  unfold StatusLaw
  refine ⟨by decide, by decide, by decide, fun p => ?_⟩
  cases p <;> decide

/-- The cases of the decoder's judgement: SEEKING, and a tooth index below and at the last tooth of the revolution, with a
period below and at the gap threshold of 2.5 normal periods. -/
theorem witness_DecoderJudgesEveryTooth :
    (let d := { Decoder.reset with sync := .seeking, prevTooth := some 0#24, lastNormal := some 80000 }
     d.sync ≠ .stopped ∧ d.candidate 200000#24 = true ∧ d.candidate 199999#24 = false) ∧
    (let d := { cranking with toothIndex := some 20 }
     20 < d.teeth - d.missing - 1 ∧ d.candidate 199999#24 = false ∧ d.candidate 200000#24 = true) ∧
    (cranking.toothIndex = some 21 ∧ cranking.teeth - cranking.missing - 1 ≤ 21 ∧ cranking.edgeCount = 2) ∧
    (let d := { cranking with sync := .cycleSync, half := some .first }
     d.half = some .first ∧ d.doubt = 0 ∧ d.edgeCount = 2 ∧ { d with doubt := 1 }.doubt = 1 ∧ d.edgeCount ≠ 1) := by
  decide +kernel

/-- A tooth at its place, and a gap in the middle of a revolution, in CYCLE_SYNC; an entry from CRANK_SYNC; and a tooth in
SEEKING. -/
theorem witness_CrankToothMovesTheDecoderAndHandsOn :
    (turning.pulseOpen = false ∧ turning.sync = .cycleSync ∧ (turning.tooth 1003333#24 2 1).sync = .cycleSync ∧
      (turning.tooth 1010000#24 2 1).sync ≠ .cycleSync) ∧
    (cranking.sync ≠ .cycleSync ∧ (cranking.tooth 240000#24 2 1).sync = .cycleSync) ∧
    (Decoder.reset.tooth 5#24 2 1).sync ≠ .cycleSync := by decide +kernel

/-- A state in CYCLE_SYNC with two edges of FI queued, the one of the worked conversions and one that fits no tooth. -/
def edged : State :=
  let s := synced State.reset
  s.setCam .fi { s.cam .fi with queue := [1001000#24, 1003332#24], miss := 2, marks := [false, false, false] }

/-- A tooth that crosses no mark and changes no speed empties the queue; the first edge is the measurement of the worked
conversions (05: phase 8 of tooth 1). An operand that asks for another order changes nothing at such a tooth. -/
theorem witness_quietToothTakesTheEdges :
    edged.ad.pulseOpen = false ∧ edged.ad.sync = .cycleSync ∧ (edged.ad.tooth 1003333#24 2 1).sync = .cycleSync ∧
    edged.ec.bracket = some ⟨1000000#24, 3120⟩ ∧ (edged.ad.tooth 1003333#24 2 1).speed = edged.ad.speed ∧
    edged.ps.departed = false ∧ (∀ p ∈ Phaser.list, Asker.mark ∉ (edged.resolver p).asked) ∧
    (∀ g ∈ [Group.front, .rear], crossed (edged.config g).mark edged.ad.angle (edged.ad.tooth 1003333#24 2 1).angle = false) ∧
    (let t := after (.crankTooth edged.ad.crankRises 100 1003333#24 ⟨false, false, false, 0⟩) edged
     (t.cam .fi).queue = [] ∧ (t.cam .fi).last.map (fun m => m.phase) = some (-159) ∧ (t.cam .fi).miss = 0 ∧
      t = after (.crankTooth edged.ad.crankRises 100 1003333#24 ⟨true, false, true, 3⟩) edged) := by decide +kernel

/-- The operand of a tooth gives each of the 24 orders of its four parts. -/
theorem test_tooth_orders :
    let orders := [false, true].flatMap fun f => [false, true].flatMap fun r => [false, true].flatMap fun b =>
      (List.finRange 4).map fun e => toothParts ⟨f, r, b, e⟩
    orders.dedup.length = 24 ∧ ∀ o ∈ orders, o.length = 4 ∧ o.Nodup := by decide +kernel

/-- R44: a mark apply at an earlier tooth is met by the measurements of the next one, whatever its order: the recompute it asked
for is taken first. -/
theorem test_mark_apply_meets_the_next_tooth :
    let s := (synced (withRecord 0 live)).setResolver .fi { State.reset.resolver .fi with asked := [.mark] }
    let t := after (.crankTooth s.ad.crankRises 100 1003333#24 ⟨false, false, false, 0⟩) s
    (t.resolver .fi).asked = [] ∧ (t.resolver .fi).record.target = .au 320 := by decide +kernel

theorem witness_StopTimerExpiryStopsTheDecoder :
    State.reset.ad.stopTimer ≠ some 0 ∧
    (let s := (synced State.reset).setDecoder { turning with stopTimer := some 0 }
     s.ad.stopTimer = some 0 ∧ s.ad.sync = .cycleSync) ∧
    (let s := State.reset.setDecoder { Decoder.reset with sync := .seeking, prevTooth := some 0#24, stopTimer := some 0 }
     s.ad.stopTimer = some 0 ∧ s.ad.sync ≠ .cycleSync) := by decide +kernel

theorem witness_CrossingIntervalsTileTheCycle :
    ((11400 : Nat) - 11280 : Int) % 11520 + ((0 : Nat) - (11400 : Nat) : Int) % 11520 < 11520 ∧
    crossed 0 11280 0 = true ∧ crossed 11280 11280 0 = false := by decide

theorem witness_EdgesArePlacedAndAssociated :
    (0 < (240 : Nat) ∧ (1003333#24 - 1000000#24).toNat < (1003334#24 - 1000000#24).toNat ∧
      (1003333#24 - 1000000#24).toNat ≤ (1003333#24 - 1000000#24).toNat ∧ 0 < (1003333#24 - 1000000#24).toNat) ∧
    associate [960, 3200, 6720] 3192 (-320) 1120 = some (1, 8) ∧ associate [6720, 480] 11400 (-1120) 320 = none := by
  decide +kernel

/-! ### Witnesses: the Phaser Sequencer -/

/-- A state in which FI has permission and a numeric target, in a state of the Sequencer. -/
def permitted (st : PhaserState) (timer : Option Nat) : State := targeted (reported (synced (inState st timer))) 320

/-- The same with a condition of FI standing. -/
def standing (s : State) (e : PhCond) : State := s.drive .fi e true

/-- No condition blocks FI. -/
def clean (s : State) : Bool :=
  !(s.stands .fi .camLost || s.stands .fi .drvOpen || s.stands .fi .drvShort || s.stands .fi .drvHot)

/-- FI in each state of the Sequencer with a running timer where the state has one, with permission. -/
def inEach (st : PhaserState) : State :=
  permitted st (if st = .releasing ∨ st = .returning ∨ st = .latching then some 5 else none)

/-! ### Witnesses: the evaluation and the applies of a tooth -/

/-- FI in a state of the Sequencer with a numeric target, at a speed and a last normal period, all queues empty. -/
def spinning (st : PhaserState) (speed period : Nat) : State :=
  let s := inEach st
  s.setDecoder { s.ad with speed := speed, lastNormal := some period }

/-- FI's state after a tooth a number of ticks after the last one, in one order of its parts. -/
def toothState (ticks : Nat) (o : ToothOrder) (s : State) : PhaserState :=
  ((after (.crankTooth s.ad.crankRises 100 (1000000#24 + BitVec.ofNat 24 ticks) o) s).phaser .fi).state

/-- R108, R109: a tooth that brings the speed to 1,538 rpm releases a PARKED phaser and lets a RETURNING one track; one that
brings it to 1,250 rpm, below 1,500 − 200, sends a TRACKING phaser home. No mark is crossed, no window ends, no edge waits, no
recompute and no departure is owed. -/
theorem witness_changedSpeedIsAnEvaluation :
    (let s := spinning .parked 1428 14000
     s.ad.pulseOpen = false ∧ s.ps.departed = false ∧ s.ad.sync = .cycleSync ∧
      (s.ad.tooth 1013000#24 2 1).sync = .cycleSync ∧ (s.ad.tooth 1013000#24 2 1).speed = 1538 ∧
      (∀ c ∈ Phaser.list, (s.cam c).queue = []) ∧
      (∀ p ∈ Phaser.list, Asker.mark ∉ (s.resolver p).asked ∧ Asker.apply ∉ (s.resolver p).asked) ∧
      (∀ g ∈ [Group.front, .rear], crossed (s.config g).mark s.ad.angle (s.ad.tooth 1013000#24 2 1).angle = false) ∧
      s.ec.bracket = some ⟨1000000#24, 3120⟩ ∧
      (∀ c ∈ Phaser.list, ∀ k ∈ List.range (s.cam c).teeth.length,
        crossed (((((s.cam c).teeth.getD k 0 : Int) - (s.resolver c).amin + s.ec.margin) % 11520).toNat) 3120
          (s.ad.tooth 1013000#24 2 1).angle = false)) ∧
    (toothState 13000 ⟨false, false, false, 0⟩ (spinning .parked 1428 14000) = .releasing ∧
      toothState 13000 ⟨true, false, false, 3⟩ (spinning .returning 1428 14000) = .tracking ∧
      toothState 16000 ⟨true, true, true, 1⟩ (spinning .tracking 1333 15000) = .returning ∧
      toothState 15000 ⟨true, true, true, 1⟩ (spinning .tracking 1333 15000) = .tracking) := by
  refine ⟨?_, ?_⟩ <;> decide +kernel

/-- R108 at an entry to CYCLE_SYNC, and at a tooth that leaves it, where the evaluation comes first or not at all. -/
theorem witness_entryAndDepartureEvaluate :
    (State.reset.ps.departed = false ∧ cranking.sync ≠ .cycleSync ∧ (cranking.tooth 240000#24 2 1).sync = .cycleSync) ∧
    (let s := spinning .parked 1428 14000
     let d := { s.ad with toothIndex := some 21 }
     s.ps.departed = false ∧ (d.tooth 1013000#24 2 1).sync ≠ .cycleSync ∧ (d.tooth 1013000#24 2 1).speed ≠ d.speed ∧
      (let t := after (.crankTooth false 100 1013000#24 ⟨false, false, false, 0⟩) (s.setDecoder d)
       t.stands .fi .releaseHeld = true ∧ (t.phaser .fi).held = HeldCauses.empty) ∧
      (let t := after (.crankTooth false 100 1013000#24 ⟨false, false, false, 1⟩) (s.setDecoder d)
       t.stands .fi .releaseHeld = false)) := by
  refine ⟨?_, ?_⟩ <;> decide +kernel

/-- A state in CYCLE_SYNC with one record of FI, and FRONT's mark angle 80 au after the last tooth. -/
def crossing (life : Life) : State :=
  let s := synced (withRecord 0 { live with life := life })
  { s with rt := { s.rt with front := ⟨.mark, 3200⟩ } }

/-- The state after the next tooth of such a state. -/
def crossedBy (o : ToothOrder) (s : State) : State := after (.crankTooth s.ad.crankRises 100 1003333#24 o) s

/-- R18, R34, R39: the apply at a crossing asks for the recompute of both phasers of its group, with a note for the SETPOINT it
frees; placed before the edges, its recompute is taken in the same event. -/
theorem witness_markApplyAsksForItsRecompute :
    (let s := crossing (.retiring (.setpoint (.au 320) 200 false 5))
     s.ps.departed = false ∧ (∀ p ∈ Phaser.list, (s.resolver p).asked = []) ∧ (s.config .front).mode = .mark ∧
      crossed (s.config .front).mark s.ad.angle (s.ad.tooth 1003333#24 2 1).angle = true ∧
      (s.ad.tooth 1003333#24 2 1).speed = s.ad.speed ∧
      (let t := crossedBy ⟨false, false, false, 0⟩ s
       (t.resolver .fi).asked = [.mark] ∧ (t.resolver .fi).notes = [⟨⟨0#5, 1#4⟩, .retired false⟩] ∧
        (t.resolver .fe).asked = [.mark] ∧ (t.resolver .fe).notes = [] ∧ t.resolver .ri = s.resolver .ri)) ∧
    (let t := crossedBy ⟨true, false, false, 0⟩ (crossing (.posted (.setpoint (.au 320) 200 false 5)))
     (t.resolver .fi).asked = [] ∧ (t.resolver .fi).record.target = .au 320) := by
  refine ⟨?_, ?_⟩ <;> decide +kernel

/-! ### Witnesses: measurements, reports, commands and timers -/

/-- FI's state after a measurement of a phase. -/
def measuredState (s : State) (phase : Int) : PhaserState := ((takeMeasurement .fi 1 phase s).phaser .fi).state

/-- The Sequencer's answers to a measurement inside and outside the home band of 24, with and without permission; and a miss that
declares CAM_LOST in every state. -/
theorem witness_MeasurementsRejectsAndMissesActOnTheirCam :
    (∀ st ∈ [PhaserState.parked, .releasing, .tracking, .latching, .faulted, .off],
      (inEach st).unfaulted .fi = true ∧ ((inEach st).phaser .fi).faultDue = false ∧ measuredState (inEach st) 100 = st) ∧
    (measuredState (inEach .stopped) 24 = .releasing ∧ measuredState (inEach .stopped) 25 = .tracking ∧
      measuredState (inEach .returning) 24 = .tracking) ∧
    (let s := fun st => synced (inState st none)
     (s .stopped).unfaulted .fi = true ∧ (s .stopped).numeric .fi = false ∧ measuredState (s .stopped) (-24) = .parked ∧
      measuredState (s .stopped) (-25) = .returning ∧ measuredState (s .returning) 24 = .latching ∧
      measuredState (s .returning) 25 = .returning) ∧
    (let s := (inEach .tracking).setPhaser .fi { (inEach .tracking).phaser .fi with faultDue := true }
     measuredState s 0 = .faulted) ∧
    (∀ x ∈ [(PhaserState.releasing, PhaserState.faulted), (.tracking, .faulted), (.returning, .faulted), (.parked, .parked),
        (.stopped, .stopped), (.latching, .latching), (.off, .off)],
      let s := (inEach x.1).setCam .fi { (inEach x.1).cam .fi with miss := 2 }
      s.stands .fi .camLost = false ∧ s.ec.lostCount ≤ min 255 ((s.cam .fi).miss + 1) ∧
        ((missTooth .fi s).phaser .fi).state = x.2) := by decide +kernel

/-- FI's state after a report with an oil pressure and a temperature. -/
def reportedState (oil : Byte) (temperature : Half) (s : State) : PhaserState :=
  ((after (.reportConditions host oil temperature 12000#16) s).phaser .fi).state

/-- A report that keeps permission, one with oil LOW, which withdraws it, and one that is too cold, which does not; the expiry
of the freshness timer. -/
theorem witness_ReportAndFreshnessDriveTheEngineRecord :
    (∀ st ∈ [PhaserState.parked, .returning, .latching, .releasing, .tracking],
      (inEach st).fp.work = none ∧ (inEach st).unfaulted .fi = true ∧ ((inEach st).phaser .fi).faultDue = false ∧
      (inEach st).numeric .fi = true) ∧
    (reportedState 1#8 80#16 (inEach .parked) = .releasing ∧ reportedState 1#8 80#16 (inEach .returning) = .tracking ∧
      reportedState 1#8 80#16 (inEach .latching) = .latching ∧ reportedState 0#8 80#16 (inEach .parked) = .parked ∧
      (after (.reportConditions host 0#8 80#16 12000#16) (inEach .parked)).stands .fi .releaseHeld = true) ∧
    (reportedState 0#8 80#16 (inEach .tracking) = .returning ∧ reportedState 0#8 80#16 (inEach .releasing) = .returning ∧
      reportedState 1#8 0#16 (inEach .tracking) = .tracking ∧ reportedState 1#8 0#16 (inEach .parked) = .parked) ∧
    ((inEach .parked).permission = true ∧ (inEach .parked).withdrawn = false ∧
      ({ inEach .parked with ad := { turning with speed := 1299 } }).withdrawn = true ∧
      ({ inEach .parked with ad := { turning with speed := 1300 } }).withdrawn = false) ∧
    (taken (.reportConditions host 2#8 0#16 0#16) host State.reset ∧ 2 ≤ (2#8).toNat ∧ (1#8).toNat ≤ 1) ∧
    State.reset.ps.cond.timer ≠ some 0 ∧
    (let s := inEach .tracking
     let s := { s with ps := { s.ps with cond := ⟨true, 80, 12000, true, some 0⟩ } }
     s.ps.cond.timer = some 0 ∧ s.unfaulted .fi = true ∧
      ((after .freshnessTimerExpiry s).phaser .fi).state = .returning) := by
  refine ⟨?_, ?_, ?_, ?_, ⟨ready rfl, ?_⟩, ?_, ?_⟩ <;> decide +kernel

theorem witness_EnablePhaserMovesToOffAndBack :
    (4 ≤ (4#8).toNat ∧ taken (.enablePhaser host 4#8 0#8) host State.reset) ∧
    (taken (.enablePhaser host 0#8 2#8) host State.reset ∧ 2 ≤ (2#8).toNat) ∧
    (taken (.enablePhaser host 0#8 0#8) host (permitted .tracking none) ∧
      ((permitted .tracking none).phaser .fi).state ≠ .off ∧ ((permitted .tracking none).phaser .fi).state = .tracking) ∧
    (taken (.enablePhaser host 0#8 1#8) host (inState .off none) ∧ ((inState .off none).phaser .fi).state = .off) :=
  ⟨⟨by decide, ready rfl⟩, ⟨ready rfl, by decide⟩, ⟨ready rfl, by decide +kernel⟩, ready rfl, by decide +kernel⟩

/-- FI FAULTED outside CYCLE_SYNC, in CYCLE_SYNC without and with permission, and with a blocking condition. -/
theorem witness_ClearFaultAnswersByStateAndConditions :
    (4 ≤ (4#8).toNat ∧ taken (.clearFault host 4#8) host State.reset) ∧
    (taken (.clearFault host 0#8) host State.reset ∧ (State.reset.phaser .fi).state ≠ .faulted) ∧
    (let s := standing (inState .faulted none) .camLost
     s.fp.work = none ∧ (s.phaser .fi).state = .faulted ∧ clean s = false) ∧
    (let s := inState .faulted none
     taken (.clearFault host 0#8) host s ∧ (s.phaser .fi).state = .faulted ∧ clean s = true ∧ s.ad.sync ≠ .cycleSync) ∧
    (let s := synced (inState .faulted none)
     s.ad.sync = .cycleSync ∧ clean s = true ∧ (s.numeric .fi && s.permission) = false) ∧
    (let s := permitted .faulted none
     s.ad.sync = .cycleSync ∧ clean s = true ∧ (s.numeric .fi && s.permission) = true) := by
  refine ⟨⟨by decide, ready rfl⟩, ⟨ready rfl, ?_⟩, ?_, ⟨ready rfl, ?_⟩, ?_, ?_⟩ <;> decide +kernel

/-- At the end of the release interval: permission kept, withdrawn because the engine stopped, and CAM_LOST standing. -/
theorem witness_ReleaseIntervalExpiryEntersTracking :
    ¬ ((State.reset.phaser .fi).state = .releasing ∧ (State.reset.phaser .fi).timer = some 0) ∧
    (let s := permitted .releasing (some 0)
     (s.phaser .fi).state = .releasing ∧ (s.phaser .fi).timer = some 0 ∧ s.unfaulted .fi = true ∧ s.withdrawn = false ∧
      ((after (.releaseIntervalExpiry .fi) s).phaser .fi).state = .tracking) ∧
    (let s := permitted .releasing (some 0)
     let s := s.setDecoder { s.ad with speed := 0 }
     s.unfaulted .fi = true ∧ s.withdrawn = true ∧
      ((after (.releaseIntervalExpiry .fi) s).phaser .fi).state = .returning) ∧
    (let s := standing (permitted .releasing (some 0)) .camLost
     s.unfaulted .fi = false ∧ ((after (.releaseIntervalExpiry .fi) s).phaser .fi).state = .faulted) := by decide +kernel

theorem witness_ReturnAndLatchTimersEndTheWayHome :
    ¬ ((State.reset.phaser .fi).state = .returning ∧ (State.reset.phaser .fi).timer = some 0) ∧
    (((inState .returning (some 0)).phaser .fi).state = .returning ∧ ((inState .returning (some 0)).phaser .fi).timer = some 0) ∧
    ¬ ((State.reset.phaser .fi).state = .latching ∧ (State.reset.phaser .fi).timer = some 0) ∧
    (let s := inState .latching (some 0)
     (s.phaser .fi).state = .latching ∧ (s.phaser .fi).timer = some 0 ∧ clean s = true ∧
      (s.numeric .fi && s.permission) = false) ∧
    (let s := permitted .latching (some 0)
     clean s = true ∧ (s.numeric .fi && s.permission) = true) ∧
    (let s := standing (permitted .latching (some 0)) .camLost
     s.stands .fi .drvOpen = false ∧ s.stands .fi .drvShort = false ∧ s.stands .fi .drvHot = false ∧
      (s.numeric .fi && s.permission) = true ∧ s.stands .fi .camLost = true) := by decide +kernel

/-- FI in TRACKING with both over-band events due. -/
def overBand : State :=
  let s := permitted .tracking none
  s.setPhaser .fi { s.phaser .fi with overBand := some 1000, trackDue := true, faultDue := true }

/-- The track time alone, and both times found at one advance: one event. -/
theorem witness_OverBandTimesDeclareAndFault :
    (State.reset.phaser .fi).trackDue = false ∧ (State.reset.phaser .fi).faultDue = false ∧
    ((overBand.phaser .fi).state = .tracking ∧ (overBand.phaser .fi).trackDue = true ∧
      (overBand.phaser .fi).faultDue = true ∧ overBand.owed.head? = some (.overBandFaultTime .fi) ∧
      ((after (.overBandTrackTime .fi) overBand).phaser .fi).state = .faulted) ∧
    (let s := overBand.setPhaser .fi { overBand.phaser .fi with faultDue := false }
     (s.phaser .fi).state = .tracking ∧ (s.phaser .fi).trackDue = true ∧ (s.phaser .fi).faultDue = false) := by
  decide +kernel

theorem witness_DepartureStopsEveryPhaser :
    State.reset.ps.departed = false ∧
    (let s := permitted .tracking none
     let s := { s with ps := { s.ps with departed := true } }
     s.ps.departed = true ∧ (s.phaser .fi).state = .tracking ∧ (s.phaser .fi).faultDue = false ∧ clean s = true ∧
      (s.phaser .fe).state = .stopped) ∧
    ((overBand.phaser .fi).state = .tracking ∧ (overBand.phaser .fi).faultDue = true) := by
  decide +kernel

/-- R120: in FAULTED the set keeps the causes it holds. R119: on entry it holds the standing ones as well. -/
theorem test_driver_condition_keeps_other_causes :
    (let s := inState .faulted none
     let x := { s.phaser .fi with causes := { CauseSet.empty with latchFail := true }, declared := ⟨true, false, false⟩ }
     let s := s.setPhaser .fi x
     ((after (.driverConditionFault .fi .drvOpen) s).phaser .fi).causes = ⟨true, false, false, false, false, true⟩) ∧
    (let s := standing (permitted .tracking none) .drvHot
     let s := s.setPhaser .fi { s.phaser .fi with declared := ⟨true, false, true⟩ }
     let t := after (.driverConditionFault .fi .drvOpen) s
     ((t.phaser .fi).causes, (t.phaser .fi).declared) =
       (⟨true, false, true, false, false, false⟩, ⟨false, false, true⟩)) := by decide +kernel

/-- A driver condition owed in TRACKING, in FAULTED and in OFF. -/
theorem witness_DriverConditionFaultsThePhaser :
    (State.reset.phaser .fi).declared.drvOpen = false ∧
    ∀ st ∈ [PhaserState.tracking, .faulted, .off],
      let s := inState st none
      let t := s.setPhaser .fi { s.phaser .fi with declared := ⟨true, true, true⟩ }
      (t.phaser .fi).state = st ∧ (t.phaser .fi).declared = ⟨true, true, true⟩ := by decide +kernel

/-! ### Witnesses: the Loop Unit -/

/-- FI in TRACKING with a delivered measurement. -/
def delivered (phase : Int) : State :=
  let s := permitted .tracking none
  s.setLoop .fi { s.loop .fi with delivered := [phase] }

theorem witness_ControlStepComputesTheDuty :
    (((delivered 200).phaser .fi).state = .tracking ∧ ((delivered 200).phaser .fi).faultDue = false ∧
      ((delivered 200).phaser .fi).trackDue = false ∧ ((delivered 200).resolver .fi).record.target = .au 320 ∧
      ((delivered 200).loop .fi).delivered = [200] ∧ ((delivered 200).loop .fi).ramp = 0 ∧
      (delivered 200).ps.params.trackBand < (0 - 200 : Int).natAbs) ∧
    (((delivered 0).loop .fi).delivered = [0] ∧ ((0 : Int) - 0).natAbs ≤ (delivered 0).ps.params.trackBand) ∧
    (State.reset.loop .fi).delivered = [] ∧
    (let s := State.reset.setLoop .fi { Loop.fresh 320 with delivered := [5] }
     (s.loop .fi).delivered = [5] ∧ (s.phaser .fi).state ≠ .tracking) ∧
    (let s := (delivered 0).setPhaser .fi { overBand.phaser .fi with trackDue := false }
     (s.loop .fi).delivered ≠ [] ∧ (s.phaser .fi).state = .tracking ∧ (s.phaser .fi).faultDue = true ∧
      ((after (.controlStep .fi) s).phaser .fi).state = .faulted) ∧
    (let s := (delivered 0).setResolver .fi (State.reset.resolver .fi)
     (s.phaser .fi).state = .tracking ∧ (s.resolver .fi).record.target = .park ∧ (s.phaser .fi).faultDue = false) := by
  decide +kernel

theorem witness_ElapsedTimeIsCappedByAgeAndByTicks : (16 : Nat) ≤ 16 ∧ elapsed (some 16) (some 0#24) 128001#24 = 16000 := by
  decide

/-- A step shorter and one longer than the way to the target, a HOLD, a winner in the table and one that has left it. -/
theorem witness_RampMovesTowardTheTarget :
    (0 < (4000 : Nat) ∧ |(0 : Int) - 64| ≤ max 1 ((4000 * 16000 / 1000 : Nat) : Int)) ∧
    (max 1 ((4000 * 16 / 1000 : Nat) : Int) < 65 - 0 ∧ max 1 ((4000 * 16 / 1000 : Nat) : Int) < (0 : Int) - (-65)) ∧
    ((noted (.hold 5 .base) .expired).resolver .fi).record.disposition = .hold 5 .base ∧
    (let x := (targeted State.reset 320).resolver .fi
     x.record.disposition = .setpoint ⟨BitVec.ofNat 5 (0 : Fin 24).val, ((withRecord 0 live).rt.slots.get 0).gen⟩ ∧
      ((withRecord 0 live).rt.slots.get 0).record = some live ∧
      live.life.active = some (.setpoint (.au 320) 200 false 5) ∧ stepSlew x (withRecord 0 live).rt.slots = 200 ∧
      (∀ i, (Slots.empty.get i).record = none) ∧ stepSlew x Slots.empty = x.winnerSlew) := by decide +kernel

/-! ### Witnesses: the Valve Drivers -/

/-- The reset state with FI's channel changed, at a tick. -/
def chan (now : Tick) (c : Channel) : State := { State.reset.setChannel .fi c with counter := now }

/-- FI's output ON within a period at half duty, begun at tick 0. -/
def half : Channel :=
  { Channel.fresh 0#24 false with commanded := 5000, active := 5000, running := true, on := true, ocPeriod := true }

/-- A start due at its tick and not due before it; the end of an on-time of 16,000 ticks due at its tick and not before. -/
theorem witness_PeriodStartTakesTheDuty :
    (let due := fun s : State => (s.channel .fi).running = false ∧ (s.counter - (s.channel .fi).start).toNat < 8388608
     due State.reset ∧ ¬ due (chan 9#24 (Channel.fresh 10#24 false)) ∧ due (chan 10#24 (Channel.fresh 10#24 false)) ∧
      ¬ due (chan 0#24 half) ∧ (State.reset.channel .fi).suspended = false ∧
      due (chan 0#24 { Channel.fresh 0#24 true with suspended := true }) ∧ due (chan 0#24 (Channel.fresh 0#24 true)) ∧
      (chan 0#24 (Channel.fresh 0#24 true)).stands .fi .drvHot = false) ∧
    (let off := (2 * (half.active * half.length) + 10000) / 20000
     half.running = true ∧ half.on = true ∧ off = 16000 ∧ off < half.length ∧
      off ≤ ((chan 16000#24 half).counter - half.start).toNat ∧
      ¬ off ≤ ((chan 15999#24 half).counter - half.start).toNat) := by decide +kernel

/-- A period end due at tick 32,000 and not before. The open-load check's edge: OFF for 800 ticks is checked, for 799 it is
not. -/
theorem witness_PeriodEndJudgesTheDiagnostics :
    (State.reset.channel .fi).running = false ∧
    (half.running = true ∧ half.length ≤ ((chan 32000#24 half).counter - half.start).toNat ∧
      ¬ half.length ≤ ((chan 31999#24 half).counter - half.start).toNat) ∧
    half.suspended = false ∧ { half with suspended := true }.suspended = true ∧
    (half.ocPeriod = true ∧ half.ocCount < 2 ∧ { half with ocCount := 2 }.ocCount = 2 ∧
      { half with ocPeriod := false }.ocPeriod = false) ∧
    ((chan 32000#24 half).stands .fi .drvShort = false) ∧
    (let c := { half with on := false, offAt := 31200 }
     c.offAt + 800 ≤ c.length) ∧
    (let c := { half with on := false, offAt := 31201 }
     ¬ c.offAt + 800 ≤ c.length) ∧
    (let s := chan 32000#24 { half with openFail := 3 }
     s.stands .fi .drvOpen = false ∧ ((after (.periodEnd .fi false) s).phaser .fi).declared.drvOpen = true) := by
  decide +kernel

/-- The output at full duty, ON at the end of its period. -/
def flatOut : Channel :=
  { Channel.fresh 0#24 false with commanded := 10000, active := 10000, running := true, on := true, conducted := true }

/-- R150, R153: at full duty the output stays ON past the period end, and an overcurrent there is one of the next period: the
output goes OFF and that period is marked, where its duty is above 0. -/
theorem test_overcurrent_after_a_full_period :
    (let s := after (.periodEnd .fi true) (chan 32005#24 flatOut)
     (s.channel .fi).running = false ∧ (s.channel .fi).on = true ∧
      (s.counter - (s.channel .fi).start).toNat < 8388608 ∧
      (let c := (after (.overcurrent .fi) s).channel .fi
       (c.on, c.running, c.ocPeriod, c.offAt, c.start) = (false, true, true, 5, 32000#24))) ∧
    (let s := after (.periodEnd .fi true) (chan 32005#24 { flatOut with commanded := 0 })
     let c := (after (.overcurrent .fi) s).channel .fi
     (c.on, c.running, c.ocPeriod) = (false, true, false)) := by
  refine ⟨?_, ?_⟩ <;> decide +kernel

/-- R151, R155: at 330 Hz a duty of 5,000 leaves 12,121 ticks of scheduled off-time. A thermal hold set within them, before the
end of the on-time has been taken, leaves the output OFF since tick 12,121, and the period's open-load check is made. -/
theorem test_thermal_hold_after_the_on_time :
    let c := { half with length := 24242 }
    let s := after (.thermalHoldSet .fi) (chan 24000#24 c)
    ((s.channel .fi).on, (s.channel .fi).offAt) = (false, 12121) ∧
      ((after (.periodEnd .fi true) { s with counter := 24242#24 }).channel .fi).openPass = 1 := by
  decide +kernel

theorem witness_OvercurrentAndThermalHoldSwitchTheOutputOff :
    (half.running = true ∧ half.on = true) ∧ (State.reset.channel .fi).on = false ∧
    (half.suspended = false ∧ (chan 0#24 half).stands .fi .drvHot = false) ∧ { half with suspended := true }.suspended = true := by
  decide +kernel

/-! ### Witnesses: the Condition Monitor, the parameters, the readouts -/

theorem witness_EventsAreReadAndEnabled :
    (5 ≤ (5#8).toNat ∧ taken (.readEvents host 5#8) host State.reset) ∧ taken (.readEvents host 0#8) host State.reset ∧
    taken (.readEvents host 4#8) host State.reset ∧
    (taken (.setEventEnables host 0#8 0x07FF#16 1#8) host State.reset ∧ (0#8).toNat = Phaser.fi.index ∧
      (1#8).toNat ≤ 1 ∧ (0x07FF#16).toNat < 2048) ∧
    (taken (.setEventEnables host 4#8 0x003F#16 0#8) host State.reset ∧ (0x003F#16).toNat < 64) ∧
    (taken (.setEventEnables host 4#8 0x0040#16 0#8) host State.reset ∧ 64 ≤ (0x0040#16).toNat) :=
  ⟨⟨by decide, ready rfl⟩, ready rfl, ready rfl, ⟨ready rfl, by decide, by decide, by decide⟩, ⟨ready rfl, by decide⟩,
    ready rfl, by decide⟩

theorem test_param_list : Param.all.length = 65 ∧ ∀ q ∈ Param.all, q.ident ≠ 0x7F#8 := by decide +kernel

theorem witness_ParametersAreNamedReadAndClamped :
    taken (.getParam host 0x24#8) host State.reset ∧ taken (.setParam host 0x24#8 (.ofHalf 0#16)) host State.reset ∧
    (∀ q : Param, q.ident ≠ 0x7F#8) ∧ taken (.getParam host 0x7F#8) host State.reset := by
  refine ⟨ready rfl, ready rfl, ?_, ready rfl⟩
  intro q
  cases q <;> (try decide) <;> rename_i x <;> cases x <;> (try decide) <;> rename_i y <;> cases y <;> decide

/-- The last listed and the first unlisted value of each decoder parameter, STOPPED and not. -/
theorem witness_ApplyAndDecoderParametersAreWritten :
    (taken (.setApplyMode host .front 1#8) host State.reset ∧ (1#8).toNat ≤ 1 ∧ 2 ≤ (2#8).toNat) ∧
    taken (.setMarkAngle host .rear 11520#16) host State.reset ∧
    (taken (.setCrankGeometry host .teeth 60#8) host State.reset ∧ State.reset.ad.sync = .stopped ∧
      (60#8).toNat ∈ [12, 18, 24, 36, 48, 60] ∧ (61#8).toNat ∉ [12, 18, 24, 36, 48, 60]) ∧
    (taken (.setSyncCam host 0#8) host (synced State.reset) ∧ (synced State.reset).ad.sync ≠ .stopped) ∧
    (taken (.setSyncCam host 0#8) host State.reset ∧ (0#8).toNat = Phaser.fi.index ∧
      ((State.reset.cam .fi).teeth.filter fun a => decide (a < 5760)).length ≠
        ((State.reset.cam .fi).teeth.filter fun a => decide (5760 ≤ a)).length ∧
      ((State.reset.cam .fe).teeth.filter fun a => decide (a < 5760)).length =
        ((State.reset.cam .fe).teeth.filter fun a => decide (5760 ≤ a)).length) :=
  ⟨⟨ready rfl, by decide, by decide⟩, ready rfl, ⟨ready rfl, rfl, by decide, by decide⟩, ⟨ready rfl, by decide +kernel⟩,
    ready rfl, by decide, by decide +kernel, by decide +kernel⟩

/-- The status that a write of FI's tooth list is answered with. -/
def toothListStatus (n : Byte) (a0 a1 a2 : Half) (s : State) : Option Status :=
  (after (.setToothList host .fi n ⟨a0, a1, a2, 0#16⟩) s).fp.slot.map fun r => r.status

/-- A tooth list that passes, and one that fails each check: not STOPPED; count, spacing, and the sync cam's halves. -/
theorem witness_CaptureParametersAreChecked :
    (taken (.setToothList host .fi 3#8 ⟨960#16, 3200#16, 6720#16, 0#16⟩) host State.reset ∧
      State.reset.ad.sync = .stopped ∧ toothListStatus 3#8 960#16 3200#16 6720#16 State.reset = some .ok ∧
      toothListStatus 0#8 960#16 3200#16 6720#16 State.reset = some .badValue ∧
      toothListStatus 2#8 960#16 2400#16 0#16 State.reset = some .badValue ∧
      toothListStatus 2#8 960#16 6720#16 0#16 State.reset = some .badValue ∧
      toothListStatus 3#8 960#16 3200#16 6720#16 (synced State.reset) = some .notStopped) ∧
    (taken (.setCamPolarity host .fe 1#8) host State.reset ∧ (1#8).toNat ≤ 1 ∧ 2 ≤ (2#8).toNat) ∧
    taken (.setWindowMargin host 480#16) host State.reset ∧ taken (.setCamLostCount host 9#16) host State.reset := by
  refine ⟨⟨ready rfl, ?_⟩, ⟨ready rfl, ?_⟩, ready rfl, ready rfl⟩ <;> decide +kernel

theorem witness_SequencerLoopAndPwmParametersAreWritten :
    (taken (.setReleaseDuty host 2999#16) host (permitted .releasing (some 5)) ∧
      ((permitted .releasing (some 5)).phaser .fi).state = .releasing) ∧
    (let s := permitted .parked none
     taken (.setReleaseThresholds host .temperature 0#16) host s ∧ (s.phaser .fi).state = .parked ∧
      s.numeric .fi = true ∧ s.unfaulted .fi = true ∧
      (after (.setReleaseThresholds host .temperature 0#16) s).permission = true) ∧
    (let s := (inEach .tracking).setDecoder { turning with speed := 1600 }
     s.fp.work = none ∧ s.unfaulted .fi = true ∧ (s.phaser .fi).faultDue = false ∧
      (after (.setReleaseThresholds host .speed 2000#16) s).withdrawn = true ∧
      ((after (.setReleaseThresholds host .speed 2000#16) s).phaser .fi).state = .returning ∧
      (after (.setReleaseThresholds host .speed 1800#16) s).withdrawn = false ∧
      ((after (.setReleaseThresholds host .speed 1800#16) s).phaser .fi).state = .tracking) ∧
    (taken (.setTrackFaultTime host .track 1001#16) host State.reset ∧
      State.reset.ps.params.faultTime < max 20 (min 2000 (1001#16).toNat) ∧
      max 20 (min 2000 (1000#16).toNat) ≤ State.reset.ps.params.faultTime) ∧
    taken (.setIntegratorLimit host .fi 5001#16) host State.reset ∧
    (taken (.setDutyLimit host .fi .lower 9500#16) host State.reset ∧
      ¬ min 10000 (9500#16).toNat < (State.reset.loop .fi).params.dmax ∧
      min 10000 (9499#16).toNat < (State.reset.loop .fi).params.dmax) ∧
    taken (.setPwmFrequency host 99#16) host State.reset := by
  refine ⟨⟨ready rfl, ?_⟩, ⟨ready rfl, ?_⟩, ?_, ⟨ready rfl, ?_⟩, ready rfl, ⟨ready rfl, ?_⟩, ready rfl⟩ <;> decide +kernel

/-- R58: a write that narrows FI's window clamps its target, and one that widens it again brings the setpoint's 320 back. -/
theorem test_window_write_recomputes :
    (let write := fun v : Half => Instr.setAuthorityWindow host .fi .upper v
     let s := targeted (withRecord 0 live) 320
     let t := after (write 200#16) s
     ((t.resolver .fi).record.target, (t.resolver .fi).record.authClamp) = (.au 200, true) ∧
      ((after (write 800#16) t).resolver .fi).record.target = .au 320) := by decide +kernel

/-- FI's window: a bound that passes, one of the wrong sign, and one that brings two windows together. -/
theorem witness_AuthorityWindowIsCheckedStoredAndRecomputed :
    (taken (.setAuthorityWindow host .fi .upper 800#16) host State.reset ∧ (0 : Int) < min 5759 (800#16).toInt ∧
      (State.reset.resolver .fi).windowOk ∧
      (State.reset.cam .fi).teeth.Pairwise (fun y z =>
        (800 : Int) - (-160) + 2 * State.reset.ec.margin < ((y : Int) - z) % 11520 ∧
        (800 : Int) - (-160) + 2 * State.reset.ec.margin < ((z : Int) - y) % 11520)) ∧
    ¬ (0 : Int) < min 5759 (0#16).toInt ∧
    ¬ (State.reset.cam .fi).teeth.Pairwise (fun y z =>
        (5759 : Int) - (-160) + 2 * State.reset.ec.margin < ((y : Int) - z) % 11520 ∧
        (5759 : Int) - (-160) + 2 * State.reset.ec.margin < ((z : Int) - y) % 11520) := by
  refine ⟨⟨ready rfl, by decide, by unfold Resolver.windowOk; decide, by decide +kernel⟩, by decide, by decide +kernel⟩

theorem witness_ReadoutsShowTheStateAndChangeNothing :
    (4 ≤ (4#8).toNat ∧ taken (.readPhaser host 4#8) host State.reset ∧ taken (.resolve host 4#8) host State.reset) ∧
    (taken (.readPhaser host 0#8) host (permitted .tracking none) ∧
      ((permitted .tracking none).resolver .fi).record.target = .au 320 ∧ (State.reset.resolver .fi).record.target = .park) ∧
    (taken (.resolve host 0#8) host (noted (.hold 5 .base) .expired) ∧
      ((noted (.hold 5 .base) .expired).resolver .fi).record.disposition = .hold 5 .base) ∧
    (taken (.readEngine host) host (synced State.reset) ∧ (synced State.reset).ad.sync = .cycleSync ∧
      (synced State.reset).ad.toothIndex = some 13 ∧ (synced State.reset).ad.half = some .first ∧
      State.reset.ad.sync = .stopped ∧ State.reset.ad.lastNormal = none ∧ turning.lastNormal = some 3333 ∧
      cranking.sync = .crankSync ∧ cranking.toothIndex = some 21) :=
  ⟨⟨by decide, ready rfl, ready rfl⟩, ⟨ready rfl, by decide +kernel⟩, ⟨ready rfl, by decide +kernel⟩, ready rfl,
    by decide +kernel⟩

/-- Over-band times below, at and above the two limits. -/
theorem witness_TimeBaseAdvanceMovesEveryTimer :
    (overBand.phaser .fi).overBand = some 1000 ∧ (State.reset.phaser .fi).overBand = none ∧
    ((inState .returning (some 5)).phaser .fi).timer = some 5 ∧ (State.reset.phaser .fi).timer = none := by decide +kernel

/-- R8: a deadline that has run out does not pass the next advance: the record expires before it. A state timer does not
either. -/
theorem test_run_out_is_taken_before_the_next_advance :
    (let s := withRecord 0 { live with deadline := some 1 }
     let t := after .timeBaseAdvance s
     (t.rt.slots.get 0).record.map (fun r => r.deadline) = some (some 0) ∧
      ((after .timeBaseAdvance t).rt.slots.get 0).record = none ∧
      ((after .timeBaseAdvance t).phGroup .fi).expired = some ⟨1, ⟨0#5, 1#4⟩⟩) ∧
    ((after .timeBaseAdvance (inState .returning (some 0))).phaser .fi).state = .faulted := by
  refine ⟨?_, ?_⟩ <;> decide +kernel

/-! ### Witnesses: the laws -/

theorem reset_table : TableLaw State.reset := by
  constructor
  · intro i r h
    rw [show State.reset.rt.slots = Slots.empty from rfl, slots_get_empty] at h
    cases h
  · intro i j r q h
    rw [show State.reset.rt.slots = Slots.empty from rfl, slots_get_empty] at h
    cases h

theorem reset_window : WindowLaw State.reset := by
  intro p
  unfold Resolver.windowOk
  cases p <;> exact ⟨by decide, trivial, by decide, by decide⟩

theorem reset_loop_duty : LoopLaw State.reset ∧ DutyLaw State.reset := by
  refine ⟨fun p => ?_, by decide, fun p => ?_⟩ <;> cases p <;> decide

theorem reset_phasers : PhaserLaw State.reset ∧ DepartureLaw State.reset := by
  refine ⟨fun p => ?_, fun _ _ p => ?_⟩
  · unfold phaserOk
    cases p <;> decide
  · cases p <;> exact .inl rfl

theorem reset_sync : SyncLaw State.reset := by
  unfold SyncLaw
  refine ⟨by decide, by decide, by decide, by decide, by decide, fun c => ?_⟩
  cases c <;> decide

/-- A step of a lawful state answers a next state. -/
theorem reset_steps : ∃ t, step State.reset = .next t := ⟨_, rfl⟩

theorem witness_StepKeepsTheTableLaw : TableLaw State.reset ∧ ∃ t, step State.reset = .next t := ⟨reset_table, reset_steps⟩

theorem witness_StepKeepsTheWindowLaw : WindowLaw State.reset ∧ ∃ t, step State.reset = .next t := ⟨reset_window, reset_steps⟩

theorem witness_StepKeepsTheLoopAndDutyLaws :
    (LoopLaw State.reset ∧ DutyLaw State.reset) ∧ ∃ t, step State.reset = .next t := ⟨reset_loop_duty, reset_steps⟩

theorem witness_StepKeepsThePhaserAndDepartureLaws :
    (PhaserLaw State.reset ∧ DepartureLaw State.reset) ∧ ∃ t, step State.reset = .next t := ⟨reset_phasers, reset_steps⟩

theorem witness_StepKeepsTheSyncAndStatusLaws :
    (SyncLaw State.reset ∧ StatusLaw State.reset) ∧ ∃ t, step State.reset = .next t :=
  ⟨⟨reset_sync, witness_FirstToothMovesTheDecoderToSeeking.2.2.2⟩, reset_steps⟩

theorem witness_CommandsTouchOnlyTheirBlocks :
    (Instr.nop host).wellFormed = true ∧ exec (.nop host) State.reset = .next (after (.nop host) State.reset) ∧
    Block.rt ∉ touches (.nop host) := ⟨by decide, rfl, by decide⟩

theorem witness_EventsOfOnePhaserLeaveTheOthers :
    Phaser.fe ≠ .fi ∧
    exec (.periodStart .fi) State.reset = .next (after (.periodStart .fi) State.reset) := ⟨by decide, rfl⟩

end Sys2Proof.Tests
end

section
/-! ## What the events of the part leave unchanged

The Sequencer's moves, the recomputes and the timer events, with the fields that the table and the time base read: the
Request Table, the port, the clock, the Sequencer's parameters and every phaser's enable. -/

namespace Sys2Proof.Machine

open Sys2Proof

/-! ### The enable of a phaser under the moves of the Sequencer (R104, R122) -/

@[simp] theorem updateHeld_enable (p : Phaser) (s : State) :
    ((updateHeld p s).phaser p).enable = (s.phaser p).enable := by
  rw [updateHeld_phaser]

@[simp] theorem moveTo_enable (p : Phaser) (st : PhaserState) (timer : Option Nat) (s : State) :
    ((moveTo p st timer s).phaser p).enable = (s.phaser p).enable := by
  rw [moveTo_record]
  split <;> rfl

@[simp] theorem moveToTracking_enable (p : Phaser) (s : State) :
    ((moveToTracking p s).phaser p).enable = (s.phaser p).enable := by
  simp [moveToTracking]

@[simp] theorem faultEntry_enable (p : Phaser) (c : CauseSet) (s : State) :
    ((faultEntry p c s).phaser p).enable = (s.phaser p).enable := by
  rw [faultEntry_phaser]
  exact moveTo_enable p _ _ s

@[simp] theorem faultStanding_enable (p : Phaser) (s : State) :
    ((faultStanding p s).phaser p).enable = (s.phaser p).enable := by
  unfold faultStanding
  split
  · rfl
  · rfl
  · split
    · rfl
    · exact faultEntry_enable p _ s

@[simp] theorem declareTrackErr_enable (p : Phaser) (s : State) :
    ((declareTrackErr p s).phaser p).enable = (s.phaser p).enable := by
  rw [declareTrackErr_phaser]

@[simp] theorem overBandEvent_enable (p : Phaser) (s : State) :
    ((overBandEvent p s).phaser p).enable = (s.phaser p).enable := by
  unfold overBandEvent
  split
  · split <;> simp
  · rfl

@[simp] theorem enterTracking_enable (p : Phaser) (s : State) :
    ((enterTracking p s).phaser p).enable = (s.phaser p).enable := by
  simp [enterTracking]

@[simp] theorem checkParked_enable (p : Phaser) (s : State) :
    ((checkParked p s).phaser p).enable = (s.phaser p).enable := by
  unfold checkParked
  split
  · simp [enterReleasing]
  · rfl

@[simp] theorem checkReturning_enable (p : Phaser) (s : State) :
    ((checkReturning p s).phaser p).enable = (s.phaser p).enable := by
  unfold checkReturning
  split
  · exact enterTracking_enable p s
  · rfl

@[simp] theorem enterParked_enable (p : Phaser) (s : State) :
    ((enterParked p s).phaser p).enable = (s.phaser p).enable := by
  simp [enterParked]

@[simp] theorem enterReturning_enable (p : Phaser) (s : State) :
    ((enterReturning p s).phaser p).enable = (s.phaser p).enable := by
  simp [enterReturning]

@[simp] theorem evaluateNow_enable (p : Phaser) (s : State) :
    ((evaluateNow p s).phaser p).enable = (s.phaser p).enable := by
  unfold evaluateNow
  rw [updateHeld_enable]
  split
  · exact checkParked_enable p s
  · exact checkReturning_enable p s
  · split
    · exact enterReturning_enable p s
    · rfl
  · split
    · exact enterReturning_enable p s
    · rfl
  · rfl

@[simp] theorem targetHandled_enable (p : Phaser) (was : Target) (s : State) :
    ((targetHandled p was s).phaser p).enable = (s.phaser p).enable := by
  unfold targetHandled
  split
  · simp
  · simp
  · rfl
  · rfl
  · split
    · rfl
    · split <;> simp

@[simp] theorem endRelease_enable (p : Phaser) (s : State) :
    ((endRelease p s).phaser p).enable = (s.phaser p).enable := by
  unfold endRelease
  split <;> simp

@[simp] theorem endReturn_enable (p : Phaser) (s : State) :
    ((endReturn p s).phaser p).enable = (s.phaser p).enable := by
  unfold endReturn
  split <;> simp

@[simp] theorem endLatch_enable (p : Phaser) (s : State) :
    ((endLatch p s).phaser p).enable = (s.phaser p).enable := by
  unfold endLatch
  split <;> simp

/-! ### The frame of an event that no block of the host's asks for -/

/-- What every recompute, expiry and timer event leaves as it was. -/
structure ClockFrame (s t : State) : Prop where
  fp : t.fp = s.fp
  counter : t.counter = s.counter
  msTicks : t.msTicks = s.msTicks
  params : t.ps.params = s.ps.params
  enable : ∀ p, (t.phaser p).enable = (s.phaser p).enable

theorem ClockFrame.refl (s : State) : ClockFrame s s := ⟨rfl, rfl, rfl, rfl, fun _ => rfl⟩

theorem ClockFrame.trans {s t u : State} (a : ClockFrame s t) (b : ClockFrame t u) : ClockFrame s u :=
  ⟨b.fp.trans a.fp, b.counter.trans a.counter, b.msTicks.trans a.msTicks, b.params.trans a.params,
   fun p => (b.enable p).trans (a.enable p)⟩

/-- The frame of an event that leaves the Request Table too. -/
structure EventFrame (s t : State) : Prop extends ClockFrame s t where
  rt : t.rt = s.rt

theorem EventFrame.refl (s : State) : EventFrame s s := ⟨.refl s, rfl⟩

theorem EventFrame.trans {s t u : State} (a : EventFrame s t) (b : EventFrame t u) : EventFrame s u :=
  ⟨a.toClockFrame.trans b.toClockFrame, b.rt.trans a.rt⟩

/-- A move of one phaser that keeps its enable has the frame. -/
theorem SeqLocal.eventFrame {p : Phaser} {s t : State} (h : SeqLocal p s t)
    (he : (t.phaser p).enable = (s.phaser p).enable) : EventFrame s t := by
  refine ⟨⟨h.frame.fp, h.frame.counter, h.frame.msTicks, h.frame.params, fun q => ?_⟩, h.frame.rt⟩
  by_cases hq : q = p
  · rw [hq, he]
  · rw [h.phaser q hq]

theorem event_overBandEvent (p : Phaser) (s : State) : EventFrame s (overBandEvent p s) :=
  (local_overBandEvent p s).eventFrame (overBandEvent_enable p s)

theorem event_evaluate (p : Phaser) (s : State) : EventFrame s (evaluate p s) :=
  (event_overBandEvent p s).trans ((local_evaluateNow p _).eventFrame (evaluateNow_enable p _))

theorem event_evaluateAll (s : State) : EventFrame s (evaluateAll s) :=
  (((event_evaluate .fi s).trans (event_evaluate .fe _)).trans (event_evaluate .ri _)).trans (event_evaluate .re _)

theorem event_takeTimers (p : Phaser) (s : State) : EventFrame s (takeTimers p s) :=
  (local_takeTimers p s).eventFrame (by simp [takeTimers])

theorem event_setResolver (p : Phaser) (r : Resolver) (s : State) : EventFrame s (s.setResolver p r) :=
  ⟨⟨rfl, rfl, rfl, rfl, fun _ => rfl⟩, rfl⟩

theorem event_drive (p : Phaser) (e : PhCond) (b : Bool) (s : State) : EventFrame s (s.drive p e b) :=
  ⟨⟨rfl, rfl, rfl, rfl, fun _ => rfl⟩, rfl⟩

/-! ### Recomputes (R48, R60, R61) -/

theorem event_recomputePhaser (p : Phaser) (s : State) : EventFrame s (recomputePhaser p s) :=
  (((event_overBandEvent p s).trans (event_setResolver p _ _)).trans (event_drive p _ _ _)).trans
    ((local_targetHandled p _ _).eventFrame (targetHandled_enable p _ _))

theorem event_takeRecompute (p : Phaser) (s : State) : EventFrame s (takeRecompute p s) := by
  unfold takeRecompute
  split
  · exact .refl s
  · exact (event_setResolver p _ s).trans (event_recomputePhaser p _)

/-- A run of one operation over a list, each of whose steps has the frame. -/
theorem event_foldl {α : Type} (f : State → α → State) (h : ∀ s a, EventFrame s (f s a)) (l : List α) (s : State) :
    EventFrame s (l.foldl f s) :=
  List.foldlRecOn l f (EventFrame.refl s) fun t ht a _ => ht.trans (h t a)

theorem event_settle (who : Asker → Bool) (p : Phaser) (s : State) : EventFrame s (settle who p s) := by
  unfold settle
  split
  · exact event_foldl _ (fun s _ => event_takeRecompute p s) _ s
  · exact .refl s

theorem event_settleGroup (who : Asker → Bool) (g : Group) (s : State) : EventFrame s (settleGroup who g s) := by
  cases g
  · exact (event_settle who .fi s).trans (event_settle who .fe _)
  · exact (event_settle who .ri s).trans (event_settle who .re _)

/-! ### The freshness timer and the stop timer (R68, R107) -/

theorem event_goStale (s : State) : EventFrame s (goStale s) := by
  unfold goStale
  split
  · refine EventFrame.trans ?_ (event_evaluateAll _)
    exact ⟨⟨rfl, rfl, rfl, rfl, fun _ => rfl⟩, rfl⟩
  · exact .refl s

theorem event_storeTooth (d : Decoder) (doubts : Bool) (s : State) : EventFrame s (storeTooth d doubts s) := by
  unfold storeTooth
  cases doubts <;> exact ⟨⟨rfl, rfl, rfl, rfl, fun _ => rfl⟩, rfl⟩

theorem event_captureDeparture (s : State) : EventFrame s (captureDeparture s) :=
  ⟨⟨rfl, rfl, rfl, rfl, fun _ => rfl⟩, rfl⟩

theorem event_stopEngine (s : State) : EventFrame s (stopEngine s) := by
  unfold stopEngine
  split
  · dsimp only
    split
    · exact (event_storeTooth _ _ s).trans (event_captureDeparture _)
    · exact event_storeTooth _ _ s
  · exact .refl s

/-! ### The expiry of a record (R24, R25) -/

theorem clock_expireSlot (i : Fin 24) (s : State) : ClockFrame s (expireSlot i s) := by
  unfold expireSlot
  split
  · exact .refl s
  · split
    · exact (event_settleGroup _ _ s).toClockFrame.trans ⟨rfl, rfl, rfl, rfl, fun _ => rfl⟩
    · exact .refl s

end Sys2Proof.Machine
end

section
/-! ## The law of the Request Table (R1, R2, R4, R6, R8) -/

namespace Sys2Proof.Machine

open Sys2Proof

/-! ### Slots after an update -/

theorem slots_get_setRecord (t : Slots) (i j : Fin 24) (r : Option Record) :
    (t.setRecord i r).get j = if j = i then { t.get i with record := r } else t.get j :=
  slots_get_set t i j _

/-! ### One table after another -/

/-- A record is as R1, R6 and R8 state. -/
def Record.lawful (r : Record) : Prop := r.contentsOk ∧ r.deadlineOk

/-- Every record of the table `u` continues the record that `t` holds in the same slot: its key is kept, and it is
lawful where that one was. -/
def Slots.continues (t u : Slots) : Prop :=
  ∀ i r', (u.get i).record = some r' → ∃ r, (t.get i).record = some r ∧ r'.key = r.key ∧ (r.lawful → r'.lawful)

theorem continues_refl (t : Slots) : t.continues t := fun _ r h => ⟨r, h, rfl, id⟩

theorem tableLaw_of_continues {s t : State} (h : s.rt.slots.continues t.rt.slots) (law : TableLaw s) : TableLaw t := by
  obtain ⟨records, keys⟩ := law
  constructor
  · intro i r' hr'
    obtain ⟨r, hr, -, hl⟩ := h i r' hr'
    exact hl (records i r hr)
  · intro i j r' q' hr' hq' hk
    obtain ⟨r, hr, hkr, -⟩ := h i r' hr'
    obtain ⟨q, hq, hkq, -⟩ := h j q' hq'
    exact keys i j r q hr hq (by rw [← hkr, ← hkq, hk])

theorem tableLaw_of_slots {s t : State} (h : t.rt.slots = s.rt.slots) (law : TableLaw s) : TableLaw t :=
  tableLaw_of_continues (by rw [h]; exact continues_refl _) law

theorem tableLaw_of_rt {s t : State} (h : t.rt = s.rt) (law : TableLaw s) : TableLaw t :=
  tableLaw_of_slots (by rw [h]) law

/-- A table without records is lawful. -/
theorem tableLaw_of_free {s : State} (h : ∀ i, (s.rt.slots.get i).record = none) : TableLaw s := by
  constructor
  · intro i r hr
    rw [h i] at hr
    cases hr
  · intro i j r q hr
    rw [h i] at hr
    cases hr

/-- One slot's record replaced by one that continues it, or freed. -/
theorem continues_setRecord {t : Slots} {i : Fin 24} {r : Record} (hr : (t.get i).record = some r) {o : Option Record}
    (ho : ∀ r', o = some r' → r'.key = r.key ∧ (r.lawful → r'.lawful)) : t.continues (t.setRecord i o) := by
  intro j r' hr'
  rw [slots_get_setRecord] at hr'
  by_cases hj : j = i
  · subst hj
    rw [if_pos rfl] at hr'
    exact ⟨r, hr, ho r' hr'⟩
  · rw [if_neg hj] at hr'
    exact ⟨r', hr', rfl, id⟩

/-- Every slot changed by a function that continues or frees its record. -/
theorem continues_map {f : Slot → Slot}
    (hf : ∀ x r', (f x).record = some r' → ∃ r, x.record = some r ∧ r'.key = r.key ∧ (r.lawful → r'.lawful))
    (t : Slots) : t.continues (t.map f) := by
  intro i r' hr'
  rw [slots_get_map] at hr'
  exact hf _ r' hr'

/-! ### What the checks of a content let through (R6, R7) -/

theorem readTarget_cases {w : Half} {t : Target} (h : readTarget w = some t) :
    t = .park ∨ t = .au w.toInt ∧ -5760 ≤ w.toInt ∧ w.toInt ≤ 5759 := by
  unfold readTarget at h
  split at h
  · exact .inl (Option.some.inj h).symm
  · split at h
    · rename_i hr
      exact .inr ⟨(Option.some.inj h).symm, hr⟩
    · cases h

theorem readContent_inRange {k : Kind} {c : ContentField} {n : Content} (h : readContent k c = some n) :
    n.inRange ∧ n.kind = k := by
  have hka : c.keepAlive.toNat ≤ 255 := Nat.le_of_lt_succ c.keepAlive.isLt
  cases k with
  | setpoint =>
    simp only [readContent] at h
    split at h
    · rename_i t f ht hf
      obtain rfl := Option.some.inj h
      obtain rfl | ⟨rfl, hlo, hhi⟩ := readTarget_cases ht
      · exact ⟨⟨Nat.min_le_left _ _, hka⟩, rfl⟩
      · exact ⟨⟨hlo, hhi, Nat.min_le_left _ _, hka⟩, rfl⟩
    · cases h
  | trim =>
    simp only [readContent] at h
    split at h
    · rename_i hr
      obtain rfl := Option.some.inj h
      exact ⟨⟨hr.1, hr.2, hka⟩, rfl⟩
    · cases h
  | limit =>
    simp only [readContent] at h
    split at h
    · rename_i hr
      obtain ⟨hlo, hhi, hle⟩ := hr
      obtain rfl := Option.some.inj h
      exact ⟨⟨hlo, hhi, hle, hka⟩, rfl⟩
    · cases h

/-! ### Records after each operation (R8, R9, R14, R17, R32, R33) -/

@[simp] theorem restarted_key (r : Record) : r.restarted.key = r.key := by
  unfold Record.restarted
  split <;> rfl

@[simp] theorem restarted_life (r : Record) : r.restarted.life = r.life := by
  unfold Record.restarted
  split <;> rfl

theorem contentsOk_restarted {r : Record} (h : r.contentsOk) : r.restarted.contentsOk := by
  unfold Record.contentsOk
  rw [restarted_life, restarted_key]
  exact h

theorem deadlineOk_restarted {r : Record} (h : r.deadlineOk) : r.restarted.deadlineOk := by
  unfold Record.deadlineOk at h ⊢
  rw [restarted_life]
  unfold Record.restarted
  cases ha : r.life.active with
  | none => simpa [ha] using h
  | some c =>
    simp only [ha] at h ⊢
    split at h
    · rename_i hz
      simp [hz, h]
    · rename_i hz
      obtain ⟨n, hn, -⟩ := h
      simp [hz, hn]

theorem restarted_lawful {r : Record} (h : r.lawful) : r.restarted.lawful :=
  ⟨contentsOk_restarted h.1, deadlineOk_restarted h.2⟩

/-- A CHANGE keeps the active content. -/
theorem change_active (l : Life) (n : Content) : (l.change n).active = l.active := by
  cases l <;> rfl

theorem change_pending (l : Life) (n : Content) : (l.change n).pending = some n := by
  cases l <;> rfl

theorem changed_lawful {r : Record} {n : Content} (hn : n.inRange ∧ n.kind = r.key.kind) (h : r.lawful) :
    Record.lawful { r with life := r.life.change n } := by
  obtain ⟨hc, hd⟩ := h
  constructor
  · rintro c (ha | hp)
    · rw [change_active] at ha
      exact hc c (.inl ha)
    · rw [change_pending] at hp
      obtain rfl := Option.some.inj hp
      exact hn
  · unfold Record.deadlineOk at hd ⊢
    rw [change_active]
    exact hd

theorem retire_continues {r r' : Record} (h : r.retire = some r') : r'.key = r.key ∧ (r.lawful → r'.lawful) := by
  obtain ⟨key, life, deadline⟩ := r
  cases life <;> simp only [Record.retire, Option.some.injEq, reduceCtorEq] at h
  case live a =>
    subst h
    exact ⟨rfl, fun ⟨hc, hd⟩ => ⟨hc, hd⟩⟩
  case changed a p =>
    subst h
    refine ⟨rfl, fun ⟨hc, hd⟩ => ⟨?_, hd⟩⟩
    rintro c (ha | hp)
    · exact hc c (.inl ha)
    · cases hp
  case retiring a =>
    subst h
    exact ⟨rfl, id⟩

/-- A promotion starts the deadline at the interval of the content it makes active (R33). -/
theorem promoted_lawful {key : Key} {p : Content} (hp : p.inRange ∧ p.kind = key.kind) :
    Record.lawful ⟨key, .live p, p.deadline⟩ := by
  constructor
  · rintro c (ha | hn)
    · obtain rfl := Option.some.inj ha
      exact hp
    · cases hn
  · simp only [Record.deadlineOk, Life.active, Content.deadline]
    split
    · rfl
    · exact ⟨_, rfl, Nat.le_refl _⟩

theorem applied_continues {r r' : Record} (h : r.applied = some r') : r'.key = r.key ∧ (r.lawful → r'.lawful) := by
  obtain ⟨key, life, deadline⟩ := r
  cases life <;> simp only [Record.applied, Option.some.injEq, reduceCtorEq] at h <;> subst h
  case posted p => exact ⟨rfl, fun h => promoted_lawful (h.1 p (.inr rfl))⟩
  case changed a p => exact ⟨rfl, fun h => promoted_lawful (h.1 p (.inr rfl))⟩
  case live a => exact ⟨rfl, id⟩

theorem slot_applied_continues {c : Coverage} {x : Slot} {r' : Record} (h : (x.applied c).record = some r') :
    ∃ r, x.record = some r ∧ r'.key = r.key ∧ (r.lawful → r'.lawful) := by
  unfold Slot.applied at h
  cases hx : x.record with
  | none => simp [hx] at h
  | some r =>
    simp only [hx] at h
    split at h
    · exact ⟨r, rfl, applied_continues h⟩
    · rw [hx] at h
      obtain rfl := Option.some.inj h
      exact ⟨_, rfl, rfl, id⟩

/-- An advance of the time base shortens a deadline (R8). -/
theorem slot_advance_continues {x : Slot} {r' : Record} (h : x.advance.record = some r') :
    ∃ r, x.record = some r ∧ r'.key = r.key ∧ (r.lawful → r'.lawful) := by
  obtain ⟨r, hr, rfl⟩ := Option.map_eq_some_iff.mp h
  refine ⟨r, hr, rfl, fun ⟨hc, hd⟩ => ⟨hc, ?_⟩⟩
  unfold Record.deadlineOk at hd ⊢
  cases ha : r.life.active with
  | none =>
    simp only [ha] at hd ⊢
    rw [hd]
    rfl
  | some c =>
    simp only [ha] at hd ⊢
    split at hd
    · rename_i hz
      rw [if_pos hz, hd]
      rfl
    · rename_i hz
      obtain ⟨n, hn, hle⟩ := hd
      rw [if_neg hz, hn]
      exact ⟨n - 1, rfl, by omega⟩

theorem slot_renewClass_continues {c : Cls} {x : Slot} {r' : Record} (h : (x.renewClass c).record = some r') :
    ∃ r, x.record = some r ∧ r'.key = r.key ∧ (r.lawful → r'.lawful) := by
  obtain ⟨r, hr, rfl⟩ := Option.map_eq_some_iff.mp h
  refine ⟨r, hr, ?_⟩
  split
  · exact ⟨restarted_key r, restarted_lawful⟩
  · exact ⟨rfl, id⟩

/-! ### The commands of the Request Table -/

theorem resolve_record {t : Slots} {h : Handle} {i : Fin 24} {r : Record} (hr : t.resolve h = .ok (i, r)) :
    (t.get i).record = some r := (resolve_ok hr).2.1

theorem posted_lawful {key : Key} {c : Content} (hc : c.inRange ∧ c.kind = key.kind) :
    Record.lawful ⟨key, .posted c, none⟩ := by
  refine ⟨?_, rfl⟩
  rintro d (ha | hp)
  · cases ha
  · obtain rfl := Option.some.inj hp
    exact hc

/-- A lawful record with a key that no other record holds can stand in any slot. -/
theorem tableLaw_set {s : State} {i : Fin 24} {g : BitVec 4} {r' : Record} (hl : r'.lawful)
    (hk : ∀ j r, (s.rt.slots.get j).record = some r → r.key ≠ r'.key) (law : TableLaw s) :
    TableLaw (s.setSlots (s.rt.slots.set i ⟨g, some r'⟩)) := by
  obtain ⟨records, keys⟩ := law
  constructor
  · intro j r hr
    rw [setSlots_slots, slots_get_set] at hr
    split at hr
    · obtain rfl := Option.some.inj hr
      exact hl
    · exact records j r hr
  · intro j l r q hr hq hrq
    rw [setSlots_slots, slots_get_set] at hr hq
    split at hr <;> split at hq
    · rename_i hj hl
      rw [hj, hl]
    · obtain rfl := Option.some.inj hr
      exact absurd hrq.symm (hk l q hq)
    · obtain rfl := Option.some.inj hq
      exact absurd hrq (hk j r hr)
    · exact keys j l r q hr hq hrq

theorem findKey_none {t : Slots} {k : Key} (h : t.findKey k = none) (i : Fin 24) (r : Record)
    (hr : (t.get i).record = some r) : r.key ≠ k := by
  simpa using findRecord_none h i r hr

theorem tableLaw_ownPost (snd : Sender) (key : KeyField) (cf : ContentField) {s : State} (law : TableLaw s) :
    TableLaw (ownPost snd key cf s).1 := by
  unfold ownPost
  split
  · exact law
  · rename_i k hk
    split
    · split
      · exact law
      · rename_i c hc
        split
        · exact law
        · rename_i hfind
          split
          · exact law
          · exact tableLaw_set (posted_lawful (readContent_inRange hc)) (findKey_none hfind) law
    · exact law

theorem tableLaw_ownChange (snd : Sender) (h : Handle) (kind : Byte) (cf : ContentField) {s : State}
    (law : TableLaw s) : TableLaw (ownChange snd h kind cf s).1 := by
  unfold ownChange
  split
  · exact law
  · rename_i i r hr
    split
    · split
      · exact law
      · rename_i n hn
        split
        · refine tableLaw_of_continues (continues_setRecord (resolve_record hr) fun r' hr' => ?_) law
          obtain rfl := Option.some.inj hr'
          refine ⟨restarted_key r, fun hl => ?_⟩
          have := changed_lawful (n := n) (r := r.restarted) (by simpa using readContent_inRange hn)
            (restarted_lawful hl)
          simpa using this
        · refine tableLaw_of_continues (continues_setRecord (resolve_record hr) fun r' hr' => ?_) law
          obtain rfl := Option.some.inj hr'
          exact ⟨restarted_key r, restarted_lawful⟩
    · exact law

theorem tableLaw_ownRetire (snd : Sender) (h : Handle) {s : State} (law : TableLaw s) :
    TableLaw (ownRetire snd h s).1 := by
  unfold ownRetire
  split
  · exact law
  · rename_i i r hr
    split
    · exact tableLaw_of_continues (continues_setRecord (resolve_record hr) fun _ => retire_continues) law
    · exact law

theorem tableLaw_ownRenew (h : Handle) {s : State} (law : TableLaw s) : TableLaw (ownRenew h s).1 := by
  unfold ownRenew
  split
  · exact law
  · rename_i i r hr
    refine tableLaw_of_continues (continues_setRecord (resolve_record hr) fun r' hr' => ?_) law
    obtain rfl := Option.some.inj hr'
    exact ⟨restarted_key r, restarted_lawful⟩

theorem tableLaw_ownRenewClass (b : Byte) {s : State} (law : TableLaw s) : TableLaw (ownRenewClass b s).1 := by
  unfold ownRenewClass
  split
  · exact law
  · exact tableLaw_of_continues (continues_map (fun _ _ => slot_renewClass_continues) _) law

/-! ### The apply and the expiry (R24, R32) -/

@[simp] theorem askAfterApply_rt (who : Asker) (c : Coverage) (t : Slots) (p : Phaser) (s : State) :
    (askAfterApply who c t p s).rt = s.rt := by
  unfold askAfterApply
  split <;> rfl

@[simp] theorem askAll_rt (who : Asker) (c : Coverage) (t : Slots) (s : State) : (askAll who c t s).rt = s.rt := by
  simp [askAll]

/-- An apply changes the slots by the rules R32 and R33 alone. -/
theorem applyGroups_slots (who : Asker) (c : Coverage) (s : State) :
    (applyGroups who c s).rt.slots = s.rt.slots.map (Slot.applied c) := by
  have hf : (if c.front then settleGroup Asker.byApply .front s else s).rt = s.rt := by
    split
    · exact (event_settleGroup _ _ s).rt
    · rfl
  have hr : ∀ t : State, (if c.rear then settleGroup Asker.byApply .rear t else t).rt = t.rt := by
    intro t
    split
    · exact (event_settleGroup _ _ t).rt
    · rfl
  simp only [applyGroups, askAll_rt, setSlots_slots, hr, hf]

theorem tableLaw_applyGroups (who : Asker) (c : Coverage) {s : State} (law : TableLaw s) :
    TableLaw (applyGroups who c s) := by
  refine tableLaw_of_continues ?_ law
  rw [applyGroups_slots]
  exact continues_map (fun _ _ => slot_applied_continues) _

theorem tableLaw_ownApply (sel : Byte) {s : State} (law : TableLaw s) : TableLaw (ownApply sel s).1 := by
  unfold ownApply
  split
  · exact law
  · exact tableLaw_applyGroups _ _ law

/-- A slot after the expiry of its record, if the record's deadline has run out. -/
def Slot.expired (x : Slot) : Slot := { x with record := x.record.filter fun r => !runOut r.deadline }

theorem expired_free {x : Slot} (h : x.record = none) : x.expired = x := by
  unfold Slot.expired
  rw [h, Option.filter_none, ← h]

theorem expired_waiting {x : Slot} {r : Record} (h : x.record = some r) (hd : runOut r.deadline = false) :
    x.expired = x := by
  unfold Slot.expired
  rw [h, Option.filter_some, hd, Bool.not_false, if_pos rfl, ← h]

theorem expired_runOut {x : Slot} {r : Record} (h : x.record = some r) (hd : runOut r.deadline = true) :
    x.expired = ⟨x.gen, none⟩ := by
  unfold Slot.expired
  rw [h, Option.filter_some, hd]
  rfl

/-- The expiry of a slot acts on that slot alone (R24, R25). -/
theorem expireSlot_get (i j : Fin 24) (s : State) :
    (expireSlot i s).rt.slots.get j = if j = i then (s.rt.slots.get i).expired else s.rt.slots.get j := by
  have same (h : (s.rt.slots.get i).expired = s.rt.slots.get i) :
      s.rt.slots.get j = if j = i then (s.rt.slots.get i).expired else s.rt.slots.get j := by
    rw [h]
    split
    · rename_i hj
      rw [hj]
    · rfl
  unfold expireSlot
  split
  · rename_i hn
    exact same (expired_free hn)
  · rename_i r hr
    split
    · rename_i hd
      have ht := (event_settleGroup Asker.byApply r.key.phaser.group s).rt
      change (Slots.setRecord (settleGroup Asker.byApply r.key.phaser.group s).rt.slots i none).get j = _
      rw [ht, slots_get_setRecord, expired_runOut hr hd]
    · rename_i hd
      exact same (expired_waiting hr (Bool.eq_false_of_not_eq_true hd))

theorem slot_expired_continues {x : Slot} {r' : Record} (h : x.expired.record = some r') :
    ∃ r, x.record = some r ∧ r'.key = r.key ∧ (r.lawful → r'.lawful) :=
  ⟨r', (Option.filter_eq_some_iff.mp h).1, rfl, id⟩

theorem tableLaw_expireSlot (i : Fin 24) {s : State} (law : TableLaw s) : TableLaw (expireSlot i s) := by
  refine tableLaw_of_continues (fun j r' hr' => ?_) law
  rw [expireSlot_get] at hr'
  split at hr'
  · rename_i hj
    rw [hj]
    exact slot_expired_continues hr'
  · exact ⟨r', hr', rfl, id⟩

end Sys2Proof.Machine
end

section
/-! ## Every step keeps the law of the Request Table -/

namespace Sys2Proof.Machine

open Sys2Proof

/-! ### Edge Capture and the decoder leave the table (R66 to R103) -/

theorem rt_camTransition (c : Phaser) (rising : Bool) (held : Nat) (stamp : Tick) (s : State) :
    (camTransition c rising held stamp s).rt = s.rt := by
  unfold camTransition takeEdge queueEdge
  dsimp only
  split
  · split
    · split <;> rfl
    · rfl
  · rfl

theorem rt_foldl {α : Type} (f : State → α → State) (h : ∀ s a, (f s a).rt = s.rt) (l : List α) (s : State) :
    (l.foldl f s).rt = s.rt :=
  List.foldlRecOn (motive := fun t => t.rt = s.rt) l f rfl fun t ht a _ => (h t a).trans ht

theorem rt_associateEdge (c : Phaser) (edge : Nat) (s : State) : (associateEdge c edge s).rt = s.rt := by
  unfold associateEdge
  dsimp only
  split
  · rfl
  · exact (local_deliver c _ _).frame.rt

theorem rt_completeCam (b : Bracket) (t1 : Tick) (span : Nat) (c : Phaser) (s : State) :
    (completeCam b t1 span c s).rt = s.rt :=
  rt_foldl _ (fun s _ => rt_associateEdge c _ s) _ _

theorem rt_completeEdges (b : Bracket) (t1 : Tick) (span : Nat) (s : State) :
    (completeEdges b t1 span s).rt = s.rt := by
  simp only [completeEdges, rt_completeCam]

theorem rt_testWindowEnd (c : Phaser) (prev now k : Nat) (s : State) : (testWindowEnd c prev now k s).rt = s.rt := by
  unfold testWindowEnd missTooth
  dsimp only
  split
  · split
    · rfl
    · split
      · exact (local_camLostDeclared c _).frame.rt
      · rfl
  · rfl

theorem rt_testCam (prev now : Nat) (c : Phaser) (s : State) : (testCam prev now c s).rt = s.rt :=
  rt_foldl _ (fun s k => rt_testWindowEnd c prev now k s) _ s

theorem rt_captureTooth (t : Tick) (angle span : Nat) (s : State) : (captureTooth t angle span s).rt = s.rt := by
  unfold captureTooth
  split
  · rfl
  · simp only [testWindowEnds, rt_testCam, rt_completeEdges]

theorem rt_evaluateIf (b : Bool) (s : State) : (evaluateIf b s).rt = s.rt := by
  unfold evaluateIf
  split
  · exact (event_evaluateAll s).rt
  · rfl

theorem rt_handleDeparture (s : State) : (handleDeparture s).rt = s.rt := by
  obtain ⟨t, ht, he⟩ := frame_handleDeparture s
  rw [he]
  exact ht.rt

/-! ### A crank tooth changes the table by its mark applies alone (R37 to R39) -/

theorem tableLaw_settleGroup (who : Asker → Bool) (g : Group) {s : State} (law : TableLaw s) :
    TableLaw (settleGroup who g s) :=
  tableLaw_of_rt (event_settleGroup who g s).rt law

theorem tableLaw_markApply (g : Group) (prev now : Nat) {s : State} (law : TableLaw s) :
    TableLaw (markApply g prev now s) := by
  unfold markApply
  split
  · exact tableLaw_applyGroups _ _ law
  · exact law

theorem tableLaw_toothPart (t : Tick) (prev : Nat) (changed : Bool) (o : ToothOrder) (x : ToothPart) {s : State}
    (law : TableLaw s) : TableLaw (toothPart t prev changed o s x) := by
  cases x with
  | front =>
    unfold toothPart
    dsimp only
    split
    · exact tableLaw_settleGroup _ _ (tableLaw_markApply _ _ _ law)
    · exact tableLaw_markApply _ _ _ law
  | rear =>
    unfold toothPart
    dsimp only
    split
    · exact tableLaw_settleGroup _ _ (tableLaw_markApply _ _ _ law)
    · exact tableLaw_markApply _ _ _ law
  | edges => exact tableLaw_of_rt (rt_captureTooth _ _ _ s) law
  | evaluation => exact tableLaw_of_rt (rt_evaluateIf _ s) law

theorem tableLaw_foldl {α : Type} (f : State → α → State) (h : ∀ s a, TableLaw s → TableLaw (f s a)) (l : List α)
    {s : State} (law : TableLaw s) : TableLaw (l.foldl f s) :=
  List.foldlRecOn l f law fun t ht a _ => h t a ht

theorem tableLaw_handTooth (t : Tick) (prev : Nat) (changed : Bool) (o : ToothOrder) {s : State} (law : TableLaw s) :
    TableLaw (handTooth t prev changed o s) :=
  tableLaw_foldl _ (fun _ x => tableLaw_toothPart t prev changed o x) _
    (tableLaw_settleGroup _ _ (tableLaw_settleGroup _ _ law))

theorem tableLaw_crankTooth (t : Tick) (o : ToothOrder) {s : State} (law : TableLaw s) :
    TableLaw (crankTooth t o s) := by
  have stored (d : Decoder) (b : Bool) : TableLaw (storeTooth d b (handleDeparture s)) :=
    tableLaw_of_rt (event_storeTooth d b _).rt (tableLaw_of_rt (rt_handleDeparture s) law)
  unfold crankTooth
  dsimp only
  split
  · exact tableLaw_handTooth _ _ _ _ (stored _ _)
  · exact tableLaw_of_rt (rt_evaluateIf _ _) (tableLaw_of_rt rfl (stored _ _))
  · exact tableLaw_of_rt (event_evaluateAll _).rt (tableLaw_of_rt rfl (stored _ _))
  · exact tableLaw_of_rt (rt_evaluateIf _ _) (stored _ _)

theorem tableLaw_crankTransition (rising : Bool) (held : Nat) (stamp : Tick) (o : ToothOrder) {s : State}
    (law : TableLaw s) : TableLaw (crankTransition rising held stamp o s) := by
  have filtered (d : Decoder) : TableLaw (s.setDecoder d) := tableLaw_of_rt rfl law
  unfold crankTransition
  dsimp only
  split
  · exact tableLaw_crankTooth _ _ (filtered _)
  · exact filtered _

/-! ### The time base (R8) -/

theorem tableLaw_takeRunOut {s : State} (law : TableLaw s) : TableLaw (takeRunOut s) := by
  have expired : TableLaw (slotNumbers.foldl (fun s i => expireSlot i s) s) :=
    tableLaw_foldl _ (fun _ i => tableLaw_expireSlot i) _ law
  have timers : ∀ l : List Phaser, TableLaw (l.foldl (fun s p => takeTimers p s) _) := fun l =>
    tableLaw_of_rt (event_foldl _ (fun s p => event_takeTimers p s) l _).rt expired
  exact tableLaw_of_rt ((event_goStale _).trans (event_stopEngine _)).rt (timers _)

/-- The clock at the next boundary of the time base (R8; log 5). -/
def State.atBoundary (s : State) : State :=
  { s with counter := s.counter + BitVec.ofNat 24 (8000 - s.msTicks), msTicks := 0 }

@[simp] theorem atBoundary_rt (s : State) : s.atBoundary.rt = s.rt := rfl

theorem exec_timeBaseAdvance (s : State) :
    exec .timeBaseAdvance s = .next (advanceTimeBase (takeRunOut s).atBoundary) := rfl

theorem tableLaw_advanceTimeBase {s : State} (law : TableLaw s) : TableLaw (advanceTimeBase s) :=
  tableLaw_of_continues (continues_map (fun _ _ => slot_advance_continues) _) law

/-! ### The parameters (R181): the apply configuration stands beside the slots, every other one outside the table -/

theorem slots_setConfig (g : Group) (x : ApplyConfig) (s : State) : (s.setConfig g x).rt.slots = s.rt.slots := by
  cases g <;> rfl

/-- A write that is stored leaves the slots. -/
def keepsSlots (write : State → Except Status State) : Prop := ∀ s t, write s = .ok t → t.rt.slots = s.rt.slots

theorem keepsSlots_ok {f : State → State} (h : ∀ s, (f s).rt.slots = s.rt.slots) : keepsSlots fun s => .ok (f s) := by
  intro s t ht
  rw [← Except.ok.inj ht]
  exact h s

theorem keepsSlots_whenStopped {write : State → Except Status State} (h : keepsSlots write) :
    keepsSlots fun s => whenStopped s (write s) := by
  intro s t ht
  simp only [whenStopped] at ht
  split at ht
  · exact h s t ht
  · cases ht

theorem keepsSlots_applyMode (g : Group) (v : Byte) : keepsSlots (writeApplyMode g v) := by
  intro s t ht
  unfold writeApplyMode at ht
  split at ht
  · obtain rfl := Except.ok.inj ht
    exact slots_setConfig g _ s
  · cases ht

theorem keepsSlots_markAngle (g : Group) (v : Half) : keepsSlots (writeMarkAngle g v) :=
  keepsSlots_ok fun s => slots_setConfig g _ s

theorem keepsSlots_crank (w : CrankParam) (v : Byte) : keepsSlots (writeCrank w v) := by
  unfold writeCrank
  refine keepsSlots_whenStopped fun s t ht => ?_
  split at ht <;> split at ht <;> cases ht <;> rfl

theorem keepsSlots_syncCam (v : Byte) : keepsSlots (writeSyncCam v) := by
  unfold writeSyncCam
  refine keepsSlots_whenStopped fun s t ht => ?_
  split at ht
  · split at ht <;> cases ht
    rfl
  · cases ht

theorem keepsSlots_toothList (c : Phaser) (count : Byte) (a : AngleField) : keepsSlots (writeToothList c count a) := by
  unfold writeToothList
  refine keepsSlots_whenStopped fun s t ht => ?_
  dsimp only at ht
  split at ht
  · split at ht
    · split at ht <;> cases ht
      rfl
    · cases ht
  · cases ht

theorem keepsSlots_polarity (c : Phaser) (v : Byte) : keepsSlots (writePolarity c v) := by
  unfold writePolarity
  refine keepsSlots_whenStopped fun s t ht => ?_
  split at ht <;> cases ht
  rfl

theorem keepsSlots_margin (v : Half) : keepsSlots (writeMargin v) := by
  intro s t ht
  unfold writeMargin at ht
  split at ht <;> cases ht
  rfl

theorem keepsSlots_authority (p : Phaser) (b : Bound) (v : Half) : keepsSlots (writeAuthority p b v) := by
  intro s t ht
  unfold writeAuthority at ht
  split at ht
  · cases ht
  · dsimp only at ht
    split at ht
    · obtain rfl := Except.ok.inj ht
      rw [(event_recomputePhaser p _).rt]
      rfl
    · cases ht

theorem rt_handRelease (s : State) (p : Phaser) : (handRelease s p).rt = s.rt := by
  unfold handRelease
  split <;> rfl

theorem keepsSlots_releaseDuty (v : Half) : keepsSlots (writeReleaseDuty v) :=
  keepsSlots_ok fun s => by rw [rt_foldl _ rt_handRelease]; rfl

theorem keepsSlots_threshold (w : ThresholdParam) (v : Half) : keepsSlots (writeThreshold w v) :=
  keepsSlots_ok fun s => by rw [(event_evaluateAll _).rt]; rfl

theorem keepsSlots_time (w : TimeParam) (v : Half) : keepsSlots (writeTime w v) := by
  intro s t ht
  unfold writeTime at ht
  split at ht <;> cases ht
  rfl

theorem keepsSlots_dutyLimit (p : Phaser) (b : Bound) (v : Half) : keepsSlots (writeDutyLimit p b v) := by
  intro s t ht
  cases b <;> simp only [writeDutyLimit] at ht <;> split at ht <;> cases ht <;> rfl

theorem keepsSlots_writeParam (q : Param) (v : ValueField) : keepsSlots (writeParam q v) := by
  cases q with
  | applyMode g => exact keepsSlots_applyMode g v.b0
  | markAngle g => exact keepsSlots_markAngle g v.half
  | authority b p => exact keepsSlots_authority p b v.half
  | crank w => exact keepsSlots_crank w v.b0
  | syncCam => exact keepsSlots_syncCam v.b0
  | toothList c => exact keepsSlots_toothList c v.b0 v.angles
  | camPolarity c => exact keepsSlots_polarity c v.b0
  | windowMargin => exact keepsSlots_margin v.half
  | releaseDuty => exact keepsSlots_releaseDuty v.half
  | threshold w => exact keepsSlots_threshold w v.half
  | time w => exact keepsSlots_time w v.half
  | dutyLimit b p => exact keepsSlots_dutyLimit p b v.half
  | stopTime | firingOffset | camLostCount | homeBand | releaseInterval | returnTimeout | latchInterval | trackBand
  | freshnessTime | kp | ki | ilim | nd | pwmFrequency => exact keepsSlots_ok fun _ => rfl

theorem tableLaw_ownWrite {q : Param} {write : State → Except Status State} (h : keepsSlots write) {s : State}
    (law : TableLaw s) : TableLaw (ownWrite q write s).1 := by
  unfold ownWrite answer
  cases hw : write s with
  | error st => exact law
  | ok t => exact tableLaw_of_slots (h s t hw) law

theorem tableLaw_ownSetParam (ident : Byte) (v : ValueField) {s : State} (law : TableLaw s) :
    TableLaw (ownSetParam ident v s).1 := by
  unfold ownSetParam
  split
  · exact law
  · exact tableLaw_ownWrite (keepsSlots_writeParam _ v) law

/-! ### The commands of the other blocks -/

theorem rt_ownReport (oil : Byte) (temperature battery : Half) (s : State) :
    (ownReport oil temperature battery s).1.rt = s.rt := by
  unfold ownReport
  split
  · rfl
  · exact (event_evaluateAll _).rt

theorem rt_ownEnable (phaser setting : Byte) (s : State) : (ownEnable phaser setting s).1.rt = s.rt := by
  unfold ownEnable
  split
  · dsimp only
    split
    · exact (local_enable _ s).frame.rt
    · exact (local_disable _ s).frame.rt
  · rfl

theorem rt_ownClear (phaser : Byte) (s : State) : (ownClear phaser s).1.rt = s.rt := by
  unfold ownClear
  split
  · rfl
  · split
    · split
      · rfl
      · exact (local_clearFaulted _ s).frame.rt
    · rfl

theorem rt_ownReadEvents (group : Byte) (s : State) : (ownReadEvents group s).1.rt = s.rt := by
  unfold ownReadEvents
  split <;> rfl

theorem rt_ownSetEnables (group : Byte) (enables : Half) (on : Byte) (s : State) :
    (ownSetEnables group enables on s).1.rt = s.rt := by
  unfold ownSetEnables
  split
  · split <;> rfl
  · split <;> rfl
  · rfl

/-- A reader answers and leaves the state. -/
def reads (owner : State → State × Reply) : Prop := ∀ s, (owner s).1 = s

theorem reads_ownFind (key : KeyField) : reads (ownFind key) := by
  intro s
  unfold ownFind
  split
  · rfl
  · split <;> rfl

theorem reads_ownReadRecord (h : Handle) : reads (ownReadRecord h) := by
  intro s
  unfold ownReadRecord
  split <;> rfl

theorem reads_ownReadPhaser (phaser : Byte) : reads (ownReadPhaser phaser) := by
  intro s
  unfold ownReadPhaser
  split <;> rfl

theorem reads_ownResolve (phaser : Byte) : reads (ownResolve phaser) := by
  intro s
  unfold ownResolve
  split <;> rfl

theorem reads_ownGetParam (ident : Byte) : reads (ownGetParam ident) := by
  intro s
  unfold ownGetParam
  split <;> rfl

theorem tableLaw_reads {owner : State → State × Reply} (h : reads owner) {s : State} (law : TableLaw s) :
    TableLaw (owner s).1 := by
  rw [h s]
  exact law

/-! ### Taking a command, the port, the resets -/

theorem tableLaw_rejectFrame (st : Status) (code byte1 : Byte) {s : State} (law : TableLaw s) :
    TableLaw (rejectFrame s st code byte1) := tableLaw_of_rt rfl law

theorem tableLaw_takeCommand {i : Instr} {c : Command} {snd : Sender} {owner : State → State × Reply} {s : State}
    (law : TableLaw s) (h : TableLaw (owner s).1) : TableLaw (takeCommand i c snd owner s) := by
  obtain hi | ⟨hr, -⟩ | ⟨ht, -⟩ := takeCommand_cases i c snd owner s
  · rw [hi]
    exact law
  · rw [hr]
    exact tableLaw_rejectFrame _ _ _ law
  · rw [ht]
    exact tableLaw_of_rt rfl h

theorem tableLaw_csRise (bytes : List Byte) {s : State} (law : TableLaw s) : TableLaw (csRise bytes s) := by
  unfold csRise
  split
  · unfold endFrame
    split
    · exact tableLaw_of_rt rfl law
    · exact tableLaw_rejectFrame _ _ _ (tableLaw_of_rt rfl law)
  · exact tableLaw_of_rt rfl law
  · exact tableLaw_of_rt rfl law
  · exact law

theorem tableLaw_hardReset (kind : ResetKind) (hot : Quad Bool) (s : State) : TableLaw (hardReset kind hot s) :=
  tableLaw_of_free fun i => congrArg Slot.record (slots_get_empty i)

theorem tableLaw_softReset (s : State) : TableLaw (softReset s) :=
  tableLaw_of_free fun i => congrArg Slot.record (slots_get_empty i)

/-! ### Every command and every event -/

/-- The law holds in the next state, if there is one. -/
def nextLawful (r : Result) : Prop := ∀ t, r = .next t → TableLaw t

theorem nextLawful_next {t : State} (law : TableLaw t) : nextLawful (.next t) := by
  intro u hu
  rw [← Host.Outcome.next.inj hu]
  exact law

theorem nextLawful_of_rt {s t : State} (law : TableLaw s) (h : t.rt = s.rt) : nextLawful (.next t) :=
  nextLawful_next (tableLaw_of_rt h law)

theorem nextLawful_command {i : Instr} {c : Command} {snd : Sender} {owner : State → State × Reply} {s : State}
    (law : TableLaw s) (h : TableLaw (owner s).1) : nextLawful (.next (takeCommand i c snd owner s)) :=
  nextLawful_next (tableLaw_takeCommand law h)

theorem nextLawful_write {i : Instr} {c : Command} {snd : Sender} {q : Param} {write : State → Except Status State}
    {s : State} (law : TableLaw s) (h : keepsSlots write) :
    nextLawful (.next (takeCommand i c snd (ownWrite q write) s)) :=
  nextLawful_command law (tableLaw_ownWrite h law)

theorem rt_overBandIf (b : Bool) (p : Phaser) (s : State) : (if b then overBandEvent p s else s).rt = s.rt := by
  split
  · exact (event_overBandEvent p s).rt
  · rfl

theorem exec_nextLawful (i : Instr) {s : State} (law : TableLaw s) : nextLawful (exec i s) := by
  cases i with
  | powerOn hot => exact nextLawful_next (tableLaw_hardReset _ hot s)
  | resetPin hot => exact nextLawful_next (tableLaw_hardReset _ hot s)
  | vddUndervoltageReset hot => exact nextLawful_next (tableLaw_hardReset _ hot s)
  | transactionStart => exact nextLawful_of_rt law rfl
  | transactionEnd sdi => exact nextLawful_next (tableLaw_csRise _ law)
  | nop snd => exact nextLawful_command law law
  | post snd key cf => exact nextLawful_command law (tableLaw_ownPost snd key cf law)
  | change snd h kind cf => exact nextLawful_command law (tableLaw_ownChange snd h kind cf law)
  | retire snd h => exact nextLawful_command law (tableLaw_ownRetire snd h law)
  | renew snd h => exact nextLawful_command law (tableLaw_ownRenew h law)
  | renewClass snd b => exact nextLawful_command law (tableLaw_ownRenewClass b law)
  | apply snd sel => exact nextLawful_command law (tableLaw_ownApply sel law)
  | find snd key => exact nextLawful_command law (tableLaw_reads (reads_ownFind key) law)
  | readRecord snd h => exact nextLawful_command law (tableLaw_reads (reads_ownReadRecord h) law)
  | list snd => exact nextLawful_command law law
  | readPhaser snd p => exact nextLawful_command law (tableLaw_reads (reads_ownReadPhaser p) law)
  | resolve snd p => exact nextLawful_command law (tableLaw_reads (reads_ownResolve p) law)
  | readEngine snd => exact nextLawful_command law law
  | reportConditions snd o t b => exact nextLawful_command law (tableLaw_of_rt (rt_ownReport o t b s) law)
  | enablePhaser snd p e => exact nextLawful_command law (tableLaw_of_rt (rt_ownEnable p e s) law)
  | clearFault snd p => exact nextLawful_command law (tableLaw_of_rt (rt_ownClear p s) law)
  | readEvents snd g => exact nextLawful_command law (tableLaw_of_rt (rt_ownReadEvents g s) law)
  | setEventEnables snd g e on => exact nextLawful_command law (tableLaw_of_rt (rt_ownSetEnables g e on s) law)
  | resetDevice snd => exact nextLawful_command law (tableLaw_softReset s)
  | getParam snd ident => exact nextLawful_command law (tableLaw_reads (reads_ownGetParam ident) law)
  | setParam snd ident v => exact nextLawful_command law (tableLaw_ownSetParam ident v law)
  | setApplyMode snd g v => exact nextLawful_write law (keepsSlots_applyMode g v)
  | setMarkAngle snd g v => exact nextLawful_write law (keepsSlots_markAngle g v)
  | setAuthorityWindow snd p b v => exact nextLawful_write law (keepsSlots_authority p b v)
  | setCrankGeometry snd w v => exact nextLawful_write law (keepsSlots_crank w v)
  | setSyncCam snd v => exact nextLawful_write law (keepsSlots_syncCam v)
  | setToothList snd c n a => exact nextLawful_write law (keepsSlots_toothList c n a)
  | setCamPolarity snd c v => exact nextLawful_write law (keepsSlots_polarity c v)
  | setWindowMargin snd v => exact nextLawful_write law (keepsSlots_margin v)
  | setCamLostCount snd v => exact nextLawful_write law (keepsSlots_ok fun _ => rfl)
  | setReleaseDuty snd v => exact nextLawful_write law (keepsSlots_releaseDuty v)
  | setReleaseThresholds snd w v => exact nextLawful_write law (keepsSlots_threshold w v)
  | setTrackFaultTime snd w v => exact nextLawful_write law (keepsSlots_time w v)
  | setIntegratorLimit snd p v => exact nextLawful_write law (keepsSlots_ok fun _ => rfl)
  | setDutyLimit snd p b v => exact nextLawful_write law (keepsSlots_dutyLimit p b v)
  | setPwmFrequency snd v => exact nextLawful_write law (keepsSlots_ok fun _ => rfl)
  | timeBaseAdvance =>
    have boundary : TableLaw (takeRunOut s).atBoundary :=
      tableLaw_of_rt (atBoundary_rt _) (tableLaw_takeRunOut law)
    rw [exec_timeBaseAdvance]
    exact nextLawful_next (tableLaw_advanceTimeBase boundary)
  | expiry j => exact nextLawful_next (tableLaw_expireSlot j law)
  | recompute p => exact nextLawful_of_rt law (event_takeRecompute p s).rt
  | crankTooth r h st o => exact nextLawful_next (tableLaw_crankTransition r h st o law)
  | controlStep p => exact nextLawful_of_rt law (local_takeDelivered p s).frame.rt
  | camEdge c r h st => exact nextLawful_of_rt law (rt_camTransition c r h st s)
  | stopTimerExpiry => exact nextLawful_of_rt law (event_stopEngine s).rt
  | syncDepartureHandling => exact nextLawful_of_rt law (rt_handleDeparture s)
  | freshnessTimerExpiry => exact nextLawful_of_rt law (event_goStale s).rt
  | releaseIntervalExpiry p => exact nextLawful_of_rt law (local_endRelease p s).frame.rt
  | returnTimeoutExpiry p => exact nextLawful_of_rt law (local_endReturn p s).frame.rt
  | latchIntervalExpiry p => exact nextLawful_of_rt law (local_endLatch p s).frame.rt
  | overBandTrackTime p => exact nextLawful_of_rt law (rt_overBandIf _ p s)
  | overBandFaultTime p => exact nextLawful_of_rt law (rt_overBandIf _ p s)
  | periodStart p => exact nextLawful_of_rt law (local_periodStartAt p s).frame.rt
  | endOfOnTime p => exact nextLawful_of_rt law rfl
  | periodEnd p seen => exact nextLawful_of_rt law (local_periodEndAt p seen s).frame.rt
  | overcurrent p => exact nextLawful_of_rt law (local_overcurrentAt p s).frame.rt
  | thermalHoldSet p => exact nextLawful_of_rt law (local_followHold p _).frame.rt
  | thermalHoldClear p => exact nextLawful_of_rt law (local_followHold p _).frame.rt
  | driverConditionFault p d => exact nextLawful_of_rt law (local_takeDriverFault p d s).frame.rt

/-- All that a step can do: run the front of the queue, run what the part takes on its own, or let a tick pass. -/
theorem step_cases (s : State) :
    (∃ i rest, s.pending = i :: rest ∧ step s = exec i { s with pending := rest }) ∨
    (∃ i, s.pending = [] ∧ s.own = some i ∧ step s = exec i s) ∨
    (s.pending = [] ∧ s.own = none ∧ step s = .next s.tick) := by
  unfold step
  cases hp : s.pending with
  | cons i rest => exact .inl ⟨i, rest, rfl, rfl⟩
  | nil =>
    cases ho : s.own with
    | some i => exact .inr (.inl ⟨i, rfl, rfl, rfl⟩)
    | none => exact .inr (.inr ⟨rfl, rfl, rfl⟩)

/-- Settles O54: every command and event continues the records of the table or frees them, and a POST adds one with a
key that no record holds. -/
theorem stepKeepsTheTableLaw : Obligations.StepKeepsTheTableLaw := by
  intro s t law ht
  obtain ⟨i, rest, -, hs⟩ | ⟨i, -, -, hs⟩ | ⟨-, -, hs⟩ := step_cases s
  · have taken : TableLaw { s with pending := rest } := tableLaw_of_rt rfl law
    exact exec_nextLawful i taken t (hs ▸ ht)
  · exact exec_nextLawful i law t (hs ▸ ht)
  · have ticked : TableLaw s.tick := tableLaw_of_rt rfl law
    exact nextLawful_next ticked t (hs ▸ ht)

end Sys2Proof.Machine
end

section
/-! ## The fields of a request and the bytes of its answers (R6, R7, R21, 10.8) -/

namespace Sys2Proof.Machine

open Sys2Proof

/-- An owner's answer as the effect of the command that is taken. -/
theorem next_of_taken {i : Instr} {c : Command} {snd : Sender} {owner : State → State × Reply} {s t : State} {r : Reply}
    (h : taken i snd s) (ho : owner s = (t, r)) :
    (Host.Outcome.next (takeCommand i c snd owner s) : Result) = .next (t.respond c snd r) := by
  rw [takeCommand_taken c owner h, ho]

theorem outranks_iff (snd : Sender) (c : Cls) : outranks snd c = true ↔ c.rank ≤ snd.rank.toNat :=
  decide_eq_true_iff

/-! ### Key fields -/

theorem phaserOfByte_none (b : Byte) : phaserOfByte b = none ↔ 4 ≤ b.toNat := by
  simp only [phaserOfByte, Phaser.list, List.find?_eq_none, List.forall_mem_cons, Phaser.index, beq_iff_eq]
  simp
  omega

theorem clsOfByte_none (b : Byte) : Cls.ofByte b = none ↔ b.toNat = 0 ∨ 6 ≤ b.toNat := by
  simp only [Cls.ofByte, Cls.ascending, List.find?_eq_none, List.forall_mem_cons, Cls.rank, beq_iff_eq]
  simp
  omega

theorem kindOfByte_none (b : Byte) : Kind.ofByte b = none ↔ 3 ≤ b.toNat := by
  simp only [Kind.ofByte, List.find?_eq_none, List.forall_mem_cons, Kind.code, beq_iff_eq]
  simp
  omega

theorem phaserOfByte_index (p : Phaser) : phaserOfByte (BitVec.ofNat 8 p.index) = some p := by
  cases p <;> rfl

theorem clsOfByte_rank (c : Cls) : Cls.ofByte (BitVec.ofNat 8 c.rank) = some c := by
  cases c <;> rfl

theorem kindOfByte_code (k : Kind) : Kind.ofByte (BitVec.ofNat 8 k.code) = some k := by
  cases k <;> rfl

/-- A class byte that carries the rank of a class is read as that class. -/
theorem clsOfByte_of_rank {b : Byte} {c : Cls} (h : b.toNat = c.rank) : Cls.ofByte b = some c := by
  have hb : b = BitVec.ofNat 8 c.rank := by rw [← h, BitVec.ofNat_toNat, BitVec.setWidth_eq]
  rw [hb, clsOfByte_rank]

theorem readKey_none (k : KeyField) :
    readKey k = none ↔ phaserOfByte k.phaser = none ∨ Cls.ofByte k.cls = none ∨ Kind.ofByte k.kind = none := by
  unfold readKey
  cases phaserOfByte k.phaser <;> cases Cls.ofByte k.cls <;> cases Kind.ofByte k.kind <;> simp

/-! ### Content fields -/

theorem readTarget_none (w : Half) :
    readTarget w = none ↔ w.toInt ≠ -32768 ∧ (w.toInt < -5760 ∨ 5759 < w.toInt) := by
  unfold readTarget parkWord
  split
  · simp_all
  · split
    · simp
      omega
    · simp
      omega

theorem readTarget_some {w : Half} {t : Target} (h : readTarget w = some t) :
    t = if w.toInt = -32768 then .park else .au w.toInt := by
  unfold readTarget parkWord at h
  split at h
  · rename_i hp
    rw [if_pos hp, Option.some.inj h]
  · rename_i hp
    split at h
    · rw [if_neg hp, Option.some.inj h]
    · cases h

theorem readFlag_none (b : Byte) : readFlag b = none ↔ 2 ≤ b.toNat := by
  have h0 : b = 0#8 ↔ b.toNat = 0 := BitVec.toNat_eq
  have h1 : b = 1#8 ↔ b.toNat = 1 := BitVec.toNat_eq
  simp only [readFlag, h0, h1]
  split
  · simp
    omega
  · split
    · simp
      omega
    · simp
      omega

theorem readFlag_some {b : Byte} {f : Bool} (h : readFlag b = some f) : f = decide (b = 1#8) := by
  unfold readFlag at h
  split at h
  · rename_i hb
    subst hb
    exact (Option.some.inj h).symm
  · split at h
    · rename_i hb
      rw [hb]
      exact (Option.some.inj h).symm
    · cases h

theorem readContent_setpoint_none (cf : ContentField) :
    readContent .setpoint cf = none ↔ readTarget cf.w0 = none ∨ readFlag cf.flag = none := by
  unfold readContent
  cases readTarget cf.w0 <;> cases readFlag cf.flag <;> simp

theorem readContent_setpoint_some {cf : ContentField} {ct : Content} (h : readContent .setpoint cf = some ct) :
    ct = .setpoint (if cf.w0.toInt = -32768 then .park else .au cf.w0.toInt) (min 4000 cf.w1.toNat)
      (decide (cf.flag = 1#8)) cf.keepAlive.toNat := by
  simp only [readContent] at h
  split at h
  · rename_i t f ht hf
    rw [← readTarget_some ht, ← readFlag_some hf, Option.some.inj h]
  · cases h

theorem readContent_trim_none (cf : ContentField) :
    readContent .trim cf = none ↔ cf.w0.toInt < -2048 ∨ 2047 < cf.w0.toInt := by
  simp only [readContent]
  split
  · simp
    omega
  · simp
    omega

theorem readContent_limit_none (cf : ContentField) :
    readContent .limit cf = none ↔ cf.w0.toInt < -5760 ∨ 5759 < cf.w0.toInt ∨ cf.w1.toInt < -5760 ∨
      5759 < cf.w1.toInt ∨ cf.w1.toInt < cf.w0.toInt := by
  simp only [readContent]
  split
  · simp
    omega
  · simp
    omega

/-- Settles O10, from the readers of the key bytes, of the target and of the flag. -/
theorem keyAndContentFieldsAreChecked : Obligations.KeyAndContentFieldsAreChecked := by
  refine ⟨fun a b d => ?_, fun p c k => ?_, fun cf => ⟨?_, ?_, ?_, fun ct => ?_, fun ct h => ?_, fun ct h => ?_⟩⟩
  · rw [readKey_none, phaserOfByte_none, clsOfByte_none, kindOfByte_none, or_assoc]
  · simp only [readKey, phaserOfByte_index, clsOfByte_rank, kindOfByte_code]
  · rw [readContent_setpoint_none, readTarget_none, readFlag_none]
  · exact readContent_trim_none cf
  · exact readContent_limit_none cf
  · exact readContent_setpoint_some
  · simp only [readContent] at h
    split at h
    · exact (Option.some.inj h).symm
    · cases h
  · simp only [readContent] at h
    split at h
    · exact (Option.some.inj h).symm
    · cases h

/-! ### Words of flags (10.8) -/

/-- The number whose bit k is the k-th flag, as `halfOfFlags` and `byteOfFlags` build it. -/
def flagNumber (flags : List Bool) : Nat := flags.foldr (fun b n => b.toNat + 2 * n) 0

theorem halfOfFlags_eq (flags : List Bool) : halfOfFlags flags = BitVec.ofNat 16 (flagNumber flags) := rfl

theorem flagNumber_cons (b : Bool) (rest : List Bool) : flagNumber (b :: rest) = b.toNat + 2 * flagNumber rest := rfl

theorem flagNumber_testBit (flags : List Bool) (k : Nat) : (flagNumber flags).testBit k = flags.getD k false := by
  induction flags generalizing k with
  | nil => simp [flagNumber]
  | cons b rest ih =>
    rw [flagNumber_cons]
    cases k with
    | zero => cases b <;> simp
    | succ k =>
      have half : (b.toNat + 2 * flagNumber rest) / 2 = flagNumber rest := by
        have := Bool.toNat_lt b
        omega
      rw [Nat.testBit_succ, half, ih, List.getD_cons_succ]

theorem flagNumber_lt (flags : List Bool) : flagNumber flags < 2 ^ flags.length := by
  induction flags with
  | nil => simp [flagNumber]
  | cons b rest ih =>
    have := Bool.toNat_lt b
    rw [flagNumber_cons, List.length_cons, Nat.pow_succ]
    omega

theorem halfOfFlags_bit (flags : List Bool) {k : Nat} (hk : k < 16) :
    (halfOfFlags flags).getLsbD k = flags.getD k false := by
  rw [halfOfFlags_eq, BitVec.getLsbD_ofNat, flagNumber_testBit, decide_eq_true hk, Bool.true_and]

theorem halfOfFlags_lt (flags : List Bool) : (halfOfFlags flags).toNat < 2 ^ flags.length := by
  rw [halfOfFlags_eq, BitVec.toNat_ofNat]
  exact Nat.lt_of_le_of_lt (Nat.mod_le _ _) (flagNumber_lt flags)

/-! ### The bytes of a handle (R180) -/

theorem handle_bytes (t : Slots) (i : Fin 24) :
    (t.handle i).bytes = [BitVec.ofNat 8 i.val, (t.get i).gen.setWidth 8] := by
  have hi := i.isLt
  have hs : (BitVec.ofNat 5 i.val).setWidth 8 = BitVec.ofNat 8 i.val := by
    apply BitVec.eq_of_toNat_eq
    rw [BitVec.toNat_setWidth, BitVec.toNat_ofNat, BitVec.toNat_ofNat]
    omega
  unfold Slots.handle Handle.bytes
  rw [hs]

end Sys2Proof.Machine
end

section
/-! ## POST, CHANGE, RETIRE and RENEW (R10 to R19) -/

namespace Sys2Proof.Machine

open Sys2Proof

/-! ### Searching the table -/

theorem findKey_of_key {s : State} (law : TableLaw s) {i : Fin 24} {r : Record}
    (hr : (s.rt.slots.get i).record = some r) : s.rt.slots.findKey r.key = some i := by
  obtain ⟨-, keys⟩ := law
  cases hf : s.rt.slots.findKey r.key with
  | none => exact absurd rfl (findKey_none hf i r hr)
  | some j =>
    obtain ⟨q, hq, hk⟩ := findRecord_some hf
    rw [keys j i q r hq hr (by simpa using hk)]

theorem findKey_of_absent {t : Slots} {k : Key} (h : ∀ i r, (t.get i).record = some r → r.key ≠ k) :
    t.findKey k = none := by
  cases hf : t.findKey k with
  | none => rfl
  | some j =>
    obtain ⟨q, hq, hk⟩ := findRecord_some hf
    exact absurd (by simpa using hk) (h j q hq)

theorem findFree_of_lowest {t : Slots} {i : Fin 24} (hi : (t.get i).record = none)
    (hlow : ∀ j, j < i → (t.get j).record ≠ none) : t.findFree = some i := by
  cases hf : t.findFree with
  | none => exact absurd hi (findFree_none hf i)
  | some j =>
    obtain ⟨hj, hjlow⟩ := findFree_some hf
    obtain h | h | h := lt_trichotomy i j
    · exact absurd hi (hjlow i h)
    · rw [h]
    · exact absurd hj (hlow j h)

theorem findFree_of_full {t : Slots} (h : ∀ i, (t.get i).record ≠ none) : t.findFree = none := by
  cases hf : t.findFree with
  | none => rfl
  | some j => exact absurd (findFree_some hf).1 (h j)

/-! ### POST -/

/-- The answer of a POST that passes the key, class and content checks. -/
theorem ownPost_checked {snd : Sender} {key : KeyField} {cf : ContentField} {k : Key} {ct : Content} {s : State}
    (hk : readKey key = some k) (hc : k.cls.rank ≤ snd.rank.toNat) (hct : readContent k.kind cf = some ct) :
    (∀ i, s.rt.slots.findKey k = some i →
      ownPost snd key cf s = (s, ⟨.exists_, [BitVec.ofNat 8 i.val, (s.rt.slots.get i).gen.setWidth 8]⟩)) ∧
    (s.rt.slots.findKey k = none → s.rt.slots.findFree = none → ownPost snd key cf s = (s, ⟨.full, []⟩)) ∧
    (∀ i, s.rt.slots.findKey k = none → s.rt.slots.findFree = some i → ownPost snd key cf s =
      (s.setSlots (s.rt.slots.set i ⟨(s.rt.slots.get i).gen + 1#4, some ⟨k, .posted ct, none⟩⟩),
       ⟨.ok, [BitVec.ofNat 8 i.val, ((s.rt.slots.get i).gen + 1#4).setWidth 8,
          hiByte (BitVec.ofNat 16 ct.slew), loByte (BitVec.ofNat 16 ct.slew)]⟩)) := by
  have ho : outranks snd k.cls = true := (outranks_iff snd k.cls).mpr hc
  refine ⟨fun i hi => ?_, fun hn hf => ?_, fun i hn hf => ?_⟩
  · simp only [ownPost, hk, ho, hct, hi, if_true, handle_bytes]
  · simp only [ownPost, hk, ho, hct, hn, hf, if_true, Reply.no]
  · simp only [ownPost, hk, ho, hct, hn, hf, if_true, handle_bytes, slots_get_set_self, Slot.allocate, Reply.yes,
      halfBytes, List.cons_append, List.nil_append]

/-- Settles O11, from the search for the key and for the lowest FREE slot. -/
theorem postAllocatesASlotOrIsRefused : Obligations.PostAllocatesASlotOrIsRefused := by
  constructor
  · intro snd key cf k ct i s ht hk hc hct habs hfree hlow
    obtain ⟨-, -, hpost⟩ := ownPost_checked (s := s) hk hc hct
    exact next_of_taken ht (hpost i (findKey_of_absent habs) (findFree_of_lowest hfree hlow))
  · intro snd key cf s ht
    refine ⟨fun hk => next_of_taken ht ?_, fun k hk => ⟨fun hc => next_of_taken ht ?_, fun hc hct =>
      next_of_taken ht ?_, fun hc hct law => ⟨fun i r hr hrk => ?_, fun habs hfull => ?_⟩⟩⟩
    · simp only [ownPost, hk, Reply.no]
    · have ho : ¬ outranks snd k.cls = true := by
        rw [outranks_iff]
        omega
      simp only [ownPost, hk, if_neg ho, Reply.no]
    · simp only [ownPost, hk, (outranks_iff snd k.cls).mpr hc, hct, if_true, Reply.no]
    · obtain ⟨ct, hct⟩ := Option.ne_none_iff_exists'.mp hct
      obtain ⟨hpost, -, -⟩ := ownPost_checked (s := s) hk hc hct
      exact next_of_taken ht (hpost i (hrk ▸ findKey_of_key law hr))
    · obtain ⟨ct, hct⟩ := Option.ne_none_iff_exists'.mp hct
      obtain ⟨-, hpost, -⟩ := ownPost_checked (s := s) hk hc hct
      exact next_of_taken ht (hpost (findKey_of_absent habs) (findFree_of_full hfull))

/-! ### The changed-fields list (R15, 10.8) -/

theorem renewable_iff (r : Record) : r.renewable = true ↔ r.deadline ≠ none ∧ r.life.active ≠ none := by
  simp [Record.renewable, Option.isSome_iff_ne_none]

theorem leaving_iff (l : Life) : l.leaving = true ↔ ∃ a, l = .retiring a := by
  cases l <;> simp [Life.leaving]

theorem differences_length (old new : Content) : (differences old new).length = 7 := by
  cases old <;> cases new <;> rfl

/-- The bit of a changed-fields word for a field of the content. -/
theorem changedFields_content (r : Record) (n : Content) {k : Nat} (hk : k < 7) :
    (changedFields r n).getLsbD k = (differences r.life.prospect n).getD k false := by
  unfold changedFields
  rw [halfOfFlags_bit _ (by omega), List.getD_append _ _ _ _ (by rw [differences_length]; exact hk)]

theorem changedFields_leaving (r : Record) (n : Content) : (changedFields r n).getLsbD 7 = r.life.leaving := by
  unfold changedFields
  rw [halfOfFlags_bit _ (by omega), List.getD_append_right _ _ _ _ (by rw [differences_length]), differences_length]
  rfl

theorem changedFields_renewable (r : Record) (n : Content) : (changedFields r n).getLsbD 8 = r.renewable := by
  unfold changedFields
  rw [halfOfFlags_bit _ (by omega), List.getD_append_right _ _ _ _ (by rw [differences_length]; omega),
    differences_length]
  rfl

theorem changedFields_lt (r : Record) (n : Content) : (changedFields r n).toNat < 512 := by
  refine Nat.lt_of_lt_of_le (halfOfFlags_lt _) ?_
  simp [differences_length]

theorem changedFields_keepAlive (r : Record) (n : Content) :
    (changedFields r n).getLsbD 6 = true ↔ r.life.prospect.keepAlive ≠ n.keepAlive := by
  rw [changedFields_content r n (by omega)]
  cases r.life.prospect <;> cases n <;> simp [differences]

/-- The word of a CHANGE answered PARTIAL holds RENEWED alone (R16). -/
theorem renewedField_bytes (r : Record) :
    halfBytes 0#16 ++ halfBytes (renewedField r) =
      [0#8, 0#8, if r.deadline ≠ none ∧ r.life.active ≠ none then 1#8 else 0#8, 0#8] := by
  unfold renewedField
  simp only [← renewable_iff]
  cases r.renewable <;> rfl

/-! ### CHANGE -/

/-- What a CHANGE finds: the record its handle names, and a content of the record's kind that passes its checks. -/
structure ChangeFound (h : Handle) (kind : Byte) (cf : ContentField) (i : Fin 24) (r : Record) (n : Content)
    (s : State) : Prop where
  record : s.rt.slots.resolve h = .ok (i, r)
  kind : kind.toNat = r.key.kind.code
  content : readContent r.key.kind cf = some n

/-- A CHANGE from an issuer of the record's class or higher (R14, R15). -/
theorem ownChange_written {snd : Sender} {h : Handle} {kind : Byte} {cf : ContentField} {i : Fin 24} {r : Record}
    {n : Content} {s : State} (hf : ChangeFound h kind cf i r n s) (hc : r.key.cls.rank ≤ snd.rank.toNat)
    {d : Option Nat} (hd : r.restarted.deadline = d) {life : Life} (hl : r.life.change n = life) :
    ownChange snd h kind cf s =
      (s.setSlots (s.rt.slots.set i ⟨(s.rt.slots.get i).gen, some ⟨r.key, life, d⟩⟩),
       ⟨.ok, halfBytes (BitVec.ofNat 16 n.slew) ++ halfBytes (changedFields r n)⟩) := by
  subst hd hl
  simp only [ownChange, hf.record, hf.kind, hf.content, (outranks_iff snd r.key.cls).mpr hc, if_true, Reply.yes,
    Slots.setRecord, restarted_key]

/-- A CHANGE from a lower issuer (R16). -/
theorem ownChange_partial {snd : Sender} {h : Handle} {kind : Byte} {cf : ContentField} {i : Fin 24} {r : Record}
    {n : Content} {s : State} (hf : ChangeFound h kind cf i r n s) (hc : snd.rank.toNat < r.key.cls.rank)
    {d : Option Nat} (hd : r.restarted.deadline = d) :
    ownChange snd h kind cf s =
      (s.setSlots (s.rt.slots.set i ⟨(s.rt.slots.get i).gen, some ⟨r.key, r.life, d⟩⟩),
       ⟨.partly, [0#8, 0#8, if r.deadline ≠ none ∧ r.life.active ≠ none then 1#8 else 0#8, 0#8]⟩) := by
  have ho : ¬ outranks snd r.key.cls = true := by
    rw [outranks_iff]
    omega
  have hr : r.restarted = ⟨r.key, r.life, d⟩ := by
    rw [← hd, ← restarted_key r, ← restarted_life r]
  simp only [ownChange, hf.record, hf.kind, hf.content, if_neg ho, if_true, renewedField_bytes, Slots.setRecord, hr]

/-- Settles O12, from the answers of CHANGE and the bits of its changed-fields list. -/
theorem changeWritesAndNamesEachAlteration : Obligations.ChangeWritesAndNamesEachAlteration := by
  refine ⟨?_, ?_, ?_⟩
  · intro snd h kind cf i r n s ht hr hk hn
    have hf : ChangeFound h kind cf i r n s := ⟨hr, hk, hn⟩
    refine ⟨fun hc => next_of_taken ht (ownChange_written hf hc ?_ ?_),
      fun hc => next_of_taken ht (ownChange_partial hf hc ?_)⟩
    · clear hr hk hn hf hc
      obtain ⟨key, life, deadline⟩ := r
      cases deadline <;> cases life <;> rfl
    · cases r.life <;> rfl
    · clear hr hk hn hf hc
      obtain ⟨key, life, deadline⟩ := r
      cases deadline <;> cases life <;> rfl
  · intro snd h kind cf i r s ht hr hbad
    refine next_of_taken ht ?_
    obtain hk | hn := hbad
    · simp only [ownChange, hr, if_neg hk, Reply.no]
    · by_cases hk : kind.toNat = r.key.kind.code
      · simp only [ownChange, hr, hk, hn, if_true, Reply.no]
      · simp only [ownChange, hr, if_neg hk, Reply.no]
  · intro r n old w
    have hold : r.life.prospect = old := by
      cases hl : r.life <;> simp only [old, hl, Life.prospect]
    have bit {k : Nat} (hk : k < 7) : w.getLsbD k = (differences old n).getD k false := by
      rw [← hold]
      exact changedFields_content r n hk
    rw [bit (k := 0) (by omega), bit (k := 1) (by omega), bit (k := 2) (by omega), bit (k := 3) (by omega),
      bit (k := 4) (by omega), bit (k := 5) (by omega)]
    refine ⟨?_, ?_, ?_, ?_, ?_, ?_, changedFields_lt r n⟩
    · intro t sl f k t' sl' f' k' ho hn
      simp [ho, hn, differences]
    · intro o k o' k' ho hn
      simp [ho, hn, differences]
    · intro lo hi k lo' hi' k' ho hn
      simp [ho, hn, differences]
    · rw [← hold]
      exact changedFields_keepAlive r n
    · rw [← leaving_iff, ← changedFields_leaving r n]
    · rw [← renewable_iff, ← changedFields_renewable r n]

/-! ### Handles that name no record (R3) -/

theorem resolve_badField {t : Slots} {h : Handle} (hs : 24 ≤ h.slot.toNat) : t.resolve h = .error .badField := by
  unfold Slots.resolve
  rw [dif_neg (by omega)]

theorem resolve_notFound {t : Slots} {h : Handle} {i : Fin 24} (hs : h.slot.toNat = i.val)
    (hn : (t.get i).record = none ∨ (t.get i).gen ≠ h.gen) : t.resolve h = .error .notFound := by
  have hlt : h.slot.toNat < 24 := by
    rw [hs]
    exact i.isLt
  have hi : (⟨h.slot.toNat, hlt⟩ : Fin 24) = i := Fin.ext hs
  unfold Slots.resolve
  rw [dif_pos hlt]
  dsimp only
  rw [hi]
  split
  · rfl
  · rename_i r hr
    obtain hno | hgen := hn
    · rw [hno] at hr
      cases hr
    · rw [if_neg hgen]

/-- Settles O13: the four owners resolve the handle first. -/
theorem handlesThatNameNoRecordAreRefused : Obligations.HandlesThatNameNoRecordAreRefused := by
  intro snd h kind cf s st hbad
  have hr : s.rt.slots.resolve h = .error st := by
    obtain ⟨hs, rfl⟩ | ⟨i, hs, rfl, hn⟩ := hbad
    · exact resolve_badField hs
    · exact resolve_notFound hs hn
  refine ⟨fun ht => next_of_taken ht ?_, fun ht => next_of_taken ht ?_, fun ht => next_of_taken ht ?_,
    fun ht => next_of_taken ht ?_⟩
  · simp only [ownChange, hr, Reply.no]
  · simp only [ownRetire, hr, Reply.no]
  · simp only [ownRenew, hr, Reply.no]
  · simp only [ownReadRecord, hr, Reply.no]

/-! ### RETIRE and RENEW -/

theorem ownRetire_taken {snd : Sender} {h : Handle} {i : Fin 24} {r : Record} {s : State}
    (hr : s.rt.slots.resolve h = .ok (i, r)) (hc : r.key.cls.rank ≤ snd.rank.toNat) :
    ownRetire snd h s =
      (s.setSlots (s.rt.slots.set i ⟨(s.rt.slots.get i).gen, r.retire⟩), ⟨.ok, [stateByte r.retire]⟩) := by
  simp only [ownRetire, hr, (outranks_iff snd r.key.cls).mpr hc, if_true, Reply.yes, Slots.setRecord]

theorem retire_posted {r : Record} {p : Content} (h : r.life = .posted p) : r.retire = none := by
  simp only [Record.retire, h]

theorem retire_active {r : Record} {a : Content}
    (h : r.life = .live a ∨ (∃ p, r.life = .changed a p) ∨ r.life = .retiring a) :
    r.retire = some ⟨r.key, .retiring a, r.deadline⟩ := by
  obtain hl | ⟨p, hl⟩ | hl := h
  · simp only [Record.retire, hl]
  · simp only [Record.retire, hl]
  · simp only [Record.retire, hl]
    rw [← hl]

theorem ownRenew_found {h : Handle} {i : Fin 24} {r : Record} {s : State} (hr : s.rt.slots.resolve h = .ok (i, r)) :
    ownRenew h s = (s.setSlots (s.rt.slots.setRecord i (some r.restarted)),
      ⟨.ok, halfBytes (shownTimer r.restarted.deadline)⟩) := by
  simp only [ownRenew, hr, Reply.yes]

theorem restarted_of_deadline {r : Record} {d : Nat} {a : Content} (hd : r.deadline = some d)
    (ha : r.life.active = some a) : r.restarted = ⟨r.key, r.life, some (a.keepAlive * 10)⟩ := by
  simp only [Record.restarted, hd, ha]

theorem restarted_without {r : Record} (hd : r.deadline = none) : r.restarted = r := by
  simp only [Record.restarted, hd]

/-- A slot's own record put back leaves the table. -/
theorem setRecord_same {t : Slots} {i : Fin 24} {r : Record} (hr : (t.get i).record = some r) :
    t.setRecord i (some r) = t := by
  refine slots_ext fun j => ?_
  rw [slots_get_setRecord, ← hr]
  split
  · rename_i hj
    rw [hj]
  · rfl

/-- Settles O14, by the record's state and by its deadline. -/
theorem retireAndRenewActOnTheNamedRecord : Obligations.RetireAndRenewActOnTheNamedRecord := by
  constructor
  · intro snd h i r s ht hr
    refine ⟨fun hc => next_of_taken ht ?_, fun hc => ⟨fun p hp => next_of_taken ht ?_,
      fun a ha => next_of_taken ht ?_⟩⟩
    · have ho : ¬ outranks snd r.key.cls = true := by
        rw [outranks_iff]
        omega
      simp only [ownRetire, hr, if_neg ho, Reply.no]
    · rw [ownRetire_taken hr hc, retire_posted hp]
      rfl
    · rw [ownRetire_taken hr hc, retire_active ha]
      rfl
  · intro snd h i r s ht hr
    refine ⟨fun d a hd ha hka => next_of_taken ht ?_, fun hd => next_of_taken ht ?_⟩
    · rw [ownRenew_found hr, restarted_of_deadline hd ha]
      have hmax : max 1 (a.keepAlive * 10) = a.keepAlive * 10 := by omega
      simp only [shownTimer, hmax, Slots.setRecord]
    · rw [ownRenew_found hr, restarted_without hd, setRecord_same (resolve_record hr), hd]
      rfl

end Sys2Proof.Machine
end

section
/-! ## RENEW_CLASS, FIND, READ_RECORD and LIST (R20 to R23) -/

namespace Sys2Proof.Machine

open Sys2Proof

/-! ### The records of one class (R1, R2) -/

/-- The twelve keys of a class. -/
def keysOf (c : Cls) : List Key :=
  Phaser.list.flatMap fun p => [Kind.setpoint, .trim, .limit].map fun k => ⟨p, c, k⟩

theorem mem_keysOf {k : Key} {c : Cls} (h : k.cls = c) : k ∈ keysOf c := by
  obtain ⟨p, d, kind⟩ := k
  subst h
  cases p <;> cases kind <;> simp [keysOf, Phaser.list]

theorem keysOf_length (c : Cls) : (keysOf c).length = 12 := rfl

/-- The slots whose record has the class `c` and a deadline. -/
def deadlineSlots (t : Slots) (c : Cls) : List (Fin 24) :=
  (List.finRange 24).filter fun i => (t.get i).record.any fun r => r.key.cls == c && r.deadline.isSome

/-- The key of a slot's record. -/
def Slot.key? (x : Slot) : Option Key := x.record.map Record.key

theorem mem_deadlineSlots {t : Slots} {c : Cls} {i : Fin 24} (h : i ∈ deadlineSlots t c) :
    ∃ r, (t.get i).record = some r ∧ r.key.cls = c := by
  obtain ⟨-, hi⟩ := List.mem_filter.mp h
  obtain ⟨r, hr, hc⟩ := (Option.any_eq_true _ _).mp hi
  simp only [Bool.and_eq_true, beq_iff_eq] at hc
  exact ⟨r, hr, hc.1⟩

/-- At most twelve records have one class, since no two have one key. -/
theorem deadlineSlots_length_le {s : State} (law : TableLaw s) (c : Cls) :
    (deadlineSlots s.rt.slots c).length ≤ 12 := by
  obtain ⟨-, keys⟩ := law
  have nodup : ((deadlineSlots s.rt.slots c).map fun i => (s.rt.slots.get i).key?).Nodup := by
    refine List.Nodup.map_on (fun i hi j hj hk => ?_) ((List.nodup_finRange 24).filter _)
    obtain ⟨r, hr, -⟩ := mem_deadlineSlots hi
    obtain ⟨q, hq, -⟩ := mem_deadlineSlots hj
    simp only [Slot.key?, hr, hq, Option.map_some, Option.some.injEq] at hk
    exact keys i j r q hr hq hk
  have sub : ((deadlineSlots s.rt.slots c).map fun i => (s.rt.slots.get i).key?) ⊆ (keysOf c).map some := by
    intro x hx
    obtain ⟨i, hi, rfl⟩ := List.mem_map.mp hx
    obtain ⟨r, hr, hc⟩ := mem_deadlineSlots hi
    rw [Slot.key?, hr]
    exact List.mem_map_of_mem (mem_keysOf hc)
  have h := (List.subperm_of_subset nodup sub).length_le
  rwa [List.length_map, List.length_map, keysOf_length] at h

/-! ### RENEW_CLASS -/

theorem slots_list (t : Slots) : t.list = (List.finRange 24).map t.get := by
  refine List.ext_getElem (by rw [t.len, List.length_map, List.length_finRange]) fun n h _ => ?_
  simp [Slots.get]

/-- Under the law of the table a deadline stands beside an active content, so it can be renewed. -/
theorem renewable_eq {r : Record} (h : r.deadlineOk) : r.renewable = r.deadline.isSome := by
  unfold Record.renewable
  unfold Record.deadlineOk at h
  cases ha : r.life.active with
  | none =>
    rw [ha] at h
    rw [h]
    rfl
  | some a => rw [Option.isSome_some, Bool.and_true]

/-- The count that RENEW_CLASS answers. -/
theorem counted_eq {s : State} (law : TableLaw s) (c : Cls) :
    s.rt.slots.list.countP (Slot.counted c) = (deadlineSlots s.rt.slots c).length := by
  obtain ⟨records, -⟩ := law
  rw [slots_list, List.countP_map, deadlineSlots, ← List.countP_eq_length_filter]
  refine List.countP_congr fun i _ => ?_
  simp only [Function.comp_apply, Slot.counted]
  cases hr : (s.rt.slots.get i).record with
  | none => simp
  | some r => simp only [Option.any_some, renewable_eq (records i r hr).2]

theorem renewClass_record_none {x : Slot} (c : Cls) (h : x.record = none) : (x.renewClass c).record = none := by
  rw [Slot.renewClass, h, Option.map_none]

theorem renewClass_record_some {x : Slot} {r : Record} (c : Cls) (h : x.record = some r) :
    (x.renewClass c).record = some (if r.key.cls = c then r.restarted else r) := by
  rw [Slot.renewClass, h, Option.map_some]

/-- Settles O15, with the twelve keys of a class as the bound of its count. -/
theorem renewClassRestartsEveryDeadlineOfItsClass : Obligations.RenewClassRestartsEveryDeadlineOfItsClass := by
  intro snd b s ht
  refine ⟨fun hb => next_of_taken ht ?_, fun c hb law => ?_⟩
  · simp only [ownRenewClass, (clsOfByte_none b).mpr hb, Reply.no]
  · refine ⟨s.rt.slots.map (Slot.renewClass c), (deadlineSlots s.rt.slots c).length, next_of_taken ht ?_,
      deadlineSlots_length_le law c, rfl, fun i => ?_⟩
    · simp only [ownRenewClass, clsOfByte_of_rank hb, counted_eq law, Reply.yes]
    · rw [slots_get_map]
      refine ⟨rfl, renewClass_record_none c, fun r hr => ⟨fun h => ?_, fun d a hc hd ha => ?_⟩⟩
      · rw [renewClass_record_some c hr]
        obtain hc | hd := h
        · rw [if_neg hc]
        · rw [restarted_without hd, ite_self]
      · rw [renewClass_record_some c hr, if_pos hc, restarted_of_deadline hd ha]

/-! ### The bytes of the readers (10.8) -/

theorem contentBytes_length (c : Option Content) : (contentBytes c).length = 6 := by
  cases c with
  | none => rfl
  | some c => cases c <;> rfl

/-- The key bytes, the state and the contents present come first in a record readout. -/
theorem readout_eq (r : Record) :
    r.readout = (r.key.bytes ++ [r.life.code, byteOfFlags [r.life.active.isSome, r.life.pending.isSome]]) ++
      (contentBytes r.life.active ++ (contentBytes r.life.pending ++ halfBytes (shownTimer r.deadline))) := by
  simp only [Record.readout, List.append_assoc]

theorem readout_length (r : Record) : r.readout.length = 19 := by
  rw [readout_eq]
  simp [contentBytes_length, Key.bytes, halfBytes]

theorem readout_head (r : Record) :
    r.readout.take 5 = r.key.bytes ++ [r.life.code, byteOfFlags [r.life.active.isSome, r.life.pending.isSome]] := by
  rw [readout_eq]
  rfl

theorem readout_tail (r : Record) :
    r.readout.drop 5 =
      contentBytes r.life.active ++ (contentBytes r.life.pending ++ halfBytes (shownTimer r.deadline)) := by
  rw [readout_eq]
  rfl

theorem readout_active (r : Record) : (r.readout.drop 5).take 6 = contentBytes r.life.active := by
  rw [readout_tail, List.take_left' (contentBytes_length _)]

theorem readout_drop_active (r : Record) :
    r.readout.drop 11 = contentBytes r.life.pending ++ halfBytes (shownTimer r.deadline) := by
  rw [← List.drop_drop (i := 6) (j := 5), readout_tail, List.drop_left' (contentBytes_length _)]

theorem readout_pending (r : Record) : (r.readout.drop 11).take 6 = contentBytes r.life.pending := by
  rw [readout_drop_active, List.take_left' (contentBytes_length _)]

theorem readout_deadline (r : Record) : r.readout.drop 17 = halfBytes (shownTimer r.deadline) := by
  rw [← List.drop_drop (i := 6) (j := 11), readout_drop_active, List.drop_left' (contentBytes_length _)]

/-- The byte of the contents present. -/
theorem presentByte_eq (a p : Option Content) :
    byteOfFlags [a.isSome, p.isSome] =
      BitVec.ofNat 8 ((if a = none then 0 else 1) + (if p = none then 0 else 2)) := by
  cases a <;> cases p <;> rfl

/-- A state in the high four bits and a generation in the low four. -/
theorem nibbles_eq {b : Byte} (hb : b.toNat < 16) (g : BitVec 4) :
    (b <<< 4) ||| g.setWidth 8 = BitVec.ofNat 8 (b.toNat * 16 + g.toNat) := by
  have hg : g.toNat < 2 ^ 4 := g.isLt
  apply BitVec.eq_of_toNat_eq
  rw [BitVec.toNat_or, BitVec.toNat_shiftLeft, BitVec.toNat_setWidth, BitVec.toNat_ofNat, Nat.shiftLeft_eq,
    Nat.mod_eq_of_lt (by omega), Nat.mod_eq_of_lt (by omega), Nat.mod_eq_of_lt (by omega), ← Nat.shiftLeft_eq,
    ← Nat.shiftLeft_add_eq_or_of_lt hg, Nat.shiftLeft_eq]

theorem stateByte_lt (o : Option Record) : (stateByte o).toNat < 16 := by
  cases o with
  | none => decide
  | some r => cases hl : r.life <;> simp [stateByte, hl, Life.code]

theorem listByte_eq (x : Slot) : x.listByte = BitVec.ofNat 8 ((stateByte x.record).toNat * 16 + x.gen.toNat) :=
  nibbles_eq (stateByte_lt _) _

theorem list_byte (t : Slots) (i : Fin 24) : (t.list.map Slot.listByte)[i.val]? = some (t.get i).listByte := by
  rw [List.getElem?_map, List.getElem?_eq_getElem (by rw [t.len]; exact i.isLt)]
  rfl

/-! ### FIND, READ_RECORD and LIST -/

theorem ownFind_found {key : KeyField} {k : Key} {s : State} (hk : readKey key = some k) {i : Fin 24}
    (hi : s.rt.slots.findKey k = some i) {r : Record} (hr : (s.rt.slots.get i).record = some r) :
    ownFind key s = (s, ⟨.ok, [BitVec.ofNat 8 i.val, (s.rt.slots.get i).gen.setWidth 8, r.life.code]⟩) := by
  simp only [ownFind, hk, hi, handle_bytes, hr, stateByte, Reply.yes, List.cons_append, List.nil_append]

/-- Settles O16: the bytes that the statement lays out are those of the model's readouts. -/
theorem tableReadersShowTheTable : Obligations.TableReadersShowTheTable := by
  unfold Obligations.TableReadersShowTheTable
  intro stateCode phaserCode classCode kindCode content snd s
  have hstate (l : Life) : stateCode l = l.code := by cases l <;> rfl
  have hkey (k : Key) : k.bytes = [phaserCode k.phaser, classCode k.cls, kindCode k.kind] := by
    obtain ⟨p, c, d⟩ := k
    have hp : BitVec.ofNat 8 p.index = phaserCode p := by cases p <;> rfl
    have hc : BitVec.ofNat 8 c.rank = classCode c := by cases c <;> rfl
    have hd : BitVec.ofNat 8 d.code = kindCode d := by cases d <;> rfl
    rw [← hp, ← hc, ← hd]
    rfl
  have hcontent (c : Option Content) : contentBytes c = content c := by
    cases c with
    | none => rfl
    | some c =>
      cases c with
      | setpoint t sl f k => cases t <;> rfl
      | trim o k => rfl
      | limit lo hi k => rfl
  refine ⟨fun key k ht hk law => ⟨fun i r hr hrk => next_of_taken ht ?_, fun habs => next_of_taken ht ?_⟩,
    fun key ht hk => next_of_taken ht ?_, fun h i r ht hr => ⟨r.readout, next_of_taken ht ?_, readout_length r, ?_,
    ?_, ?_, fun hd => ?_, fun d hd h1 => ?_⟩, fun ht => ⟨_, next_of_taken ht rfl, ?_, fun i => ?_⟩⟩
  · rw [hstate]
    exact ownFind_found hk (hrk ▸ findKey_of_key law hr) hr
  · simp only [ownFind, hk, findKey_of_absent habs, Reply.no]
  · simp only [ownFind, hk, Reply.no]
  · simp only [ownReadRecord, hr, Reply.yes]
  · rw [readout_head, hkey, hstate, presentByte_eq]
    rfl
  · rw [readout_active, hcontent]
  · rw [readout_pending, hcontent]
  · rw [readout_deadline, hd]
    rfl
  · have hmax : max 1 d = d := by omega
    simp only [readout_deadline, hd, shownTimer, hmax]
  · rw [List.length_map, s.rt.slots.len]
  · rw [list_byte, listByte_eq]
    cases hr : (s.rt.slots.get i).record with
    | none => rfl
    | some r => simp only [stateByte, hstate]

end Sys2Proof.Machine
end

section
/-! ## The empty queue, the resets, an expiry, and the laws at reset -/

namespace Sys2Proof.Machine

open Sys2Proof

/-! ### A step on an empty queue (log 1) -/

theorem step_own {s : State} {i : Instr} (hp : s.pending = []) (ho : s.own = some i) : step s = exec i s := by
  simp only [step, hp, ho]

theorem step_tick {s : State} (hp : s.pending = []) (ho : s.own = none) : step s = .next s.tick := by
  simp only [step, hp, ho]

theorem own_of_owed {s : State} {i : Instr} {rest : List Instr} (h : s.owed = i :: rest) : s.own = some i := by
  simp only [State.own, h]

theorem own_of_nothing {s : State} (h : s.owed = []) :
    s.own = if 8000 ≤ s.msTicks + 1 then some .timeBaseAdvance else none := by
  simp only [State.own, h]
  rfl

/-- Settles O2, by what the part takes on its own. -/
theorem emptyQueueTakesOwedEventOrTick : Obligations.EmptyQueueTakesOwedEventOrTick := by
  intro s hp
  refine ⟨fun i rest ho => step_own hp (own_of_owed ho), fun ho hms => step_own hp ?_, fun ho hms => step_tick hp ?_⟩
  · rw [own_of_nothing ho, if_pos hms]
  · rw [own_of_nothing ho, if_neg (Nat.not_le.mpr hms)]

/-! ### The hard resets (R28, R63, R84, R102, R128, R147, R161, R171, R184) -/

theorem afterReset_eq (x : Transaction) : x.afterReset = if x = .idle then .idle else .abandoned := by
  cases x <;> simp [Transaction.afterReset]

/-- The kind of a hard reset reaches RESET_OCCURRED alone (R171). -/
theorem hardReset_kind (kind : ResetKind) (hot : Quad Bool) (s : State) :
    hardReset kind hot s =
      (hardReset .power hot s).setDev { (hardReset .power hot s).cm.dev with resetOccurred := some ⟨1, kind⟩ } := rfl

theorem hardReset_slots (kind : ResetKind) (hot : Quad Bool) (s : State) (i : Fin 24) :
    (hardReset kind hot s).rt.slots.get i = ⟨0#4, none⟩ := slots_get_empty i

theorem hardReset_resolver (kind : ResetKind) (hot : Quad Bool) (s : State) (p : Phaser) :
    ((hardReset kind hot s).resolver p).record = ⟨.park, .parkDefault, [], [], false, false⟩ ∧
    ((hardReset kind hot s).resolver p).notes = [] ∧ ((hardReset kind hot s).resolver p).asked = [] := by
  cases p <;> exact ⟨rfl, rfl, rfl⟩

theorem hardReset_cam (kind : ResetKind) (hot : Quad Bool) (s : State) (c : Phaser) :
    ((hardReset kind hot s).cam c).queue = [] ∧ ((hardReset kind hot s).cam c).miss = 0 ∧
    ((hardReset kind hot s).cam c).last = none ∧ ((hardReset kind hot s).cam c).rejects = 0 ∧
    ((hardReset kind hot s).cam c).rises = true ∧ ∀ m ∈ ((hardReset kind hot s).cam c).marks, m = true := by
  have fresh (teeth : List Nat) : ∀ m ∈ (Cam.fresh teeth).marks, m = true := by
    intro m hm
    obtain ⟨-, -, rfl⟩ := List.mem_map.mp hm
    rfl
  cases c <;> exact ⟨rfl, rfl, rfl, rfl, rfl, fresh _⟩

theorem hardReset_phaser (kind : ResetKind) (hot : Quad Bool) (s : State) (p : Phaser) :
    (hardReset kind hot s).phaser p = PhaserRec.reset := quad_get_all _ p

theorem hardReset_loop (kind : ResetKind) (hot : Quad Bool) (s : State) (p : Phaser) :
    ∃ kp, (hardReset kind hot s).loop p = Loop.fresh kp := by
  cases p <;> exact ⟨_, rfl⟩

/-- The first periods are staggered by 8,000 ticks (R161). -/
theorem hardReset_channel (kind : ResetKind) (hot : Quad Bool) (s : State) (p : Phaser) :
    (hardReset kind hot s).channel p = Channel.fresh (BitVec.ofNat 24 (8000 * p.index)) (hot.get p) := by
  cases p <;> simp [State.channel, hardReset, Drivers.fresh, Quad.get, Phaser.index]

/-- RESET_OCCURRED is latched and enabled (R167, R171). -/
theorem hardReset_attn (kind : ResetKind) (hot : Quad Bool) (s : State) : (hardReset kind hot s).attn = true := by
  have dev : (hardReset kind hot s).cm.dev.summary = true := by
    simp [hardReset, Monitor.fresh, DevGroup.summary, DevGroup.latched, DevGroup.fresh, someEnabled]
  rw [State.attn, dev]
  exact Bool.or_true _

theorem hardReset_phGroup (kind : ResetKind) (hot : Quad Bool) (s : State) (p : Phaser) :
    (hardReset kind hot s).phGroup p = PhGroup.reset := quad_get_all _ p

/-- Settles O4, block by block. -/
theorem hardResetsSetEveryBlock : Obligations.HardResetsSetEveryBlock := by
  intro hot s
  refine ⟨hardReset .power hot s, rfl, rfl, congrArg Host.Outcome.next (hardReset_kind .pin hot s), rfl,
    hardReset_slots _ hot s, rfl, rfl, hardReset_resolver _ hot s, rfl, rfl, rfl, rfl,
    rfl, rfl, rfl, rfl, rfl, rfl, rfl, rfl, rfl, rfl, rfl, rfl, rfl, rfl, rfl, rfl, rfl, rfl,
    hardReset_cam _ hot s, rfl, rfl, rfl, rfl, fun p => ?_, rfl, rfl, fun p => ?_, rfl, rfl, rfl, rfl, rfl, rfl,
    fun p => ?_, rfl, rfl, rfl, rfl, rfl, rfl, rfl, fun p => ?_, hardReset_attn _ hot s, rfl, rfl, afterReset_eq _, rfl⟩
  · rw [hardReset_phaser]
    exact ⟨rfl, rfl, rfl, rfl, rfl⟩
  · obtain ⟨kp, hl⟩ := hardReset_loop .power hot s p
    rw [hl]
    exact ⟨rfl, rfl, rfl, rfl, rfl, rfl, rfl, rfl, rfl, rfl, rfl, rfl⟩
  · rw [hardReset_channel]
    exact ⟨rfl, rfl, rfl, rfl, rfl, rfl, rfl, rfl, rfl, (BitVec.zero_add _).symm⟩
  · rw [hardReset_phGroup]
    exact ⟨fun e => by cases e <;> rfl, rfl, rfl, rfl, rfl, rfl⟩

/-! ### The soft reset (R29, R64, R103, R129, R148, R162, R172, R183) -/

@[simp] theorem softReset_resolver (s : State) (p : Phaser) :
    (softReset s).resolver p = (s.resolver p).softReset := quad_get_map _ _ p

@[simp] theorem softReset_phaser (s : State) (p : Phaser) :
    (softReset s).phaser p = (s.phaser p).softReset := quad_get_map _ _ p

@[simp] theorem softReset_loop (s : State) (p : Phaser) : (softReset s).loop p = (s.loop p).softReset :=
  quad_get_map _ _ p

@[simp] theorem softReset_channel (s : State) (p : Phaser) :
    (softReset s).channel p =
      (s.channel p).softReset ((s.channel p).position s.counter) (s.phaser p).enable := by
  cases p <;> rfl

@[simp] theorem softReset_phGroup (s : State) (p : Phaser) :
    (softReset s).phGroup p = (s.phGroup p).softReset := quad_get_map _ _ p

/-- A cut switches the output OFF and leaves the period and the hold. -/
theorem cut_frame (c : Channel) (position : Nat) :
    (c.cut position).on = false ∧ (c.cut position).hold = c.hold ∧ (c.cut position).start = c.start ∧
    (c.cut position).length = c.length ∧ (c.cut position).running = c.running := by
  unfold Channel.cut
  split
  · exact ⟨rfl, rfl, rfl, rfl, rfl⟩
  · rename_i hon
    exact ⟨Bool.eq_false_of_not_eq_true hon, rfl, rfl, rfl, rfl⟩

/-- CAM_LOST keeps its status at a soft reset, every other condition is clear, and none is latched (R172). -/
theorem softReset_conds (c : PhConds) (e : PhCond) :
    c.softReset.get e = ⟨e == .camLost && (c.get .camLost).declared, none⟩ := by
  cases e <;> rfl

/-- A driver condition that has not been declared to the Sequencer is not taken (R158). -/
theorem takeDriverFault_none {p : Phaser} {s : State} (h : (s.phaser p).declared = DriverSet.empty) (d : DriverCause) :
    takeDriverFault p d s = s := by
  unfold takeDriverFault
  rw [h, if_neg]
  cases d <;> exact Bool.false_ne_true

/-- Settles O5, block by block. -/
theorem softResetActsBlockByBlock : Obligations.SoftResetActsBlockByBlock := by
  intro snd s ht
  refine ⟨softReset s, next_of_taken ht rfl, rfl, rfl, rfl, rfl, rfl, rfl, fun i => slots_get_empty i, rfl, rfl,
    fun p => ?_, rfl, rfl, fun p => ?_, fun p => ?_, rfl, fun p => ?_, fun p e => ?_, fun p => ?_, rfl⟩
  · rw [softReset_resolver]
    exact ⟨rfl, rfl, rfl, rfl, rfl⟩
  · have owed (d : DriverCause) : exec (.driverConditionFault p d) (softReset s) = .next (softReset s) := by
      have none_declared : ((softReset s).phaser p).declared = DriverSet.empty := by
        rw [softReset_phaser]
        rfl
      exact congrArg Host.Outcome.next (takeDriverFault_none none_declared d)
    rw [softReset_phaser]
    exact ⟨rfl, rfl, rfl, rfl, rfl, rfl, rfl, rfl, owed⟩
  · rw [softReset_loop]
    exact ⟨rfl, rfl, rfl, rfl, rfl, rfl, rfl, rfl⟩
  · obtain ⟨hon, hhold, hstart, hlength, hrunning⟩ := cut_frame (s.channel p) ((s.channel p).position s.counter)
    rw [softReset_channel]
    exact ⟨hon, rfl, rfl, rfl, rfl, rfl, hhold, hstart, hlength, hrunning, rfl⟩
  · rw [softReset_phGroup]
    exact softReset_conds _ e
  · rw [softReset_phGroup]
    exact ⟨rfl, rfl, rfl, rfl, rfl⟩

/-! ### An expiry (R24, R25, R52) -/

theorem settle_notAsked {who : Asker → Bool} {p : Phaser} {s : State} (h : (s.resolver p).asked.any who = false) :
    settle who p s = s := by
  unfold settle
  rw [h]
  rfl

theorem settleGroup_notAsked {who : Asker → Bool} {s : State} (h : ∀ p, (s.resolver p).asked.any who = false)
    (g : Group) : settleGroup who g s = s := by
  cases g
  · simp only [settleGroup, settle_notAsked (h .fi), settle_notAsked (h .fe)]
  · simp only [settleGroup, settle_notAsked (h .ri), settle_notAsked (h .re)]

theorem byApply_notAsked {l : List Asker} (h : Asker.apply ∉ l ∧ Asker.mark ∉ l) : l.any Asker.byApply = false := by
  rw [List.any_eq_false]
  intro a ha
  cases a with
  | apply => exact absurd ha h.1
  | mark => exact absurd ha h.2
  | expiry => exact Bool.false_ne_true

theorem expireSlot_free {i : Fin 24} {s : State} (h : (s.rt.slots.get i).record = none) : expireSlot i s = s := by
  simp only [expireSlot, h]

theorem runOut_iff (t : Option Nat) : runOut t = true ↔ t = some 0 := beq_iff_eq

theorem expireSlot_waiting {i : Fin 24} {s : State} {r : Record} (h : (s.rt.slots.get i).record = some r)
    (hd : r.deadline ≠ some 0) : expireSlot i s = s := by
  have hr : ¬ runOut r.deadline = true := fun hr => hd ((runOut_iff _).mp hr)
  simp only [expireSlot, h, if_neg hr]

/-- What the expiry of a record does where no recompute of an apply waits. -/
theorem expireSlot_runOut {i : Fin 24} {s : State} {r : Record} (h : (s.rt.slots.get i).record = some r)
    (hd : r.deadline = some 0) (hs : settleGroup Asker.byApply r.key.phaser.group s = s) :
    expireSlot i s =
      askRecompute r.key.phaser .expiry (expiryNotes r.key.kind (s.rt.slots.handle i))
        ((s.setSlots (s.rt.slots.setRecord i none)).latchExpired r.key.phaser (s.rt.slots.handle i)) := by
  simp only [expireSlot, h, (runOut_iff _).mpr hd, if_true, hs]

theorem expiryNotes_eq (k : Kind) (h : Handle) : expiryNotes k h = if k = .setpoint then [⟨h, .expired⟩] else [] := by
  cases k <;> rfl

/-- Settles O18: with no recompute of an apply owed, the expiry frees the slot, latches EXPIRED and asks. -/
theorem expiryRemovesTheRecordAndAsksForARecompute : Obligations.ExpiryRemovesTheRecordAndAsksForARecompute := by
  intro i s
  refine ⟨fun h => congrArg Host.Outcome.next (expireSlot_free h),
    fun r h hd => congrArg Host.Outcome.next (expireSlot_waiting h hd), fun r h hd hn => ?_⟩
  have settled := settleGroup_notAsked (who := Asker.byApply) (fun p => byApply_notAsked (hn p)) r.key.phaser.group
  refine congrArg Host.Outcome.next ((expireSlot_runOut h hd settled).trans ?_)
  rw [expiryNotes_eq]
  simp only [askRecompute, State.latchExpired, latchEvent]
  cases hx : (s.phGroup r.key.phaser).expired <;> simp [hx, Slots.handle] <;> rfl

/-! ### The laws at reset -/

theorem windowLaw_reset : WindowLaw State.reset := by
  intro p
  unfold Resolver.windowOk
  cases p <;> exact ⟨by decide, trivial, by decide, by decide⟩

theorem loopLaw_reset : LoopLaw State.reset := by
  intro p
  cases p <;> decide

theorem dutyLaw_reset : DutyLaw State.reset := by
  refine ⟨by decide, fun p => ?_⟩
  cases p <;> decide

theorem phaserLaw_reset : PhaserLaw State.reset := by
  intro p
  unfold phaserOk
  cases p <;> decide

theorem departureLaw_reset : DepartureLaw State.reset := by
  intro _ _ p
  cases p <;> exact .inl rfl

theorem syncLaw_reset : SyncLaw State.reset := by
  refine ⟨by decide, by decide, by decide, by decide, by decide, fun c => ?_⟩
  cases c <;> decide

theorem statusLaw_reset : StatusLaw State.reset := by
  refine ⟨by decide, by decide, by decide, fun p => ?_⟩
  cases p <;> rfl

/-- Settles O53, law by law. -/
theorem everyLawHoldsAtReset : Obligations.EveryLawHoldsAtReset :=
  ⟨tableLaw_of_free fun i => congrArg Slot.record (slots_get_empty i), windowLaw_reset, loopLaw_reset, dutyLaw_reset,
   phaserLaw_reset, departureLaw_reset, syncLaw_reset, statusLaw_reset⟩

end Sys2Proof.Machine
end

section
/-! ## The advance of the millisecond time base (R8, R24, R68, R95, R104, R107, R115, R131) -/

namespace Sys2Proof.Machine

open Sys2Proof

/-! ### The events that wait at an advance, one after another (logs 1, 9) -/

/-- The state after one command or event. -/
def State.after (s : State) (i : Instr) : State :=
  match exec i s with
  | .next t => t
  | _ => s

/-- Every arm of the dispatch answers a next state. -/
theorem exec_after (i : Instr) (s : State) : exec i s = .next (s.after i) := by
  cases i <;> rfl

/-- The timer and over-band events of one phaser. -/
def timerEvents (p : Phaser) : List Instr :=
  [.releaseIntervalExpiry p, .returnTimeoutExpiry p, .latchIntervalExpiry p, .overBandTrackTime p, .overBandFaultTime p]

/-- The events that an advance takes first. -/
def dueEvents : List Instr :=
  slotNumbers.map Instr.expiry ++ Phaser.list.flatMap timerEvents ++ [.freshnessTimerExpiry, .stopTimerExpiry]

/-- Fault entry ends the wait of the over-band events. -/
theorem overBandEvent_faultDue {p : Phaser} {s : State} (h : (s.phaser p).state = .tracking) :
    ((overBandEvent p s).phaser p).faultDue = false := by
  cases hf : (s.phaser p).faultDue with
  | false => rw [overBandEvent_track h hf, declareTrackErr_phaser, hf]
  | true =>
    rw [overBandEvent_fault h hf, updateHeld_phaser, faultEntry_phaser, moveTo_record, if_pos]
    rw [declareTrackErr_phaser, h]

/-- The over-band event at the track time, then the one at the fault time, are together the over-band event. -/
theorem overBandEvents_after (p : Phaser) (s : State) :
    (s.after (.overBandTrackTime p)).after (.overBandFaultTime p) = overBandEvent p s := by
  change (if ((if (s.phaser p).trackDue then overBandEvent p s else s).phaser p).faultDue then
    overBandEvent p (if (s.phaser p).trackDue then overBandEvent p s else s)
    else if (s.phaser p).trackDue then overBandEvent p s else s) = _
  cases ht : (s.phaser p).trackDue with
  | true =>
    by_cases hs : (s.phaser p).state = .tracking
    · simp [overBandEvent_faultDue hs]
    · simp [overBandEvent_other hs]
  | false =>
    cases hf : (s.phaser p).faultDue with
    | true => simp [hf]
    | false => simp [hf, overBandEvent_none ht hf]

theorem timerEvents_foldl (p : Phaser) (s : State) : (timerEvents p).foldl State.after s = takeTimers p s :=
  overBandEvents_after p (endLatch p (endReturn p (endRelease p s)))

/-- The due events one after another are what the advance takes. -/
theorem dueEvents_foldl (s : State) : dueEvents.foldl State.after s = takeRunOut s := by
  have expiry (s : State) (i : Fin 24) : s.after (.expiry i) = expireSlot i s := rfl
  have freshness (s : State) : s.after .freshnessTimerExpiry = goStale s := rfl
  have stop (s : State) : s.after .stopTimerExpiry = stopEngine s := rfl
  rw [dueEvents, List.foldl_append, List.foldl_append, List.foldl_map, List.foldl_flatMap]
  simp only [timerEvents_foldl, expiry, freshness, stop, List.foldl_cons, List.foldl_nil, takeRunOut]

/-! ### Nothing has run out -/

theorem takeTimers_idle {p : Phaser} {s : State} (ht : (s.phaser p).timer ≠ some 0)
    (htrack : (s.phaser p).trackDue = false) (hfault : (s.phaser p).faultDue = false) : takeTimers p s = s := by
  have idle (st : PhaserState) : ¬ s.timerDue p st = true := by
    simp [State.timerDue, runOut_iff, ht]
  simp only [takeTimers, endRelease, endReturn, endLatch, if_neg (idle _), overBandEvent_none htrack hfault]

theorem goStale_idle {s : State} (h : s.ps.cond.timer ≠ some 0) : goStale s = s :=
  if_neg fun hr => h ((runOut_iff _).mp hr)

theorem stopEngine_idle {s : State} (h : s.ad.stopTimer ≠ some 0) : stopEngine s = s :=
  if_neg fun hr => h ((runOut_iff _).mp hr)

/-- Where nothing has run out nothing is taken. -/
theorem takeRunOut_idle {s : State} (hslots : ∀ i r, (s.rt.slots.get i).record = some r → r.deadline ≠ some 0)
    (hphasers : ∀ p, (s.phaser p).timer ≠ some 0 ∧ (s.phaser p).trackDue = false ∧ (s.phaser p).faultDue = false)
    (hfresh : s.ps.cond.timer ≠ some 0) (hstop : s.ad.stopTimer ≠ some 0) : takeRunOut s = s := by
  have slot (i : Fin 24) : expireSlot i s = s := by
    cases hr : (s.rt.slots.get i).record with
    | none => exact expireSlot_free hr
    | some r => exact expireSlot_waiting hr (hslots i r hr)
  have timers (p : Phaser) : takeTimers p s = s := by
    obtain ⟨ht, htrack, hfault⟩ := hphasers p
    exact takeTimers_idle ht htrack hfault
  have slots : slotNumbers.foldl (fun s i => expireSlot i s) s = s := List.foldl_fixed' slot slotNumbers
  have phasers : Phaser.list.foldl (fun s p => takeTimers p s) s = s := List.foldl_fixed' timers Phaser.list
  simp only [takeRunOut, slots, phasers, goStale_idle hfresh, stopEngine_idle hstop]

/-! ### What the events taken first leave -/

theorem clock_foldl {α : Type} (f : State → α → State) (h : ∀ s a, ClockFrame s (f s a)) (l : List α) (s : State) :
    ClockFrame s (l.foldl f s) :=
  List.foldlRecOn l f (ClockFrame.refl s) fun t ht a _ => ht.trans (h t a)

/-- After the expiries, the timer events leave the table. -/
theorem takeRunOut_event (s : State) :
    EventFrame (slotNumbers.foldl (fun s i => expireSlot i s) s) (takeRunOut s) :=
  (event_foldl _ (fun s p => event_takeTimers p s) Phaser.list _).trans
    ((event_goStale _).trans (event_stopEngine _))

theorem clock_takeRunOut (s : State) : ClockFrame s (takeRunOut s) :=
  (clock_foldl _ (fun s i => clock_expireSlot i s) slotNumbers s).trans (takeRunOut_event s).toClockFrame

theorem expired_expired (x : Slot) : x.expired.expired = x.expired := by
  simp [Slot.expired, Option.filter_filter]

/-- The slots after a run of expiries. -/
theorem expireSlots_get (l : List (Fin 24)) (s : State) (j : Fin 24) :
    (l.foldl (fun s i => expireSlot i s) s).rt.slots.get j =
      if j ∈ l then (s.rt.slots.get j).expired else s.rt.slots.get j := by
  induction l generalizing s with
  | nil => rfl
  | cons i l ih =>
    rw [List.foldl_cons, ih, expireSlot_get]
    by_cases hi : j = i
    · subst hi
      simp [expired_expired]
    · simp [hi]

/-- Every slot whose deadline has run out is freed, and no other one changes. -/
theorem takeRunOut_get (s : State) (i : Fin 24) :
    (takeRunOut s).rt.slots.get i = (s.rt.slots.get i).expired := by
  have hi : i ∈ slotNumbers := List.mem_finRange i
  rw [(takeRunOut_event s).rt, expireSlots_get, if_pos hi]

/-- A record that stands after the expiries has not run out. -/
theorem expired_record {x : Slot} {r : Record} (h : x.expired.record = some r) : r.deadline ≠ some 0 := by
  obtain ⟨-, hr⟩ := Option.filter_eq_some_iff.mp h
  intro hd
  rw [(runOut_iff _).mpr hd] at hr
  cases hr

/-! ### The advance itself -/

/-- The state at the end of an advance, from the one that the events taken first have left. -/
def State.advanced (u : State) : State := advanceTimeBase u.atBoundary

theorem exec_timeBase (s : State) : exec .timeBaseAdvance s = .next (takeRunOut s).advanced := exec_timeBaseAdvance s

theorem advanced_get (u : State) (i : Fin 24) : u.advanced.rt.slots.get i = (u.rt.slots.get i).advance :=
  slots_get_map _ _ i

theorem advanced_cam (u : State) (p : Phaser) : u.advanced.cam p = (u.cam p).advance := quad_get_map _ _ p

theorem advanced_loop (u : State) (p : Phaser) : u.advanced.loop p = (u.loop p).advance := quad_get_map _ _ p

theorem advanced_phaser (u : State) (p : Phaser) :
    u.advanced.phaser p = (u.phaser p).advance (u.stands p .trackErr) u.ps.params := by
  cases p <;> rfl

/-- The blocks that an advance keeps, and the clock it leaves. -/
theorem advanced_frame (u : State) :
    u.advanced.rt.front = u.rt.front ∧ u.advanced.rt.rear = u.rt.rear ∧ u.advanced.tr = u.tr ∧
    u.advanced.vd = u.vd ∧ u.advanced.cm = u.cm ∧ u.advanced.fp = u.fp ∧ u.advanced.msTicks = 0 ∧
    u.advanced.counter = u.counter + BitVec.ofNat 24 (8000 - u.msTicks) ∧
    u.advanced.ps.params = u.ps.params ∧ u.advanced.ps.departed = u.ps.departed :=
  ⟨rfl, rfl, rfl, rfl, rfl, rfl, rfl, rfl, rfl, rfl⟩

theorem advanced_ad (u : State) : u.advanced.ad = { u.ad with stopTimer := tickDown u.ad.stopTimer } := rfl

theorem advanced_cond (u : State) :
    u.advanced.ps.cond = { u.ps.cond with timer := tickDown u.ps.cond.timer } := rfl

/-- The slot of an advance: its record expires or has its deadline shortened. -/
theorem advance_expired (x : Slot) :
    x.expired.advance.gen = x.gen ∧ (x.record = none → x.expired.advance.record = none) ∧
    (∀ r, x.record = some r → r.deadline = some 0 → x.expired.advance.record = none) ∧
    (∀ r, x.record = some r → r.deadline ≠ some 0 →
      x.expired.advance.record = some { r with deadline := tickDown r.deadline }) := by
  refine ⟨rfl, fun h => ?_, fun r h hd => ?_, fun r h hd => ?_⟩
  · rw [expired_free h, Slot.advance, h]
    rfl
  · rw [expired_runOut h ((runOut_iff _).mpr hd)]
    rfl
  · rw [expired_waiting h (Bool.eq_false_of_not_eq_true fun hr => hd ((runOut_iff _).mp hr)), Slot.advance, h]
    rfl

theorem phaserAdvance_fixed (x : PhaserRec) (b : Bool) (q : SeqParams) :
    (x.advance b q).state = x.state ∧ (x.advance b q).causes = x.causes ∧ (x.advance b q).enable = x.enable ∧
    (x.advance b q).timer = tickDown x.timer := by
  unfold PhaserRec.advance
  split <;> exact ⟨rfl, rfl, rfl, rfl⟩

theorem phaserAdvance_resting {x : PhaserRec} (h : x.overBand = none) (b : Bool) (q : SeqParams) :
    (x.advance b q).overBand = none ∧ (x.advance b q).trackDue = x.trackDue ∧
    (x.advance b q).faultDue = x.faultDue := by
  simp only [PhaserRec.advance, h, and_self]

theorem phaserAdvance_running {x : PhaserRec} {n : Nat} (h : x.overBand = some n) (b : Bool) (q : SeqParams) :
    (x.advance b q).overBand = some (min 65535 (n + 1)) ∧
    ((x.advance b q).trackDue = true ↔ x.trackDue = true ∨ q.trackTime ≤ min 65535 (n + 1) ∧ b = false) ∧
    ((x.advance b q).faultDue = true ↔ x.faultDue = true ∨ q.faultTime ≤ min 65535 (n + 1)) := by
  simp only [PhaserRec.advance, h, Bool.or_eq_true, Bool.and_eq_true, decide_eq_true_eq, Bool.not_eq_true']
  exact ⟨rfl, Iff.rfl, Iff.rfl⟩

/-- The run of the due events from a state, state by state. -/
theorem dueEvents_path (s : State) : ∃ path : List State, path.length = dueEvents.length + 1 ∧ path[0]? = some s ∧
    path[dueEvents.length]? = some (takeRunOut s) ∧ ∀ (k : Nat) (i : Instr) (x y : State), dueEvents[k]? = some i →
      path[k]? = some x → path[k + 1]? = some y → exec i x = .next y := by
  refine ⟨dueEvents.scanl State.after s, List.length_scanl, List.getElem?_scanl_zero, ?_, fun k i x y hi hx hy => ?_⟩
  · rw [List.getElem?_scanl, if_pos (Nat.le_refl _), List.take_length, dueEvents_foldl]
  · rw [List.getElem?_succ_scanl, hx, hi] at hy
    have hy' : x.after i = y := Option.some.inj hy
    rw [exec_after, hy']

/-- Settles O52: the due events are taken in their order, and every timer and age moves by one. -/
theorem timeBaseAdvanceMovesEveryTimer : Obligations.TimeBaseAdvanceMovesEveryTimer := by
  unfold Obligations.TimeBaseAdvanceMovesEveryTimer
  intro s due
  have slot (i : Fin 24) : (takeRunOut s).advanced.rt.slots.get i = (s.rt.slots.get i).expired.advance := by
    rw [advanced_get, takeRunOut_get]
  have stands (i : Fin 24) (r : Record) (hr : ((takeRunOut s).rt.slots.get i).record = some r) :
      r.deadline ≠ some 0 := by
    rw [takeRunOut_get] at hr
    exact expired_record hr
  have clock := clock_takeRunOut s
  have path := dueEvents_path s
  have idle := takeRunOut_idle (s := s)
  have hexec := exec_timeBase s
  generalize takeRunOut s = u at slot stands clock path idle hexec
  obtain ⟨hfront, hrear, htr, hvd, hcm, hfp, hms, hcounter, hparams, hdeparted⟩ := advanced_frame u
  refine ⟨u, u.advanced, hexec, path, idle, stands, hfront, hrear, htr, hvd, hcm, hfp.trans clock.fp, hms, ?_,
    fun i => ?_, ?_, ?_, hparams.trans clock.params, hdeparted, fun p => ?_⟩
  · rw [hcounter, clock.counter, clock.msTicks]
  · obtain ⟨hgen, hfree, hout, hkept⟩ := advance_expired (s.rt.slots.get i)
    rw [slot]
    refine ⟨hgen, hfree, hout, fun r hr hd => ?_⟩
    rw [hkept r hr hd]
    cases r.deadline <;> rfl
  · rw [advanced_ad]
    cases u.ad.stopTimer <;> rfl
  · rw [advanced_cond]
    cases u.ps.cond.timer <;> rfl
  · obtain ⟨hstate, hcauses, henable, htimer⟩ := phaserAdvance_fixed (u.phaser p) (u.stands p .trackErr) u.ps.params
    rw [advanced_cam, advanced_loop, advanced_phaser]
    refine ⟨?_, ?_, hstate, hcauses, henable.trans (clock.enable p), fun h => ?_, fun n h => ?_,
      fun h => phaserAdvance_resting h _ _, fun n h => ?_⟩
    · unfold Cam.advance
      cases (u.cam p).last <;> rfl
    · unfold Loop.advance
      cases (u.loop p).stepAge <;> rfl
    · rw [htimer, h]
      rfl
    · rw [htimer, h]
      rfl
    · rw [← clock.params]
      exact phaserAdvance_running h _ _

end Sys2Proof.Machine
end

section
/-! ## One apply: the slots, the recomputes asked for, the counts (R32 to R36) -/

namespace Sys2Proof.Machine

open Sys2Proof

/-! ### The slots of a covered group (R32, R33) -/

@[simp] theorem slot_applied_gen (c : Coverage) (x : Slot) : (x.applied c).gen = x.gen := by
  unfold Slot.applied
  split
  · split <;> rfl
  · rfl

theorem slot_applied_free {x : Slot} (c : Coverage) (h : x.record = none) : (x.applied c).record = none := by
  simp only [Slot.applied, h]

theorem slot_applied_record {x : Slot} {r : Record} (c : Coverage) (h : x.record = some r) :
    (x.applied c).record = if c.has r.key.phaser.group then r.applied else some r := by
  simp only [Slot.applied, h]
  split
  · rfl
  · exact h

/-! ### The records an apply changes (R34 to R36) -/

theorem mem_slots {t : Slots} {x : Slot} : x ∈ t.list ↔ ∃ i, t.get i = x := by
  simp [slots_list t]

theorem promotes_eq (l : Life) : l.promotes = l.pending.isSome := by
  cases l <;> rfl

theorem leaving_eq (l : Life) : l.leaving = (l.code == 4#8) := by
  cases l <;> rfl

theorem countP_records_pos {t : Slots} {f : Record → Bool} :
    0 < t.list.countP (fun x => x.record.any f) ↔ ∃ i r, (t.get i).record = some r ∧ f r = true := by
  simp only [List.countP_pos_iff, mem_slots, Option.any_eq_true]
  constructor
  · rintro ⟨_, ⟨i, rfl⟩, r, hr, hf⟩
    exact ⟨i, r, hr, hf⟩
  · rintro ⟨i, r, hr, hf⟩
    exact ⟨_, ⟨i, rfl⟩, r, hr, hf⟩

/-- A record of the group waits for its apply: it has a pending content, or it is RETIRING. -/
theorem pendingIn_iff (t : Slots) (g : Group) : t.pendingIn g = true ↔
    ∃ i r, (t.get i).record = some r ∧ r.key.phaser.group = g ∧
      (r.life.pending ≠ none ∨ ∃ a, r.life = .retiring a) := by
  have hsum : t.pendingIn g = true ↔ 0 < t.promoted g ∨ 0 < t.retired g := by
    simp only [Slots.pendingIn, decide_eq_true_iff]
    omega
  simp only [hsum, Slots.promoted, Slots.retired, countP_records_pos, Bool.and_eq_true, decide_eq_true_iff, promotes_eq,
    leaving_iff, Option.isSome_iff_ne_none]
  constructor
  · rintro (⟨i, r, hr, hg, h⟩ | ⟨i, r, hr, hg, h⟩)
    · exact ⟨i, r, hr, hg, .inl h⟩
    · exact ⟨i, r, hr, hg, .inr h⟩
  · rintro ⟨i, r, hr, hg, h | h⟩
    · exact .inl ⟨i, r, hr, hg, h⟩
    · exact .inr ⟨i, r, hr, hg, h⟩

theorem retireNote_some {p : Phaser} {h : Handle} {r : Record} {n : Note} : retireNote p h r = some n ↔
    ∃ target slew park k, r.key.phaser = p ∧ r.life = .retiring (.setpoint target slew park k) ∧
      n = ⟨h, .retired park⟩ := by
  unfold retireNote
  split
  · rename_i target slew park k hl
    rw [hl]
    constructor
    · intro hn
      split at hn
      · rename_i hp
        exact ⟨target, slew, park, k, hp, rfl, (Option.some.inj hn).symm⟩
      · cases hn
    · rintro ⟨_, _, _, _, hp, hl', rfl⟩
      cases hl'
      exact if_pos hp
  · rename_i hl
    constructor
    · intro hn
      cases hn
    · rintro ⟨target, slew, park, k, -, hl', -⟩
      exact absurd hl' (hl target slew park k)

/-- The notes that an apply passes for a phaser are those of the SETPOINTs it frees. -/
theorem mem_retireNotes {t : Slots} {p : Phaser} {n : Note} : n ∈ t.retireNotes p ↔
    ∃ i r target slew park k, (t.get i).record = some r ∧ r.key.phaser = p ∧
      r.life = .retiring (.setpoint target slew park k) ∧
      n = ⟨⟨BitVec.ofNat 5 i.val, (t.get i).gen⟩, .retired park⟩ := by
  simp only [Slots.retireNotes, List.mem_filterMap, Option.bind_eq_some_iff, retireNote_some]
  constructor
  · rintro ⟨i, -, r, hr, target, slew, park, k, hp, hl, hn⟩
    exact ⟨i, r, target, slew, park, k, hr, hp, hl, hn⟩
  · rintro ⟨i, r, target, slew, park, k, hr, hp, hl, hn⟩
    exact ⟨i, List.mem_finRange i, r, hr, target, slew, park, k, hp, hl, hn⟩

/-- Where an apply changes no record of the group, it frees no SETPOINT of the phaser. -/
theorem retireNotes_nil {t : Slots} {p : Phaser} (h : t.pendingIn p.group = false) : t.retireNotes p = [] := by
  refine List.eq_nil_iff_forall_not_mem.mpr fun n hn => ?_
  obtain ⟨i, r, target, slew, park, k, hr, hp, hl, -⟩ := mem_retireNotes.mp hn
  have : t.pendingIn p.group = true := (pendingIn_iff t _).mpr ⟨i, r, hr, by rw [hp], .inr ⟨_, hl⟩⟩
  rw [h] at this
  cases this

/-! ### The recomputes asked for (R34, R35) -/

/-- A Resolver's record with one more recompute asked for, and the notes passed with it. -/
def Resolver.asking (x : Resolver) (who : Asker) (notes : List Note) : Resolver :=
  { x with asked := x.asked ++ [who], notes := x.notes ++ notes }

theorem askAfterApply_resolver (who : Asker) (c : Coverage) (t : Slots) (p r : Phaser) (s : State) :
    (askAfterApply who c t p s).resolver r =
      if r = p ∧ (c.has p.group && t.pendingIn p.group) = true then (s.resolver p).asking who (t.retireNotes p)
      else s.resolver r := by
  unfold askAfterApply
  by_cases hc : (c.has p.group && t.pendingIn p.group) = true
  · rw [if_pos hc]
    simp only [askRecompute, setResolver_resolver, hc, and_true]
    rfl
  · rw [if_neg hc, if_neg (fun h => hc h.2)]

/-- The four phasers are asked one by one, each for itself. -/
theorem askAll_resolver (who : Asker) (c : Coverage) (t : Slots) (p : Phaser) (s : State) :
    (askAll who c t s).resolver p =
      if (c.has p.group && t.pendingIn p.group) = true then (s.resolver p).asking who (t.retireNotes p)
      else s.resolver p := by
  unfold askAll
  cases p <;> simp only [askAfterApply_resolver] <;> simp

theorem askAfterApply_frame (who : Asker) (c : Coverage) (t : Slots) (p : Phaser) (s : State) :
    askAfterApply who c t p s = { s with tr := (askAfterApply who c t p s).tr } := by
  unfold askAfterApply
  split <;> rfl

theorem askAll_frame (who : Asker) (c : Coverage) (t : Slots) (s : State) :
    askAll who c t s = { s with tr := (askAll who c t s).tr } := by
  unfold askAll
  rw [askAfterApply_frame who c t .re, askAfterApply_frame who c t .ri, askAfterApply_frame who c t .fe,
    askAfterApply_frame who c t .fi]

/-- A group none of whose phasers has a recompute owed by `who` is left as it is. -/
theorem settleGroup_quiet {who : Asker → Bool} {g : Group} {s : State}
    (h : ∀ p : Phaser, p.group = g → (s.resolver p).asked.any who = false) : settleGroup who g s = s := by
  cases g
  · simp only [settleGroup, settle_notAsked (h .fi rfl), settle_notAsked (h .fe rfl)]
  · simp only [settleGroup, settle_notAsked (h .ri rfl), settle_notAsked (h .re rfl)]

/-- One apply where no recompute of an earlier apply is owed by a covered phaser. -/
theorem applyGroups_settled {who : Asker} {c : Coverage} {s : State}
    (h : ∀ p : Phaser, c.has p.group = true → (s.resolver p).asked.any Asker.byApply = false) :
    applyGroups who c s = askAll who c s.rt.slots (s.setSlots (s.rt.slots.map (Slot.applied c))) := by
  have settled (g : Group) : (if c.has g then settleGroup Asker.byApply g s else s) = s := by
    split
    · rename_i hc
      exact settleGroup_quiet fun p hp => h p (by rwa [hp])
    · rfl
  have hfront : (if c.front then settleGroup Asker.byApply .front s else s) = s := settled .front
  have hrear : (if c.rear then settleGroup Asker.byApply .rear s else s) = s := settled .rear
  simp only [applyGroups, hfront, hrear]

/-! ### APPLY (R36) -/

/-- The groups that an APPLY selection names. -/
def selected (sel : Byte) : Coverage := ⟨sel != 2#8, sel != 1#8⟩

theorem readSelection_none {sel : Byte} (h : sel.toNat = 0 ∨ 4 ≤ sel.toNat) : readSelection sel = none := by
  unfold readSelection
  rw [if_neg (by bv_omega), if_neg (by bv_omega), if_neg (by bv_omega)]

theorem readSelection_some {sel : Byte} (h1 : 1 ≤ sel.toNat) (h3 : sel.toNat ≤ 3) :
    readSelection sel = some ((selected sel).front, (selected sel).rear) := by
  have hsel : sel = 1#8 ∨ sel = 2#8 ∨ sel = 3#8 := by bv_omega
  rcases hsel with rfl | rfl | rfl <;> rfl

theorem ownApply_refused {sel : Byte} (h : sel.toNat = 0 ∨ 4 ≤ sel.toNat) (s : State) :
    ownApply sel s = (s, ⟨.badField, []⟩) := by
  simp only [ownApply, readSelection_none h]
  rfl

theorem ownApply_selected {sel : Byte} (h1 : 1 ≤ sel.toNat) (h3 : sel.toNat ≤ 3) (s : State) :
    ownApply sel s = (applyGroups .apply (selected sel) s,
      ⟨.ok, groupCounts (selected sel) s.rt.slots .front ++ groupCounts (selected sel) s.rt.slots .rear⟩) := by
  simp only [ownApply, readSelection_some h1 h3]
  rfl

/-- The records of a covered group that an apply promotes; none of a group not covered. -/
def Slots.promotedIn (t : Slots) (c : Coverage) (g : Group) : Nat :=
  t.list.countP fun x => x.record.any fun r => c.has g && r.key.phaser.group == g && r.life.pending.isSome

/-- The records of a covered group that an apply frees; none of a group not covered. -/
def Slots.retiredIn (t : Slots) (c : Coverage) (g : Group) : Nat :=
  t.list.countP fun x => x.record.any fun r => c.has g && r.key.phaser.group == g && r.life.code == 4#8

theorem promotedIn_eq (t : Slots) (c : Coverage) (g : Group) :
    t.promotedIn c g = if c.has g then t.promoted g else 0 := by
  unfold Slots.promotedIn
  cases c.has g <;> simp [Slots.promoted, promotes_eq, beq_eq_decide]

theorem retiredIn_eq (t : Slots) (c : Coverage) (g : Group) :
    t.retiredIn c g = if c.has g then t.retired g else 0 := by
  unfold Slots.retiredIn
  cases c.has g <;> simp [Slots.retired, leaving_eq, beq_eq_decide]

theorem groupCounts_eq (c : Coverage) (t : Slots) (g : Group) :
    groupCounts c t g =
      [if c.has g then 1#8 else 0#8, BitVec.ofNat 8 (t.promotedIn c g), BitVec.ofNat 8 (t.retiredIn c g)] := by
  rw [promotedIn_eq, retiredIn_eq]
  unfold groupCounts
  cases c.has g <;> rfl

/-- A recompute is asked for exactly where a covered group has a record to promote or to free. -/
theorem asks_iff (t : Slots) (c : Coverage) (g : Group) :
    (c.has g && t.pendingIn g) = true ↔ c.has g = true ∧ 0 < t.promotedIn c g + t.retiredIn c g := by
  rw [promotedIn_eq, retiredIn_eq, Bool.and_eq_true, Slots.pendingIn, decide_eq_true_iff]
  refine and_congr_right fun hc => ?_
  rw [if_pos hc, if_pos hc]

/-- The Resolver's record of a phaser after the asking, written without the case that nothing is asked for. -/
theorem askAll_resolver_notes (who : Asker) (c : Coverage) (t : Slots) (p : Phaser) (s : State) :
    (askAll who c t s).resolver p =
      { s.resolver p with
        asked := (s.resolver p).asked ++
          (if c.has p.group = true ∧ 0 < t.promotedIn c p.group + t.retiredIn c p.group then [who] else []),
        notes := (s.resolver p).notes ++ (if c.has p.group = true then t.retireNotes p else []) } := by
  rw [askAll_resolver]
  by_cases hask : (c.has p.group && t.pendingIn p.group) = true
  · rw [if_pos hask, if_pos ((asks_iff t c _).mp hask), if_pos ((asks_iff t c _).mp hask).1]
    rfl
  · have hnone : (if c.has p.group = true then t.retireNotes p else []) = [] := by
      split
      · rename_i hc
        exact retireNotes_nil (by simpa [hc] using hask)
      · rfl
    rw [if_neg hask, if_neg (fun h => hask ((asks_iff t c _).mpr h)), hnone, List.append_nil, List.append_nil]

/-- Settles O17: with no recompute of an earlier apply owed, an APPLY changes every record by R32 and R33, and asks. -/
theorem applyPromotesAndFreesTheCoveredGroups : Obligations.ApplyPromotesAndFreesTheCoveredGroups := by
  intro snd sel s ht
  refine ⟨fun h => next_of_taken ht (ownApply_refused h s), fun h1 h3 hasked => ?_⟩
  have settled := applyGroups_settled (who := .apply) (c := selected sel) (s := s) fun p _ => byApply_notAsked (hasked p)
  intro covers promoted retired
  have hcovers : covers = (selected sel).has := funext fun g => by cases g <;> rfl
  have hpromoted : promoted = s.rt.slots.promotedIn (selected sel) := by
    simp only [promoted, hcovers]
    rfl
  have hretired : retired = s.rt.slots.retiredIn (selected sel) := by
    simp only [retired, hcovers]
    rfl
  clear_value promoted retired covers
  subst hcovers hpromoted hretired
  refine ⟨applyGroups .apply (selected sel) s, next_of_taken ht ((ownApply_selected h1 h3 s).trans ?_), ?_,
    fun i => ?_, fun p => ?_⟩
  · simp only [groupCounts_eq, List.cons_append, List.nil_append]
  · rw [settled, askAll_frame]
    rfl
  · rw [applyGroups_slots, slots_get_map]
    refine ⟨slot_applied_gen _ _, ?_⟩
    cases hr : (s.rt.slots.get i).record with
    | none => exact slot_applied_free _ hr
    | some r =>
      refine (slot_applied_record _ hr).trans ?_
      obtain ⟨key, life, deadline⟩ := r
      cases life <;> rfl
  · rw [settled, askAll_resolver_notes]
    refine ⟨_, rfl, fun n => ?_⟩
    by_cases hc : (selected sel).has p.group = true
    · rw [if_pos hc, mem_retireNotes]
      exact (and_iff_right hc).symm
    · rw [if_neg hc]
      exact iff_of_false List.not_mem_nil fun h => hc h.1

end Sys2Proof.Machine
end

section
/-! ## The crossing test and the parameters of the apply and the decoder (R30, R31, R37, R40, R82, R83) -/

namespace Sys2Proof.Machine

open Sys2Proof

/-! ### The crossing test (R37) -/

theorem cyc_int (x : Int) : (cyc x : Int) = x % 11520 :=
  Int.toNat_of_nonneg (Int.emod_nonneg x (by decide))

theorem crossed_iff (a prev now : Nat) : crossed a prev now = true ↔
    1 ≤ ((a : Int) - prev) % 11520 ∧ ((a : Int) - prev) % 11520 ≤ ((now : Int) - prev) % 11520 := by
  unfold crossed
  rw [decide_eq_true_iff, ← cyc_int, ← cyc_int]
  omega

/-- Settles O27: with `x` the distance of the angle after `prev` and `m` that of `mid`, the angle is crossed up to `mid` where
`1 ≤ x ≤ m`, and after `mid` where `x` lies above `m` by at most the second interval's width. -/
theorem crossingIntervalsTileTheCycle : Obligations.CrossingIntervalsTileTheCycle := by
  refine ⟨crossed_iff, fun a prev mid now hspan => ?_⟩
  have hsum : ((now : Int) - prev) % 11520 = ((mid : Int) - prev) % 11520 + ((now : Int) - mid) % 11520 := by omega
  have hafter : ((a : Int) - mid) % 11520 = (((a : Int) - prev) % 11520 - ((mid : Int) - prev) % 11520) % 11520 := by omega
  rw [Bool.eq_iff_iff, Bool.or_eq_true, crossed_iff, crossed_iff, crossed_iff, hsum, hafter]
  omega

/-! ### A parameter write that is taken (R181) -/

@[simp] theorem setDecoder_ad (s : State) (d : Decoder) : (s.setDecoder d).ad = d := rfl

theorem byte_ofNat_toNat (v : Byte) : BitVec.ofNat 8 v.toNat = v := by
  rw [BitVec.ofNat_toNat, BitVec.setWidth_eq]

/-- A write that is stored is answered OK with the stored value. -/
theorem ownWrite_stored {q : Param} {write : State → Except Status State} {s t : State} (h : write s = .ok t) :
    ownWrite q write s = (t, ⟨.ok, q.ident :: (readParam q t).bytes⟩) := by
  unfold ownWrite
  rw [h]
  rfl

/-- A write that is refused is answered with its status, and nothing changes. -/
theorem ownWrite_refused {q : Param} {write : State → Except Status State} {s : State} {st : Status}
    (h : write s = .error st) : ownWrite q write s = (s, ⟨st, []⟩) := by
  unfold ownWrite
  rw [h]
  rfl

theorem setConfig_config (s : State) (g : Group) (x : ApplyConfig) : (s.setConfig g x).config g = x := by
  cases g <;> rfl

/-- A yes-or-no byte is its own readout. -/
theorem flagByte_of_le_one {v : Byte} (h : v.toNat ≤ 1) : flagByte (v == 1#8) = v := by
  have hv : v = 0#8 ∨ v = 1#8 := by bv_omega
  rcases hv with rfl | rfl <;> rfl

theorem readFlag_of_le_one {v : Byte} (h : v.toNat ≤ 1) : readFlag v = some (v == 1#8) := by
  have hv : v = 0#8 ∨ v = 1#8 := by bv_omega
  rcases hv with rfl | rfl <;> rfl

theorem writeApplyMode_stored {g : Group} {v : Byte} (h : v.toNat ≤ 1) (s : State) :
    writeApplyMode g v s = .ok (s.setConfig g { s.config g with mode := if v = 1#8 then .mark else .software }) := by
  unfold writeApplyMode
  rw [readFlag_of_le_one h]
  simp

/-- The stored mode reads back as the byte written. -/
theorem readParam_applyMode {g : Group} {v : Byte} (h : v.toNat ≤ 1) {s : State} {x : ApplyConfig}
    (hx : x.mode = if v = 1#8 then .mark else .software) :
    readParam (.applyMode g) (s.setConfig g x) = .ofByte v := by
  have hmark : decide (x.mode = .mark) = (v == 1#8) := by
    rw [hx]
    by_cases hv : v = 1#8 <;> simp [hv]
  simp only [readParam, setConfig_config, hmark, flagValue, flagByte_of_le_one h]

/-! ### The decoder's geometry (R82, R83) -/

theorem whenStopped_running {s : State} (h : s.ad.sync ≠ .stopped) (r : Except Status State) :
    whenStopped s r = .error .notStopped := if_neg h

theorem whenStopped_stopped {s : State} (h : s.ad.sync = .stopped) (r : Except Status State) : whenStopped s r = r :=
  if_pos h

/-- The set of values of a geometry parameter (R82). -/
def crankListed (w : CrankParam) (v : Byte) : Prop :=
  match w with
  | .teeth => v.toNat ∈ [12, 18, 24, 36, 48, 60]
  | .missing => v.toNat ∈ [1, 2]
  | .polarity => v.toNat ∈ [0, 1]

/-- The decoder with a geometry parameter stored (R82). -/
def Decoder.withCrank (d : Decoder) (w : CrankParam) (v : Byte) : Decoder :=
  match w with
  | .teeth => { d with teeth := v.toNat }
  | .missing => { d with missing := v.toNat }
  | .polarity => { d with crankRises := v == 1#8 }

theorem writeCrank_stored {s : State} (hs : s.ad.sync = .stopped) {w : CrankParam} {v : Byte} (h : crankListed w v) :
    writeCrank w v s = .ok (s.setDecoder (s.ad.withCrank w v)) := by
  unfold writeCrank
  rw [whenStopped_stopped hs]
  cases w with
  | teeth => exact if_pos h
  | missing => exact if_pos h
  | polarity =>
    have hv : v.toNat ≤ 1 := by simp [crankListed] at h; omega
    simp only [readFlag_of_le_one hv]
    rfl

theorem writeCrank_refused {s : State} (hs : s.ad.sync = .stopped) {w : CrankParam} {v : Byte} (h : ¬ crankListed w v) :
    writeCrank w v s = .error .badValue := by
  unfold writeCrank
  rw [whenStopped_stopped hs]
  cases w with
  | teeth => exact if_neg h
  | missing => exact if_neg h
  | polarity =>
    have hv : 2 ≤ v.toNat := by simp [crankListed] at h; omega
    simp only [(readFlag_none v).mpr hv]

/-- The stored geometry reads back as the byte written. -/
theorem readParam_crank {w : CrankParam} {v : Byte} (h : crankListed w v) (s : State) :
    readParam (.crank w) (s.setDecoder (s.ad.withCrank w v)) = .ofByte v := by
  cases w with
  | teeth => exact congrArg ValueField.ofByte (byte_ofNat_toNat v)
  | missing => exact congrArg ValueField.ofByte (byte_ofNat_toNat v)
  | polarity =>
    have hv : v.toNat ≤ 1 := by simp [crankListed] at h; omega
    exact congrArg ValueField.ofByte (flagByte_of_le_one hv)

theorem phaserOfByte_of_index {v : Byte} {c : Phaser} (h : v.toNat = c.index) : phaserOfByte v = some c := by
  have hv : v = BitVec.ofNat 8 c.index := by rw [← h, byte_ofNat_toNat]
  rw [hv, phaserOfByte_index]

theorem writeSyncCam_named {s : State} (hs : s.ad.sync = .stopped) {v : Byte} {c : Phaser} (h : v.toNat = c.index) :
    writeSyncCam v s =
      if tellsHalves (s.cam c).teeth then .ok (s.setDecoder { s.ad with syncCam := c }) else .error .badValue := by
  unfold writeSyncCam
  simp only [whenStopped_stopped hs, phaserOfByte_of_index h]

theorem tellsHalves_iff (teeth : List Nat) : tellsHalves teeth = true ↔
    (teeth.filter fun a => decide (a < 5760)).length ≠ (teeth.filter fun a => decide (5760 ≤ a)).length := bne_iff_ne

/-- Settles O47, parameter by parameter: the write is stored or refused, and the stored value is the one answered. -/
theorem applyAndDecoderParametersAreWritten : Obligations.ApplyAndDecoderParametersAreWritten := by
  intro snd s
  refine ⟨fun g v ht => ⟨fun hv => ?_, fun hv => ?_⟩, fun g v ht => ?_, fun w v ht => ⟨fun hs => ?_, fun hs => ?_⟩,
    fun v ht => ⟨fun hs => ?_, fun hs => ⟨fun hv => ?_, fun c hc => ?_⟩⟩⟩
  · refine next_of_taken ht ((ownWrite_stored (writeApplyMode_stored hv s)).trans ?_)
    rw [readParam_applyMode hv rfl]
  · refine next_of_taken ht (ownWrite_refused ?_)
    simp only [writeApplyMode, (readFlag_none v).mpr hv]
  · refine next_of_taken ht ((ownWrite_stored rfl).trans ?_)
    simp only [readParam, setConfig_config, natValue]
  · exact next_of_taken ht (ownWrite_refused (whenStopped_running hs _))
  · refine ⟨fun hv => ?_, fun hv => next_of_taken ht (ownWrite_refused (writeCrank_refused hs hv))⟩
    refine next_of_taken ht ((ownWrite_stored (writeCrank_stored hs hv)).trans ?_)
    rw [readParam_crank hv]
    rfl
  · exact next_of_taken ht (ownWrite_refused (whenStopped_running hs _))
  · refine next_of_taken ht (ownWrite_refused ?_)
    simp only [writeSyncCam, whenStopped_stopped hs, (phaserOfByte_none v).mpr hv]
  · have hw := writeSyncCam_named hs hc
    refine ⟨fun hn => ?_, fun hn => ?_⟩
    · rw [if_pos ((tellsHalves_iff _).mpr hn)] at hw
      refine next_of_taken ht ((ownWrite_stored hw).trans ?_)
      have hread : BitVec.ofNat 8 c.index = v := by rw [← hc, byte_ofNat_toNat]
      simp only [readParam, setDecoder_ad, hread]
      rfl
    · rw [if_neg (fun h => (tellsHalves_iff _).mp h hn)] at hw
      exact next_of_taken ht (ownWrite_refused hw)

end Sys2Proof.Machine
end

section
/-! ## The cams under the moves of the Sequencer

No move and no evaluation writes the record of a cam, CAM_LOST or the latch record of WINDOW_REJECT. -/

namespace Sys2Proof.Machine

open Sys2Proof

/-- What the statements follow of the four cams is left as it was. -/
def CamsKept (s t : State) : Prop := ∀ c, t.camView c = s.camView c

theorem CamsKept.refl (s : State) : CamsKept s s := fun _ => rfl

theorem CamsKept.trans {s t u : State} (a : CamsKept s t) (b : CamsKept t u) : CamsKept s u :=
  fun c => (b c).trans (a c)

/-- An update outside Edge Capture and the phaser groups keeps the cams. -/
theorem CamsKept.of_blocks {s t : State} (hec : t.ec = s.ec) (hph : t.cm.ph = s.cm.ph) : CamsKept s t := by
  intro c
  simp only [State.camView, State.cam, State.stands, State.phGroup, hec, hph]

/-! ### The primitive updates -/

theorem cams_setPhaser (p : Phaser) (x : PhaserRec) (s : State) : CamsKept s (s.setPhaser p x) := .of_blocks rfl rfl

theorem cams_setLoop (p : Phaser) (x : Loop) (s : State) : CamsKept s (s.setLoop p x) := .of_blocks rfl rfl

theorem cams_setCommanded (p : Phaser) (d : Nat) (s : State) : CamsKept s (s.setCommanded p d) := .of_blocks rfl rfl

theorem drive_reject (s : State) (p : Phaser) (e : PhCond) (b : Bool) (c : Phaser) :
    ((s.drive p e b).phGroup c).reject = (s.phGroup c).reject := by
  unfold State.drive
  rw [setPhGroup_phGroup]
  split
  · rename_i h
    rw [h]
  · rfl

theorem cams_drive {e : PhCond} (he : e ≠ .camLost) (p : Phaser) (b : Bool) (s : State) : CamsKept s (s.drive p e b) := by
  intro c
  simp only [State.camView, drive_cam_frame, drive_reject, drive_stands, if_neg (fun h : c = p ∧ .camLost = e => he h.2.symm)]

/-! ### Changes of state and faults (R104, R118, R119) -/

theorem cams_updateHeld (p : Phaser) (s : State) : CamsKept s (updateHeld p s) :=
  (cams_setPhaser p _ s).trans (cams_drive (by decide) p _ _)

theorem cams_leaveState (p : Phaser) (s : State) : CamsKept s (leaveState p s) := by
  unfold leaveState
  split
  · exact ((cams_setLoop p _ s).trans (cams_setPhaser p _ _)).trans (cams_drive (by decide) p _ _)
  · exact cams_setLoop p _ s
  · exact .refl s

theorem cams_moveTo (p : Phaser) (st : PhaserState) (timer : Option Nat) (s : State) :
    CamsKept s (moveTo p st timer s) :=
  ((cams_leaveState p s).trans (cams_setPhaser p _ _)).trans (cams_setCommanded p _ _)

theorem cams_moveToTracking (p : Phaser) (s : State) : CamsKept s (moveToTracking p s) :=
  (((cams_moveTo p _ _ s).trans (cams_setPhaser p _ _)).trans (cams_setLoop p _ _)).trans (cams_setCommanded p _ _)

theorem cams_faultEntry (p : Phaser) (c : CauseSet) (s : State) : CamsKept s (faultEntry p c s) :=
  ((cams_moveTo p _ _ s).trans (cams_setPhaser p _ _)).trans (cams_drive (by decide) p _ _)

theorem cams_faultStanding (p : Phaser) (s : State) : CamsKept s (faultStanding p s) := by
  unfold faultStanding
  split
  · exact .refl s
  · exact .refl s
  · split
    · exact .refl s
    · exact cams_faultEntry p _ s

theorem cams_declareTrackErr (p : Phaser) (s : State) : CamsKept s (declareTrackErr p s) := by
  unfold declareTrackErr
  split
  · exact (cams_setPhaser p _ s).trans (cams_drive (by decide) p _ _)
  · exact .refl s

theorem cams_overBandEvent (p : Phaser) (s : State) : CamsKept s (overBandEvent p s) := by
  unfold overBandEvent
  split
  · split
    · exact ((cams_declareTrackErr p s).trans (cams_faultEntry p _ _)).trans (cams_updateHeld p _)
    · exact cams_declareTrackErr p s
  · exact .refl s

/-! ### Entries and checks (R111 to R117) -/

/-- A move with the fault check on entry. -/
theorem cams_enter (p : Phaser) (st : PhaserState) (timer : Option Nat) (s : State) :
    CamsKept s (faultStanding p (moveTo p st timer s)) :=
  (cams_moveTo p st timer s).trans (cams_faultStanding p _)

theorem cams_enterTracking (p : Phaser) (s : State) : CamsKept s (enterTracking p s) :=
  (cams_moveToTracking p s).trans (cams_faultStanding p _)

theorem cams_checkParked (p : Phaser) (s : State) : CamsKept s (checkParked p s) := by
  unfold checkParked
  split
  · exact cams_enter p _ _ s
  · exact .refl s

theorem cams_checkReturning (p : Phaser) (s : State) : CamsKept s (checkReturning p s) := by
  unfold checkReturning
  split
  · exact cams_enterTracking p s
  · exact .refl s

theorem cams_enterParked (p : Phaser) (s : State) : CamsKept s (enterParked p s) :=
  (cams_enter p _ _ s).trans (cams_checkParked p _)

theorem cams_enterReturning (p : Phaser) (s : State) : CamsKept s (enterReturning p s) :=
  (cams_enter p _ _ s).trans (cams_checkReturning p _)

/-! ### Evaluations, measurements, targets, departures (R108 to R117, R124) -/

theorem cams_evaluateNow (p : Phaser) (s : State) : CamsKept s (evaluateNow p s) := by
  unfold evaluateNow
  refine CamsKept.trans ?_ (cams_updateHeld p _)
  split
  · exact cams_checkParked p s
  · exact cams_checkReturning p s
  · split
    · exact cams_enterReturning p s
    · exact .refl s
  · split
    · exact cams_enterReturning p s
    · exact .refl s
  · exact .refl s

theorem cams_evaluate (p : Phaser) (s : State) : CamsKept s (evaluate p s) :=
  (cams_overBandEvent p s).trans (cams_evaluateNow p _)

theorem cams_evaluateAll (s : State) : CamsKept s (evaluateAll s) :=
  (((cams_evaluate .fi s).trans (cams_evaluate .fe _)).trans (cams_evaluate .ri _)).trans (cams_evaluate .re _)

theorem cams_measured (p : Phaser) (phase : Int) (s : State) : CamsKept s (measured p phase s) := by
  unfold measured
  split
  · refine CamsKept.trans ?_ (cams_updateHeld p _)
    split
    · exact cams_enterParked p s
    · exact cams_enterReturning p s
  · refine CamsKept.trans ?_ (cams_updateHeld p _)
    split
    · exact cams_enterTracking p s
    · split
      · exact cams_enter p _ _ s
      · exact .refl s
  · exact .refl s

theorem cams_targetHandled (p : Phaser) (was : Target) (s : State) : CamsKept s (targetHandled p was s) := by
  unfold targetHandled
  split
  · exact (cams_enterReturning p s).trans (cams_updateHeld p _)
  · exact (cams_enterReturning p s).trans (cams_updateHeld p _)
  · exact .refl s
  · exact .refl s
  · split
    · exact .refl s
    · split
      · exact cams_evaluateNow p s
      · exact cams_updateHeld p s

theorem cams_deliverLoop (p : Phaser) (phase : Int) (s : State) : CamsKept s (deliverLoop p phase s) := by
  unfold deliverLoop
  split
  · exact cams_setLoop p _ s
  · exact .refl s

theorem cams_deliver (p : Phaser) (phase : Int) (s : State) : CamsKept s (deliver p phase s) :=
  ((cams_overBandEvent p s).trans (cams_deliverLoop p phase _)).trans (cams_measured p phase _)

theorem cams_stopPhaser (p : Phaser) (s : State) : CamsKept s (stopPhaser p s) := by
  unfold stopPhaser
  refine (cams_overBandEvent p s).trans ?_
  dsimp only
  split
  · exact .refl _
  · exact .refl _
  · exact .refl _
  · exact (cams_enter p _ _ _).trans (cams_updateHeld p _)

theorem cams_handleDeparture (s : State) : CamsKept s (handleDeparture s) := by
  unfold handleDeparture
  split
  · exact (((cams_stopPhaser .fi s).trans (cams_stopPhaser .fe _)).trans (cams_stopPhaser .ri _)).trans
      ((cams_stopPhaser .re _).trans (.of_blocks rfl rfl))
  · exact .refl s

end Sys2Proof.Machine
end

section
/-! ## The evaluation of release permission (R108 to R110) -/

namespace Sys2Proof.Machine

open Sys2Proof

/-! ### RELEASE_HELD after an evaluation (R110) -/

theorem updateHeld_state (p : Phaser) (s : State) : ((updateHeld p s).phaser p).state = (s.phaser p).state := by
  rw [updateHeld_phaser]

theorem holds_iff (s : State) (p : Phaser) :
    s.holds p = true ↔ s.numeric p = true ∧ s.permission = false ∧ s.waiting p := by
  simp [State.holds, State.waiting, and_assoc]

theorem updateHeld_declares (p : Phaser) (s : State) :
    (updateHeld p s).stands p .releaseHeld = true ↔
      (updateHeld p s).numeric p = true ∧ (updateHeld p s).permission = false ∧ (updateHeld p s).waiting p := by
  have hf := (local_updateHeld p s).frame
  rw [updateHeld_stands, if_pos rfl, holds_iff, hf.numeric, hf.permission]
  unfold State.waiting
  rw [updateHeld_state]

theorem updateHeld_list (p : Phaser) (s : State) :
    ((updateHeld p s).phaser p).held =
      if (updateHeld p s).stands p .releaseHeld then (updateHeld p s).failing else HeldCauses.empty := by
  rw [(local_updateHeld p s).frame.failing, updateHeld_phaser, updateHeld_stands, if_pos rfl]

/-! ### Moves of a phaser on which no fault condition stands (R112 to R117) -/

theorem unfaulted_of_stands {p : Phaser} {s t : State} (h : ∀ e, e ≠ .trackErr → t.stands p e = s.stands p e) :
    t.unfaulted p = s.unfaulted p := by
  rw [State.unfaulted, h .camLost (by decide), h .drvOpen (by decide), h .drvShort (by decide), h .drvHot (by decide)]
  rfl

theorem moveTo_unfaulted (p : Phaser) (st : PhaserState) (timer : Option Nat) (s : State) :
    (moveTo p st timer s).unfaulted p = s.unfaulted p :=
  unfaulted_of_stands fun e he => by rw [moveTo_stands, if_neg (fun h => he h.2)]

theorem moveToTracking_unfaulted (p : Phaser) (s : State) : (moveToTracking p s).unfaulted p = s.unfaulted p :=
  moveTo_unfaulted p .tracking none s

theorem faultStanding_unfaulted {p : Phaser} {s : State} (h : s.unfaulted p = true) : faultStanding p s = s :=
  faultStanding_none (standing_unfaulted _ h)

/-- Permission and withdrawal exclude each other (R108, R109). -/
theorem withdrawn_permission {s : State} (h : s.withdrawn = true) : s.permission = false := by
  refine Bool.eq_false_iff.mpr fun hp => ?_
  simp only [State.permission, State.failing, HeldCauses.empty, decide_eq_true_iff, HeldCauses.mk.injEq] at hp
  obtain ⟨-, hstale, hoil, -, hspeed⟩ := hp
  simp only [State.withdrawn, hstale, hoil, Bool.false_or, decide_eq_true_iff] at h
  simp only [decide_eq_false_iff_not] at hspeed
  omega

theorem enterReleasing_released {p : Phaser} {s : State} (h : s.unfaulted p = true) :
    (enterReleasing p s).released p := by
  unfold enterReleasing
  rw [faultStanding_unfaulted (by rw [moveTo_unfaulted, h])]
  obtain ⟨hstate, htimer⟩ := moveTo_phaser p .releasing (some s.ps.params.releaseInterval) s
  have hparams := (local_moveTo p .releasing (some s.ps.params.releaseInterval) s).frame.params
  exact ⟨hstate, by rw [htimer, hparams], by rw [moveTo_commanded, hparams]; rfl⟩

theorem enterTracking_state {p : Phaser} {s : State} (h : s.unfaulted p = true) :
    ((enterTracking p s).phaser p).state = .tracking := by
  unfold enterTracking
  rw [faultStanding_unfaulted (by rw [moveToTracking_unfaulted, h])]
  simp [moveToTracking, moveTo_phaser]

/-- A withdrawn phaser stays RETURNING: the check made on entry fails (R117). -/
theorem enterReturning_withdrawn {p : Phaser} {s : State} (h : s.unfaulted p = true) (hw : s.withdrawn = true) :
    enterReturning p s = moveTo p .returning (some s.ps.params.returnTimeout) s := by
  have hp : (moveTo p .returning (some s.ps.params.returnTimeout) s).permission = false := by
    rw [(local_moveTo p _ _ s).frame.permission, withdrawn_permission hw]
  unfold enterReturning
  rw [faultStanding_unfaulted (by rw [moveTo_unfaulted, h]), checkReturning, if_neg]
  rintro ⟨-, -, hperm⟩
  rw [hp] at hperm
  cases hperm

theorem moveTo_sentHome (p : Phaser) (s : State) :
    (moveTo p .returning (some s.ps.params.returnTimeout) s).sentHome p := by
  obtain ⟨hstate, htimer⟩ := moveTo_phaser p .returning (some s.ps.params.returnTimeout) s
  have hparams := (local_moveTo p .returning (some s.ps.params.returnTimeout) s).frame.params
  exact ⟨hstate, by rw [htimer, hparams], moveTo_commanded p _ _ s⟩

theorem moveTo_atRest {p : Phaser} {s : State} (h : s.driven p) (st : PhaserState) (timer : Option Nat) :
    ((moveTo p st timer s).loop p).atRest := by
  rw [moveTo_loop, if_pos h.symm]
  exact ⟨rfl, rfl, rfl, rfl⟩

theorem updateHeld_released {p : Phaser} {s : State} (h : s.released p) : (updateHeld p s).released p := by
  have hparams := (local_updateHeld p s).frame.params
  unfold State.released at h ⊢
  rw [updateHeld_phaser, updateHeld_channel, hparams]
  exact h

theorem updateHeld_sentHome {p : Phaser} {s : State} (h : s.sentHome p) : (updateHeld p s).sentHome p := by
  have hparams := (local_updateHeld p s).frame.params
  unfold State.sentHome at h ⊢
  rw [updateHeld_phaser, updateHeld_channel, hparams]
  exact h

/-! ### One evaluation, by the phaser's state -/

theorem evaluateNow_parked {p : Phaser} {s : State} (h : (s.phaser p).state = .parked) :
    evaluateNow p s = updateHeld p (checkParked p s) := by
  simp only [evaluateNow, h]

theorem evaluateNow_returning {p : Phaser} {s : State} (h : (s.phaser p).state = .returning) :
    evaluateNow p s = updateHeld p (checkReturning p s) := by
  simp only [evaluateNow, h]

theorem evaluateNow_latching {p : Phaser} {s : State} (h : (s.phaser p).state = .latching) :
    evaluateNow p s = updateHeld p s := by
  simp only [evaluateNow, h]

theorem evaluateNow_driven {p : Phaser} {s : State} (h : s.driven p) :
    evaluateNow p s = updateHeld p (if s.withdrawn then enterReturning p s else s) := by
  rcases h with h | h <;> simp only [evaluateNow, h]

/-- A waiting phaser without permission or numeric target is left by its check. -/
theorem evaluateNow_waiting {p : Phaser} {s : State}
    (hgo : (s.permission && s.numeric p) = false ∨ (s.phaser p).state = .latching) (hw : s.waiting p) :
    evaluateNow p s = updateHeld p s := by
  have hno : (s.phaser p).state ≠ .latching → ¬ (s.numeric p = true ∧ s.permission = true) := by
    rintro hl ⟨hn, hp⟩
    rcases hgo with h | h
    · rw [hn, hp] at h
      cases h
    · exact hl h
  rcases hw with h | h | h
  · rw [evaluateNow_parked h, checkParked, if_neg (fun hc => hno (by rw [h]; decide) hc.2)]
  · rw [evaluateNow_returning h, checkReturning, if_neg (fun hc => hno (by rw [h]; decide) hc.2)]
  · exact evaluateNow_latching h

theorem evaluateNow_releases {p : Phaser} {s : State} (hu : s.unfaulted p = true) (h : (s.phaser p).state = .parked)
    (hn : s.numeric p = true) (hp : s.permission = true) : (evaluateNow p s).released p := by
  rw [evaluateNow_parked h, checkParked, if_pos ⟨h, hn, hp⟩]
  exact updateHeld_released (enterReleasing_released hu)

theorem evaluateNow_tracks {p : Phaser} {s : State} (hu : s.unfaulted p = true) (h : (s.phaser p).state = .returning)
    (hn : s.numeric p = true) (hp : s.permission = true) : ((evaluateNow p s).phaser p).state = .tracking := by
  rw [evaluateNow_returning h, checkReturning, if_pos ⟨h, hn, hp⟩, updateHeld_state]
  exact enterTracking_state hu

theorem evaluateNow_sendsHome {p : Phaser} {s : State} (hu : s.unfaulted p = true) (h : s.driven p)
    (hw : s.withdrawn = true) : (evaluateNow p s).sentHome p ∧ ((evaluateNow p s).loop p).atRest := by
  rw [evaluateNow_driven h, if_pos hw, enterReturning_withdrawn hu hw]
  exact ⟨updateHeld_sentHome (moveTo_sentHome p s), moveTo_atRest h .returning (some s.ps.params.returnTimeout)⟩

theorem evaluateNow_keeps {p : Phaser} {s : State} (h : s.driven p) (hw : s.withdrawn = false) :
    evaluateNow p s = updateHeld p s := by
  rw [evaluateNow_driven h, hw]
  rfl

/-- A driven phaser below its fault time comes to the evaluation with at most TRACK_ERR declared. -/
theorem overBandEvent_driven {p : Phaser} {s : State} (h : s.driven p) (hf : (s.phaser p).faultDue = false) :
    (overBandEvent p s).driven p ∧ ((overBandEvent p s).phaser p).state = (s.phaser p).state ∧
      (overBandEvent p s).loop p = s.loop p ∧ (overBandEvent p s).channel p = s.channel p ∧
      (overBandEvent p s).unfaulted p = s.unfaulted p := by
  rcases h with h | h
  · rw [overBandEvent_other (by rw [h]; decide)]
    exact ⟨.inl h, rfl, rfl, rfl, rfl⟩
  · rw [overBandEvent_track h hf]
    have hstate : ((declareTrackErr p s).phaser p).state = (s.phaser p).state := by rw [declareTrackErr_phaser]
    refine ⟨.inr (hstate.trans h), hstate, declareTrackErr_loop p p s, declareTrackErr_channel p p s,
      unfaulted_of_stands fun e he => ?_⟩
    rw [declareTrackErr_stands, if_neg (fun hc => he hc.2)]

/-- What an evaluation does with a phaser, case by case of its state. -/
theorem evaluated_evaluate (p : Phaser) (s : State) : evaluated p s (evaluate p s) := by
  have hframe := (local_evaluate p s).frame
  have calm (h : (s.phaser p).state ≠ .tracking) : evaluate p s = evaluateNow p s := by
    rw [evaluate, overBandEvent_other h]
  refine ⟨updateHeld_declares p _, updateHeld_list p _, fun hu => ⟨fun hp h hn => ?_, fun hp h hn => ?_, fun hgo hw => ?_,
    fun hd hf => ?_⟩⟩
  · rw [hframe.permission] at hp
    rw [calm (by rw [h]; decide)]
    exact evaluateNow_releases hu h hn hp
  · rw [hframe.permission] at hp
    rw [calm (by rw [h]; decide)]
    exact evaluateNow_tracks hu h hn hp
  · have hcalm : (s.phaser p).state ≠ .tracking := by
      rcases hw with h | h | h <;> rw [h] <;> decide
    rw [hframe.permission] at hgo
    rw [calm hcalm, evaluateNow_waiting hgo hw, updateHeld_state]
  · obtain ⟨hdriven, hstate, hloop, hchannel, hunfaulted⟩ := overBandEvent_driven hd hf
    rw [hframe.withdrawn, ← (local_overBandEvent p s).frame.withdrawn]
    refine ⟨fun hw => evaluateNow_sendsHome (hunfaulted.trans hu) hdriven hw, fun hw => ?_⟩
    rw [evaluate, evaluateNow_keeps hdriven hw]
    exact ⟨(updateHeld_state p _).trans hstate, hloop, hchannel⟩

/-! ### The evaluation of all four phasers -/

/-- A phaser's records are the same in two states. -/
structure SeenAlike (p : Phaser) (s t : State) : Prop where
  resolver : t.resolver p = s.resolver p
  phaser : t.phaser p = s.phaser p
  loop : t.loop p = s.loop p
  channel : t.channel p = s.channel p
  phGroup : t.phGroup p = s.phGroup p

theorem SeenAlike.refl (p : Phaser) (s : State) : SeenAlike p s s := ⟨rfl, rfl, rfl, rfl, rfl⟩

theorem SeenAlike.trans {p : Phaser} {s t u : State} (a : SeenAlike p s t) (b : SeenAlike p t u) : SeenAlike p s u :=
  ⟨b.resolver.trans a.resolver, b.phaser.trans a.phaser, b.loop.trans a.loop, b.channel.trans a.channel,
   b.phGroup.trans a.phGroup⟩

theorem SeqLocal.seenAlike {p q : Phaser} {s t : State} (h : SeqLocal q s t) (hp : p ≠ q) : SeenAlike p s t :=
  ⟨h.frame.resolver p, h.phaser p hp, h.loop p hp, h.channel p hp, h.phGroup p hp⟩

/-- An update of blocks that hold no record of a phaser. -/
theorem SeenAlike.of_blocks (p : Phaser) {s t : State} (htr : t.tr = s.tr) (hps : t.ps.phasers = s.ps.phasers)
    (hlu : t.lu = s.lu) (hvd : t.vd = s.vd) (hph : t.cm.ph = s.cm.ph) : SeenAlike p s t :=
  ⟨by rw [State.resolver, htr]; rfl, by rw [State.phaser, hps]; rfl, by rw [State.loop, hlu]; rfl,
   by rw [State.channel, hvd]; rfl, by rw [State.phGroup, hph]; rfl⟩

theorem SeenAlike.stands {p : Phaser} {s t : State} (h : SeenAlike p s t) (e : PhCond) : t.stands p e = s.stands p e := by
  rw [State.stands, h.phGroup]
  rfl

theorem SeenAlike.numeric {p : Phaser} {s t : State} (h : SeenAlike p s t) : t.numeric p = s.numeric p := by
  simp only [State.numeric, h.resolver]

/-- What an evaluation does is said of the phaser's records alone, before it. -/
theorem evaluated_before {p : Phaser} {s s' t : State} (h : SeenAlike p s s') (he : evaluated p s' t) :
    evaluated p s t := by
  simpa only [evaluated, State.unfaulted, State.waiting, State.driven, h.stands, h.numeric, h.phaser, h.loop,
    h.channel] using he

/-- After it, of the phaser's records and of what permission reads. -/
theorem evaluated_after {p : Phaser} {s t t' : State} (h : SeenAlike p t t') (had : t'.ad = t.ad)
    (hcond : t'.ps.cond = t.ps.cond) (hparams : t'.ps.params = t.ps.params) (he : evaluated p s t) :
    evaluated p s t' := by
  have hpermission : t'.permission = t.permission := by
    rw [State.permission, State.failing, State.oilCounts, had, hcond, hparams]
    rfl
  have hwithdrawn : t'.withdrawn = t.withdrawn := by
    rw [State.withdrawn, State.oilCounts, had, hcond, hparams]
    rfl
  simpa only [evaluated, State.waiting, State.released, State.sentHome, h.stands, h.numeric, h.phaser, h.loop,
    h.channel, had, hcond, hparams, hpermission, hwithdrawn] using he

/-- The evaluations of the other phasers, before and after, do not show. -/
theorem evaluated_between {p : Phaser} {s a t : State} (h : SeenAlike p s a) (h' : SeenAlike p (evaluate p a) t)
    (hf : SeqFrame (evaluate p a) t) : evaluated p s t :=
  evaluated_after h' hf.ad hf.cond hf.params (evaluated_before h (evaluated_evaluate p a))

theorem evaluate_others {p q : Phaser} (h : p ≠ q) (s : State) : SeenAlike p s (evaluate q s) :=
  (local_evaluate q s).seenAlike h

theorem evaluated_evaluateAll (p : Phaser) (s : State) : evaluated p s (evaluateAll s) := by
  have frame (q : Phaser) (s : State) := (local_evaluate q s).frame
  cases p with
  | fi =>
    exact evaluated_between (.refl _ s)
      (((evaluate_others (by decide) _).trans (evaluate_others (by decide) _)).trans (evaluate_others (by decide) _))
      (((frame .fe _).trans (frame .ri _)).trans (frame .re _))
  | fe =>
    exact evaluated_between (evaluate_others (by decide) s)
      ((evaluate_others (by decide) _).trans (evaluate_others (by decide) _)) ((frame .ri _).trans (frame .re _))
  | ri =>
    exact evaluated_between ((evaluate_others (by decide) s).trans (evaluate_others (by decide) _))
      (evaluate_others (by decide) _) (frame .re _)
  | re =>
    exact evaluated_between
      (((evaluate_others (by decide) s).trans (evaluate_others (by decide) _)).trans (evaluate_others (by decide) _))
      (.refl _ _) (.refl _)

end Sys2Proof.Machine
end

section
/-! ## The edges and the window ends of one tooth, cam by cam (R89 to R97) -/

namespace Sys2Proof.Machine

open Sys2Proof

/-! ### What Edge Capture leaves as it was -/

/-- What the edges and the window ends of a tooth leave as they were. -/
structure CaptureFrame (s t : State) : Prop where
  rt : t.rt = s.rt
  tr : t.tr = s.tr
  ad : t.ad = s.ad
  fp : t.fp = s.fp
  counter : t.counter = s.counter
  msTicks : t.msTicks = s.msTicks
  dev : t.cm.dev = s.cm.dev
  margin : t.ec.margin = s.ec.margin
  lostCount : t.ec.lostCount = s.ec.lostCount
  bracket : t.ec.bracket = s.ec.bracket

theorem CaptureFrame.refl (s : State) : CaptureFrame s s := ⟨rfl, rfl, rfl, rfl, rfl, rfl, rfl, rfl, rfl, rfl⟩

theorem CaptureFrame.trans {s t u : State} (a : CaptureFrame s t) (b : CaptureFrame t u) : CaptureFrame s u :=
  ⟨b.rt.trans a.rt, b.tr.trans a.tr, b.ad.trans a.ad, b.fp.trans a.fp, b.counter.trans a.counter,
   b.msTicks.trans a.msTicks, b.dev.trans a.dev, b.margin.trans a.margin, b.lostCount.trans a.lostCount,
   b.bracket.trans a.bracket⟩

theorem SeqFrame.capture {s t : State} (h : SeqFrame s t) : CaptureFrame s t :=
  ⟨h.rt, h.tr, h.ad, h.fp, h.counter, h.msTicks, h.dev, by rw [h.ec], by rw [h.ec], by rw [h.ec]⟩

theorem capture_setCam (c : Phaser) (x : Cam) (s : State) : CaptureFrame s (s.setCam c x) :=
  ⟨rfl, rfl, rfl, rfl, rfl, rfl, rfl, rfl, rfl, rfl⟩

theorem capture_rejectEdge (c : Phaser) (s : State) : CaptureFrame s (rejectEdge c s) :=
  ⟨rfl, rfl, rfl, rfl, rfl, rfl, rfl, rfl, rfl, rfl⟩

theorem capture_takeMeasurement (c : Phaser) (k : Nat) (phase : Int) (s : State) :
    CaptureFrame s (takeMeasurement c k phase s) :=
  ((capture_setCam c _ s).trans (local_drive c .camLost false _).frame.capture).trans
    (local_deliver c phase _).frame.capture

theorem capture_associateEdge (c : Phaser) (edge : Nat) (s : State) : CaptureFrame s (associateEdge c edge s) := by
  unfold associateEdge
  dsimp only
  split
  · exact capture_rejectEdge c s
  · exact capture_takeMeasurement c _ _ s

theorem capture_missTooth (c : Phaser) (s : State) : CaptureFrame s (missTooth c s) := by
  unfold missTooth
  dsimp only
  split
  · exact (capture_setCam c _ s).trans (local_camLostDeclared c _).frame.capture
  · exact capture_setCam c _ s

theorem capture_testWindowEnd (c : Phaser) (prev now k : Nat) (s : State) :
    CaptureFrame s (testWindowEnd c prev now k s) := by
  unfold testWindowEnd
  split
  · split
    · exact capture_setCam c _ s
    · exact capture_missTooth c s
  · exact .refl s

theorem capture_foldl {α : Type} (f : State → α → State) (h : ∀ s a, CaptureFrame s (f s a)) (l : List α) (s : State) :
    CaptureFrame s (l.foldl f s) :=
  List.foldlRecOn l f (CaptureFrame.refl s) fun t ht a _ => ht.trans (h t a)

theorem capture_completeCam (b : Bracket) (t1 : Tick) (span : Nat) (c : Phaser) (s : State) :
    CaptureFrame s (completeCam b t1 span c s) :=
  (capture_setCam c _ s).trans (capture_foldl _ (fun s _ => capture_associateEdge c _ s) _ _)

theorem capture_testCam (prev now : Nat) (c : Phaser) (s : State) : CaptureFrame s (testCam prev now c s) :=
  capture_foldl _ (fun s k => capture_testWindowEnd c prev now k s) _ s

theorem capture_completeEdges (b : Bracket) (t1 : Tick) (span : Nat) (s : State) :
    CaptureFrame s (completeEdges b t1 span s) :=
  (((capture_completeCam b t1 span .fi s).trans (capture_completeCam b t1 span .fe _)).trans
    (capture_completeCam b t1 span .ri _)).trans (capture_completeCam b t1 span .re _)

theorem capture_testWindowEnds (prev now : Nat) (s : State) : CaptureFrame s (testWindowEnds prev now s) :=
  (((capture_testCam prev now .fi s).trans (capture_testCam prev now .fe _)).trans
    (capture_testCam prev now .ri _)).trans (capture_testCam prev now .re _)

/-! ### One edge and one window end, on the view of a cam -/

theorem setCam_camView (s : State) (c q : Phaser) (x : Cam) :
    (s.setCam c x).camView q = if q = c then { s.camView c with cam := x } else s.camView q := by
  unfold State.camView
  rw [setCam_cam]
  split
  · rename_i h
    rw [h]
    rfl
  · rfl

theorem drive_camLost_camView (s : State) (c q : Phaser) (b : Bool) :
    (s.drive c .camLost b).camView q = if q = c then { s.camView c with lost := b } else s.camView q := by
  simp only [State.camView, drive_cam_frame, drive_reject, drive_stands, and_true]
  split
  · rename_i h
    rw [h]
  · rfl

theorem latchReject_camView (s : State) (c q : Phaser) :
    (s.latchReject c).camView q =
      if q = c then { s.camView c with rejected := latchEvent (s.phGroup c).reject () } else s.camView q := by
  unfold State.latchReject State.camView State.stands
  simp only [setPhGroup_phGroup, setPhGroup_cam_frame]
  split
  · rename_i h
    rw [h]
  · rfl

/-- A pure event without a value: its count, saturating (R165). -/
theorem latchEvent_unit (l : Option (PureLatch Unit)) :
    latchEvent l () = match l with
      | none => some ⟨1, ()⟩
      | some l => some ⟨min 255 (l.count + 1), ()⟩ := by
  cases l <;> rfl

theorem rejectEdge_camView (c q : Phaser) (s : State) :
    (rejectEdge c s).camView q =
      if q = c then
        { s.camView c with cam := { s.cam c with rejects := min 255 ((s.cam c).rejects + 1) },
                           rejected := latchEvent (s.phGroup c).reject () }
      else s.camView q := by
  unfold rejectEdge
  rw [latchReject_camView, setCam_camView, if_pos rfl, setCam_camView]
  split <;> rfl

theorem takeMeasurement_camView (c q : Phaser) (k : Nat) (phase : Int) (s : State) :
    (takeMeasurement c k phase s).camView q =
      if q = c then
        { s.camView c with cam := { s.cam c with last := some ⟨phase, 0⟩, miss := 0, marks := (s.cam c).marks.set k true },
                           lost := false }
      else s.camView q := by
  unfold takeMeasurement
  dsimp only
  rw [cams_deliver c phase _ q, drive_camLost_camView, setCam_camView, if_pos rfl, setCam_camView]
  split <;> rfl

/-- The window of R92 about a phaser's nominal teeth. -/
def State.lowEnd (s : State) (c : Phaser) : Int := (s.resolver c).amin - s.ec.margin

/-- The upper end of the window of R92. -/
def State.highEnd (s : State) (c : Phaser) : Int := (s.resolver c).amax + s.ec.margin

theorem CaptureFrame.resolver {s t : State} (h : CaptureFrame s t) (p : Phaser) : t.resolver p = s.resolver p := by
  unfold State.resolver
  rw [h.tr]

theorem CaptureFrame.lowEnd {s t : State} (h : CaptureFrame s t) (c : Phaser) : t.lowEnd c = s.lowEnd c := by
  rw [State.lowEnd, h.resolver, h.margin]
  rfl

theorem CaptureFrame.highEnd {s t : State} (h : CaptureFrame s t) (c : Phaser) : t.highEnd c = s.highEnd c := by
  rw [State.highEnd, h.resolver, h.margin]
  rfl

/-- An edge acts on its own cam (R92 to R94). -/
theorem associateEdge_camView (c q : Phaser) (edge : Nat) (s : State) :
    (associateEdge c edge s).camView q =
      if q = c then CamView.edge (s.lowEnd c) (s.highEnd c) (s.camView c) edge else s.camView q := by
  have hteeth : (s.camView c).cam.teeth = (s.cam c).teeth := rfl
  unfold associateEdge CamView.edge State.lowEnd State.highEnd
  dsimp only
  rw [hteeth]
  cases associate (s.cam c).teeth edge ((s.resolver c).amin - s.ec.margin) ((s.resolver c).amax + s.ec.margin) with
  | none =>
    refine (rejectEdge_camView c q s).trans ?_
    rw [latchEvent_unit]
    split <;> rfl
  | some x => exact takeMeasurement_camView c q x.1 x.2 s

/-- CAM_LOST is declared on its own cam, and the moves that follow it leave every cam (R97, R119). -/
theorem camLostDeclared_camView (c q : Phaser) (s : State) :
    (camLostDeclared c s).camView q = if q = c then { s.camView c with lost := true } else s.camView q := by
  have hdrive : ((overBandEvent c s).drive c .camLost true).camView q =
      if q = c then { s.camView c with lost := true } else s.camView q := by
    rw [drive_camLost_camView, cams_overBandEvent c s c, cams_overBandEvent c s q]
  rw [← hdrive]
  unfold camLostDeclared
  dsimp only
  split
  · exact ((cams_faultEntry c _ _).trans (cams_updateHeld c _)) q
  · exact ((cams_faultEntry c _ _).trans (cams_updateHeld c _)) q
  · exact ((cams_faultEntry c _ _).trans (cams_updateHeld c _)) q
  · exact cams_setPhaser c _ _ q
  · rfl

theorem missTooth_camView (c q : Phaser) (s : State) :
    (missTooth c s).camView q =
      if q = c then
        { s.camView c with cam := { s.cam c with miss := min 255 ((s.cam c).miss + 1) },
                           lost := s.stands c .camLost || decide (s.ec.lostCount ≤ min 255 ((s.cam c).miss + 1)) }
      else s.camView q := by
  unfold missTooth
  simp only [setCam_cam_self, setCam_lostCount, setCam_stands, bump]
  split
  · rename_i h
    rw [camLostDeclared_camView, setCam_camView, if_pos rfl, setCam_camView]
    simp only [h.1, decide_true, Bool.or_true]
    split <;> rfl
  · rename_i h
    have hlost : (s.stands c .camLost || decide (s.ec.lostCount ≤ min 255 ((s.cam c).miss + 1))) = s.stands c .camLost := by
      cases hs : s.stands c .camLost with
      | true => rfl
      | false => simpa [hs] using h
    rw [setCam_camView, hlost]
    rfl

/-- A window end acts on its own cam (R96, R97). -/
theorem testWindowEnd_camView (c q : Phaser) (prev now k : Nat) (s : State) :
    (testWindowEnd c prev now k s).camView q =
      if q = c then CamView.windowEnd (s.resolver c).amin s.ec.margin s.ec.lostCount prev now (s.camView c) k
      else s.camView q := by
  unfold testWindowEnd
  by_cases hq : q = c
  · subst hq
    rw [if_pos rfl]
    unfold CamView.windowEnd
    split
    · rename_i hc
      refine Eq.trans ?_ (if_pos hc).symm
      split
      · rename_i hm
        refine Eq.trans ?_ (if_pos hm).symm
        rw [setCam_camView, if_pos rfl]
        rfl
      · rename_i hm
        refine Eq.trans ?_ (if_neg hm).symm
        rw [missTooth_camView, if_pos rfl]
        rfl
    · rename_i hc
      exact (if_neg hc).symm
  · rw [if_neg hq]
    split
    · split
      · rw [setCam_camView, if_neg hq]
      · rw [missTooth_camView, if_neg hq]
    · rfl

/-! ### All edges and window ends of one cam -/

/-- A run of one operation, followed on the view of one cam. -/
theorem foldl_camView {α : Type} {f : State → α → State} {g : CamView → α → CamView} {c : Phaser} {s : State}
    (hframe : ∀ u a, CaptureFrame u (f u a)) (hview : ∀ u a, CaptureFrame s u → (f u a).camView c = g (u.camView c) a)
    (l : List α) : (l.foldl f s).camView c = l.foldl g (s.camView c) := by
  have run : ∀ u, CaptureFrame s u → (l.foldl f u).camView c = l.foldl g (u.camView c) := by
    induction l with
    | nil => exact fun _ _ => rfl
    | cons a l ih =>
      intro u hu
      rw [List.foldl_cons, List.foldl_cons, ih _ (hu.trans (hframe u a)), hview u a hu]
  exact run s (.refl s)

theorem foldl_camView_other {α : Type} {f : State → α → State} {c : Phaser}
    (hview : ∀ u a, (f u a).camView c = u.camView c) (l : List α) (s : State) :
    (l.foldl f s).camView c = s.camView c :=
  List.foldlRecOn (motive := fun u => u.camView c = s.camView c) l f rfl fun u hu a _ => (hview u a).trans hu

/-- A cam with its queue emptied and the queued edges taken in capture order (R89). -/
def CamView.completed (b : Bracket) (t1 : Tick) (span : Nat) (lo hi : Int) (x : CamView) : CamView :=
  (x.cam.queue.map (placeEdge b t1 span)).foldl (CamView.edge lo hi) { x with cam := { x.cam with queue := [] } }

theorem completeCam_camView (b : Bracket) (t1 : Tick) (span : Nat) (c : Phaser) (s : State) :
    (completeCam b t1 span c s).camView c = (s.camView c).completed b t1 span (s.lowEnd c) (s.highEnd c) := by
  have hset := capture_setCam c { s.cam c with queue := [] } s
  unfold completeCam CamView.completed
  rw [List.foldl_map]
  refine (foldl_camView (g := fun v te => CamView.edge (s.lowEnd c) (s.highEnd c) v (placeEdge b t1 span te))
    (fun u te => capture_associateEdge c _ u) (fun u te hu => ?_) _).trans ?_
  · rw [associateEdge_camView, if_pos rfl, hu.lowEnd, hu.highEnd, hset.lowEnd, hset.highEnd]
  · rw [setCam_camView, if_pos rfl]
    rfl

theorem completeCam_camView_other (b : Bracket) (t1 : Tick) (span : Nat) {c q : Phaser} (h : q ≠ c) (s : State) :
    (completeCam b t1 span c s).camView q = s.camView q := by
  unfold completeCam
  refine (foldl_camView_other (fun u te => ?_) _ _).trans ?_
  · rw [associateEdge_camView, if_neg h]
  · rw [setCam_camView, if_neg h]

/-- A cam with the window ends of all its teeth tested (R96). -/
def CamView.tested (amin : Int) (margin lostCount prev now : Nat) (x : CamView) : CamView :=
  (List.range x.cam.teeth.length).foldl (CamView.windowEnd amin margin lostCount prev now) x

theorem testCam_camView (prev now : Nat) (c : Phaser) (s : State) :
    (testCam prev now c s).camView c =
      (s.camView c).tested (s.resolver c).amin s.ec.margin s.ec.lostCount prev now := by
  refine foldl_camView (fun u k => capture_testWindowEnd c prev now k u) (fun u k hu => ?_) _
  rw [testWindowEnd_camView, if_pos rfl, hu.resolver, hu.margin, hu.lostCount]

theorem testCam_camView_other (prev now : Nat) {c q : Phaser} (h : q ≠ c) (s : State) :
    (testCam prev now c s).camView q = s.camView q :=
  foldl_camView_other (fun u k => by rw [testWindowEnd_camView, if_neg h]) _ s

theorem edge_teeth (lo hi : Int) (x : CamView) (edge : Nat) : (CamView.edge lo hi x edge).cam.teeth = x.cam.teeth := by
  unfold CamView.edge
  split <;> rfl

theorem edges_teeth (lo hi : Int) (l : List Nat) (x : CamView) : (l.foldl (CamView.edge lo hi) x).cam.teeth = x.cam.teeth :=
  List.foldlRecOn (motive := fun y => y.cam.teeth = x.cam.teeth) l _ rfl fun y hy edge _ =>
    (edge_teeth lo hi y edge).trans hy

theorem completed_teeth (b : Bracket) (t1 : Tick) (span : Nat) (lo hi : Int) (x : CamView) :
    (x.completed b t1 span lo hi).cam.teeth = x.cam.teeth :=
  edges_teeth lo hi _ _

/-! ### All four cams -/

/-- Four operations in index order, each on its own cam. -/
theorem fourCams_camView {f : Phaser → State → State} {g : Phaser → CamView → CamView} {s : State}
    (hframe : ∀ c u, CaptureFrame u (f c u)) (hother : ∀ c q u, q ≠ c → (f c u).camView q = u.camView q)
    (hview : ∀ c u, CaptureFrame s u → (f c u).camView c = g c (u.camView c)) (c : Phaser) :
    (f .re (f .ri (f .fe (f .fi s)))).camView c = g c (s.camView c) := by
  have h1 := hframe .fi s
  have h2 := h1.trans (hframe .fe _)
  have h3 := h2.trans (hframe .ri _)
  cases c with
  | fi => rw [hother .re .fi _ (by decide), hother .ri .fi _ (by decide), hother .fe .fi _ (by decide), hview _ _ (.refl s)]
  | fe => rw [hother .re .fe _ (by decide), hother .ri .fe _ (by decide), hview _ _ h1, hother .fi .fe _ (by decide)]
  | ri => rw [hother .re .ri _ (by decide), hview _ _ h2, hother .fe .ri _ (by decide), hother .fi .ri _ (by decide)]
  | re => rw [hview _ _ h3, hother .ri .re _ (by decide), hother .fe .re _ (by decide), hother .fi .re _ (by decide)]

theorem completeEdges_camView (b : Bracket) (t1 : Tick) (span : Nat) (s : State) (c : Phaser) :
    (completeEdges b t1 span s).camView c = (s.camView c).completed b t1 span (s.lowEnd c) (s.highEnd c) :=
  fourCams_camView (f := completeCam b t1 span) (g := fun c => CamView.completed b t1 span (s.lowEnd c) (s.highEnd c))
    (fun c u => capture_completeCam b t1 span c u) (fun _ _ u h => completeCam_camView_other b t1 span h u)
    (fun c u hu => by rw [completeCam_camView, hu.lowEnd, hu.highEnd]) c

theorem testWindowEnds_camView (prev now : Nat) (s : State) (c : Phaser) :
    (testWindowEnds prev now s).camView c =
      (s.camView c).tested (s.resolver c).amin s.ec.margin s.ec.lostCount prev now :=
  fourCams_camView (f := testCam prev now)
    (g := fun c => CamView.tested (s.resolver c).amin s.ec.margin s.ec.lostCount prev now)
    (fun c u => capture_testCam prev now c u) (fun _ _ u h => testCam_camView_other prev now h u)
    (fun c u hu => by rw [testCam_camView, hu.resolver, hu.margin, hu.lostCount]) c

/-! ### A tooth handed to Edge Capture (R79, R89, R96) -/

/-- The bracketing tooth set. -/
def State.setBracket (s : State) (b : Option Bracket) : State := { s with ec := { s.ec with bracket := b } }

theorem captureTooth_first {s : State} (h : s.ec.bracket = none) (t : Tick) (angle span : Nat) :
    captureTooth t angle span s = s.setBracket (some ⟨t, angle⟩) := by
  simp only [captureTooth, h]
  rfl

theorem captureTooth_next {s : State} {b : Bracket} (h : s.ec.bracket = some b) (t : Tick) (angle span : Nat) :
    captureTooth t angle span s =
      testWindowEnds b.angle angle ((completeEdges b t span s).setBracket (some ⟨t, angle⟩)) := by
  simp only [captureTooth, h]
  rfl

/-- The edges of a tooth leave all but the bracketing tooth of what `CaptureFrame` names. -/
theorem captureTooth_frame (t : Tick) (angle span : Nat) (s : State) :
    CaptureFrame (s.setBracket (some ⟨t, angle⟩)) (captureTooth t angle span s) := by
  cases h : s.ec.bracket with
  | none =>
    rw [captureTooth_first h]
    exact .refl _
  | some b =>
    have hedges := capture_completeEdges b t span s
    rw [captureTooth_next h]
    refine CaptureFrame.trans ?_ (capture_testWindowEnds b.angle angle _)
    exact ⟨hedges.rt, hedges.tr, hedges.ad, hedges.fp, hedges.counter, hedges.msTicks, hedges.dev, hedges.margin,
      hedges.lostCount, rfl⟩

/-- Every cam through a tooth: its queued edges, then its window ends. -/
theorem captureTooth_camView {s : State} {b : Bracket} (h : s.ec.bracket = some b) (t : Tick) (angle span : Nat)
    (c : Phaser) :
    (captureTooth t angle span s).camView c =
      ((s.camView c).completed b t span (s.lowEnd c) (s.highEnd c)).tested (s.resolver c).amin s.ec.margin
        s.ec.lostCount b.angle angle := by
  have hedges := capture_completeEdges b t span s
  have hset (u : State) (x : Option Bracket) : (u.setBracket x).camView c = u.camView c := rfl
  rw [captureTooth_next h, testWindowEnds_camView, hset, completeEdges_camView]
  have hr : ((completeEdges b t span s).setBracket (some ⟨t, angle⟩)).resolver c = s.resolver c := hedges.resolver c
  have hm : ((completeEdges b t span s).setBracket (some ⟨t, angle⟩)).ec.margin = s.ec.margin := hedges.margin
  have hl : ((completeEdges b t span s).setBracket (some ⟨t, angle⟩)).ec.lostCount = s.ec.lostCount := hedges.lostCount
  rw [hr, hm, hl]

end Sys2Proof.Machine
end

section
/-! ## Recomputes taken, phaser by phaser (R48, R54, R60) -/

namespace Sys2Proof.Machine

open Sys2Proof

/-! ### What a recompute leaves as it was -/

/-- What the recomputes of the phasers leave as they were. -/
structure SettleFrame (s t : State) : Prop where
  event : EventFrame s t
  ad : t.ad = s.ad
  ec : t.ec = s.ec
  dev : t.cm.dev = s.cm.dev
  cams : CamsKept s t
  amin : ∀ p, (t.resolver p).amin = (s.resolver p).amin
  amax : ∀ p, (t.resolver p).amax = (s.resolver p).amax

theorem SettleFrame.refl (s : State) : SettleFrame s s :=
  ⟨.refl s, rfl, rfl, rfl, .refl s, fun _ => rfl, fun _ => rfl⟩

theorem SettleFrame.trans {s t u : State} (a : SettleFrame s t) (b : SettleFrame t u) : SettleFrame s u :=
  ⟨a.event.trans b.event, b.ad.trans a.ad, b.ec.trans a.ec, b.dev.trans a.dev, a.cams.trans b.cams,
   fun p => (b.amin p).trans (a.amin p), fun p => (b.amax p).trans (a.amax p)⟩

theorem SeqFrame.settle {s t : State} (h : SeqFrame s t) (he : EventFrame s t) (hc : CamsKept s t) : SettleFrame s t :=
  ⟨he, h.ad, h.ec, h.dev, hc, fun p => by rw [h.resolver], fun p => by rw [h.resolver]⟩

theorem settle_setResolver (p : Phaser) {x : Resolver} {s : State} (hmin : x.amin = (s.resolver p).amin)
    (hmax : x.amax = (s.resolver p).amax) : SettleFrame s (s.setResolver p x) := by
  refine ⟨event_setResolver p x s, rfl, rfl, rfl, .of_blocks rfl rfl, fun q => ?_, fun q => ?_⟩
  · rw [setResolver_resolver]
    split
    · rename_i h
      rw [hmin, h]
    · rfl
  · rw [setResolver_resolver]
    split
    · rename_i h
      rw [hmax, h]
    · rfl

/-- A recompute writes the resolution, consumes the notes, and leaves the window and those who asked (R48, R52). -/
theorem next_fixed (r : Resolver) (t : Slots) (p : Phaser) (driven : Bool) (ramp : Int) :
    (r.next t p driven ramp).amin = r.amin ∧ (r.next t p driven ramp).amax = r.amax ∧
      (r.next t p driven ramp).asked = r.asked ∧ (r.next t p driven ramp).notes = [] := by
  unfold Resolver.next
  split <;> exact ⟨rfl, rfl, rfl, rfl⟩

theorem frame_recomputePhaser (p : Phaser) (s : State) : SettleFrame s (recomputePhaser p s) := by
  have hover := local_overBandEvent p s
  have hstart := hover.frame.settle (event_overBandEvent p s) (cams_overBandEvent p s)
  obtain ⟨hmin, hmax, -, -⟩ := next_fixed ((overBandEvent p s).resolver p) (overBandEvent p s).rt.slots p
    (drivenState ((overBandEvent p s).phaser p).state) ((overBandEvent p s).loop p).ramp
  refine ((hstart.trans (settle_setResolver p hmin hmax)).trans ?_).trans
    ((local_targetHandled p _ _).frame.settle
      ((local_targetHandled p _ _).eventFrame (targetHandled_enable p _ _)) (cams_targetHandled p _ _))
  exact (local_drive p _ _ _).frame.settle (event_drive p _ _ _) (cams_drive (by decide) p _ _)

theorem frame_takeRecompute (p : Phaser) (s : State) : SettleFrame s (takeRecompute p s) := by
  unfold takeRecompute
  split
  · exact .refl s
  · rename_i rest _
    have hset : SettleFrame s (s.setResolver p { s.resolver p with asked := rest }) := settle_setResolver p rfl rfl
    exact hset.trans (frame_recomputePhaser p _)

theorem frame_settle (who : Asker → Bool) (p : Phaser) (s : State) : SettleFrame s (settle who p s) := by
  unfold settle
  split
  · exact List.foldlRecOn _ _ (SettleFrame.refl s) fun t ht _ _ => ht.trans (frame_takeRecompute p t)
  · exact .refl s

theorem frame_settleGroup (who : Asker → Bool) (g : Group) (s : State) : SettleFrame s (settleGroup who g s) := by
  cases g
  · exact (frame_settle who .fi s).trans (frame_settle who .fe _)
  · exact (frame_settle who .ri s).trans (frame_settle who .re _)

/-! ### A recompute acts on its own phaser -/

theorem seenAlike_setResolver {p q : Phaser} (h : p ≠ q) (x : Resolver) (s : State) : SeenAlike p s (s.setResolver q x) :=
  ⟨by rw [setResolver_resolver, if_neg h], rfl, rfl, rfl, rfl⟩

theorem seenAlike_takeRecompute {p q : Phaser} (h : p ≠ q) (s : State) : SeenAlike p s (takeRecompute q s) := by
  unfold takeRecompute
  split
  · exact .refl p s
  · exact ((((seenAlike_setResolver h _ s).trans ((local_overBandEvent q _).seenAlike h)).trans
      (seenAlike_setResolver h _ _)).trans ((local_drive q _ _ _).seenAlike h)).trans
      ((local_targetHandled q _ _).seenAlike h)

theorem seenAlike_settle {p q : Phaser} (h : p ≠ q) (who : Asker → Bool) (s : State) :
    SeenAlike p s (settle who q s) := by
  unfold settle
  split
  · exact List.foldlRecOn _ _ (SeenAlike.refl p s) fun t ht _ _ => ht.trans (seenAlike_takeRecompute h t)
  · exact .refl p s

theorem seenAlike_settleGroup {p : Phaser} {g : Group} (h : p.group ≠ g) (who : Asker → Bool) (s : State) :
    SeenAlike p s (settleGroup who g s) := by
  have other (q : Phaser) (hq : q.group = g) : p ≠ q := by
    rintro rfl
    exact h hq
  cases g
  · exact (seenAlike_settle (other .fi rfl) who s).trans (seenAlike_settle (other .fe rfl) who _)
  · exact (seenAlike_settle (other .ri rfl) who s).trans (seenAlike_settle (other .re rfl) who _)

/-- Settling a group settles each of its phasers; the other one does not show. -/
theorem settleGroup_member (who : Asker → Bool) (p : Phaser) (s : State) : ∃ a, SeenAlike p s a ∧ a.rt = s.rt ∧
    (settleGroup who p.group s).resolver p = (settle who p a).resolver p := by
  cases p with
  | fi => exact ⟨s, .refl _ s, rfl, (seenAlike_settle (by decide) who _).resolver⟩
  | fe => exact ⟨_, seenAlike_settle (by decide) who s, (event_settle who .fi s).rt, rfl⟩
  | ri => exact ⟨s, .refl _ s, rfl, (seenAlike_settle (by decide) who _).resolver⟩
  | re => exact ⟨_, seenAlike_settle (by decide) who s, (event_settle who .ri s).rt, rfl⟩

/-! ### The record that a recompute writes -/

/-- The Resolver's record of a phaser after a recompute taken in a state (R48, R54, R115). -/
def State.recomputed (s : State) (p : Phaser) (r : Resolver) : Resolver :=
  r.next s.rt.slots p
    (drivenState (if (s.phaser p).state = .tracking ∧ (s.phaser p).faultDue = true then .faulted else (s.phaser p).state))
    (s.loop p).ramp

theorem recomputePhaser_resolver (p : Phaser) (s : State) :
    (recomputePhaser p s).resolver p = s.recomputed p (s.resolver p) := by
  have hf := (local_overBandEvent p s).frame
  have hramp : ((overBandEvent p s).loop p).ramp = (s.loop p).ramp := by
    rw [overBandEvent_loop]
    split <;> rfl
  unfold recomputePhaser State.recomputed
  dsimp only
  rw [(local_targetHandled p _ _).frame.resolver, drive_resolver_frame, setResolver_resolver_self, hf.resolver, hf.rt,
    overBandEvent_state, hramp]

theorem takeRecompute_resolver {p : Phaser} {s : State} {a : Asker} {rest : List Asker}
    (h : (s.resolver p).asked = a :: rest) :
    (takeRecompute p s).resolver p = s.recomputed p { s.resolver p with asked := rest } := by
  simp only [takeRecompute, h]
  rw [recomputePhaser_resolver, setResolver_resolver_self]
  rfl

/-- Taking as many recomputes as are owed leaves none, and no note. -/
theorem takeRecomputes_owed {p : Phaser} {l : List Asker} (hl : l ≠ []) :
    ∀ s : State, (s.resolver p).asked.length = l.length →
      ((l.foldl (fun s _ => takeRecompute p s) s).resolver p).asked = [] ∧
      ((l.foldl (fun s _ => takeRecompute p s) s).resolver p).notes = [] := by
  induction l with
  | nil => exact absurd rfl hl
  | cons b l ih =>
    intro s hs
    obtain ⟨a, rest, hasked⟩ : ∃ a rest, (s.resolver p).asked = a :: rest := List.exists_cons_of_length_eq_add_one hs
    obtain ⟨-, -, hleft, hnotes⟩ := next_fixed { s.resolver p with asked := rest } s.rt.slots p
      (drivenState (if (s.phaser p).state = .tracking ∧ (s.phaser p).faultDue = true then .faulted else (s.phaser p).state))
      (s.loop p).ramp
    have hstep := takeRecompute_resolver hasked
    rw [List.foldl_cons]
    by_cases hnil : l = []
    · have hrest : rest = [] := by
        rw [hasked, hnil] at hs
        simpa using hs
      rw [hnil, List.foldl_nil, hstep]
      exact ⟨hleft.trans hrest, hnotes⟩
    · refine ih hnil _ ?_
      rw [hstep, State.recomputed, hleft]
      rw [hasked] at hs
      simpa using hs

theorem settle_owed {who : Asker → Bool} {p : Phaser} {s : State} (h : (s.resolver p).asked.any who = true) :
    ((settle who p s).resolver p).asked = [] ∧ ((settle who p s).resolver p).notes = [] := by
  unfold settle
  rw [if_pos h]
  refine takeRecomputes_owed ?_ s rfl
  intro hnil
  rw [hnil] at h
  cases h

theorem settle_one {who : Asker → Bool} {p : Phaser} {s : State} {a : Asker} (h : (s.resolver p).asked = [a])
    (ha : who a = true) : (settle who p s).resolver p = s.recomputed p { s.resolver p with asked := [] } := by
  have hany : (s.resolver p).asked.any who = true := by simp [h, ha]
  unfold settle
  rw [if_pos hany, h]
  exact takeRecompute_resolver h

/-! ### What a recompute reads of the table: the records of its phaser (R49, R50, R56) -/

/-- Two tables hold the same records of a phaser in the same slots, with the same generations. -/
def Slots.agreeOn (t u : Slots) (p : Phaser) : Prop :=
  ∀ i, (t.get i).gen = (u.get i).gen ∧
    ∀ r : Record, r.key.phaser = p → ((t.get i).record = some r ↔ (u.get i).record = some r)

section Agree
variable {t u : Slots} {p : Phaser}

theorem Slots.agreeOn.findRecord (h : t.agreeOn u p) {f : Record → Bool} (hf : ∀ r, f r = true → r.key.phaser = p) :
    t.findRecord f = u.findRecord f := by
  unfold Slots.findRecord
  congr 1
  funext i
  rw [Bool.eq_iff_iff, Option.any_eq_true, Option.any_eq_true]
  refine exists_congr fun r => and_congr_left fun hr => ?_
  exact (h i).2 r (hf r hr)

theorem Slots.agreeOn.activeRecord (h : t.agreeOn u p) {k : Key} (hk : k.phaser = p) :
    t.activeRecord k = u.activeRecord k := by
  have hkey : ∀ r : Record, (r.key == k && r.life.active.isSome) = true → r.key.phaser = p := by
    intro r hr
    rw [Bool.and_eq_true, beq_iff_eq] at hr
    rw [hr.1, hk]
  unfold Slots.activeRecord
  rw [← h.findRecord hkey]
  cases hfound : t.findRecord fun r => r.key == k && r.life.active.isSome with
  | none => rfl
  | some i =>
    obtain ⟨r, hr, hpass⟩ := findRecord_some hfound
    have hu := ((h i).2 r (hkey r hpass)).mp hr
    have hhandle : t.handle i = u.handle i := by
      rw [Slots.handle, (h i).1]
      rfl
    simp only [hr, hu, hhandle]

theorem Slots.agreeOn.activeRecords (h : t.agreeOn u p) (k : Kind) : t.activeRecords p k = u.activeRecords p k := by
  simp only [Slots.activeRecords, fun c => h.activeRecord (k := ⟨p, c, k⟩) rfl]

theorem Slots.agreeOn.compose (h : t.agreeOn u p) : compose t p = compose u p := by
  funext amin amax d start ref
  simp only [Machine.compose, h.activeRecords]

theorem Slots.agreeOn.resolveNone (h : t.agreeOn u p) : resolveNone t p = resolveNone u p := by
  funext r driven ramp
  simp only [Machine.resolveNone, h.compose]

theorem Slots.agreeOn.resolveWinner (h : t.agreeOn u p) : resolveWinner t p = resolveWinner u p := by
  funext amin amax c hd target
  simp only [Machine.resolveWinner, h.compose]

theorem Slots.agreeOn.next (h : t.agreeOn u p) (r : Resolver) (driven : Bool) (ramp : Int) :
    r.next t p driven ramp = r.next u p driven ramp := by
  simp only [Resolver.next, Slots.winner, h.activeRecords, h.resolveNone, h.resolveWinner]

end Agree

end Sys2Proof.Machine
end

section
/-! ## The parts of a tooth within CYCLE_SYNC: what each changes and what it leaves (R37 to R44, R79) -/

namespace Sys2Proof.Machine

open Sys2Proof

/-! ### Applies one after another (R32) -/

theorem slot_eq {x y : Slot} (hg : x.gen = y.gen) (hr : x.record = y.record) : x = y := by
  obtain ⟨g, r⟩ := x
  obtain ⟨g', r'⟩ := y
  obtain rfl : g = g' := hg
  obtain rfl : r = r' := hr
  rfl

theorem slot_applied_nothing (x : Slot) : x.applied ⟨false, false⟩ = x := by
  refine slot_eq (slot_applied_gen _ x) ?_
  cases hr : x.record with
  | none => exact slot_applied_free _ hr
  | some r =>
    rw [slot_applied_record _ hr, if_neg]
    cases r.key.phaser.group <;> exact Bool.false_ne_true

/-- The groups covered by one of two applies. -/
def Coverage.union (c c' : Coverage) : Coverage := ⟨c.front || c'.front, c.rear || c'.rear⟩

theorem union_has (c c' : Coverage) (g : Group) : (c.union c').has g = (c.has g || c'.has g) := by
  cases g <;> rfl

/-- A record that an apply has left LIVE is left by the next one. -/
theorem applied_again {r r' : Record} (h : r.applied = some r') : r'.applied = some r' := by
  unfold Record.applied at h
  split at h
  · cases h; rfl
  · cases h; rfl
  · cases h
  · rename_i hl
    obtain rfl := Option.some.inj h
    simp only [Record.applied, hl]

theorem slot_applied_applied (c c' : Coverage) (x : Slot) : (x.applied c).applied c' = x.applied (c.union c') := by
  refine slot_eq (by simp only [slot_applied_gen]) ?_
  cases hr : x.record with
  | none => rw [slot_applied_free _ hr, slot_applied_free _ (slot_applied_free _ hr)]
  | some r =>
    have hfirst := slot_applied_record c hr
    rw [slot_applied_record _ hr, union_has]
    cases hc : c.has r.key.phaser.group with
    | false =>
      rw [hc] at hfirst
      exact slot_applied_record c' hfirst
    | true =>
      rw [hc, if_pos rfl] at hfirst
      rw [Bool.true_or, if_pos rfl]
      cases ha : r.applied with
      | none => exact slot_applied_free _ (hfirst.trans ha)
      | some r' =>
        rw [slot_applied_record c' (hfirst.trans ha), applied_again ha, ite_self]

theorem slots_map_applied (c c' : Coverage) (t : Slots) :
    (t.map (Slot.applied c)).map (Slot.applied c') = t.map (Slot.applied (c.union c')) :=
  slots_ext fun i => by simp only [slots_get_map, slot_applied_applied]

theorem slots_map_nothing (t : Slots) : t.map (Slot.applied ⟨false, false⟩) = t :=
  slots_ext fun i => by rw [slots_get_map, slot_applied_nothing]

/-- Applies that agree on a group leave the same records of it. -/
theorem slot_applied_congr {c c' : Coverage} {g : Group} (h : c.has g = c'.has g) (x : Slot) {r : Record}
    (hg : r.key.phaser.group = g) : (x.applied c).record = some r ↔ (x.applied c').record = some r := by
  cases hr : x.record with
  | none => rw [slot_applied_free _ hr, slot_applied_free _ hr]
  | some r0 =>
    by_cases h0 : r0.key.phaser.group = g
    · rw [slot_applied_record _ hr, slot_applied_record _ hr, h0, h]
    · have other (d : Coverage) : ¬ (x.applied d).record = some r := by
        intro hd
        obtain ⟨r1, h1, hkey, -⟩ := slot_applied_continues hd
        rw [hr] at h1
        obtain rfl := Option.some.inj h1
        rw [hkey] at hg
        exact h0 hg
      exact iff_of_false (other c) (other c')

theorem agreeOn_applied {c c' : Coverage} {p : Phaser} (h : c.has p.group = c'.has p.group) (t : Slots) :
    (t.map (Slot.applied c)).agreeOn (t.map (Slot.applied c')) p := by
  intro i
  simp only [slots_get_map, slot_applied_gen, true_and]
  intro r hp
  exact slot_applied_congr h _ (by rw [hp])

/-- An apply that does not cover a group leaves its records. -/
theorem agreeOn_uncovered {c : Coverage} {p : Phaser} (h : c.has p.group = false) (t : Slots) :
    (t.map (Slot.applied c)).agreeOn t p := by
  have hnothing : c.has p.group = (⟨false, false⟩ : Coverage).has p.group := by
    rw [h]
    cases p.group <;> rfl
  have := agreeOn_applied hnothing t
  rwa [slots_map_nothing] at this

theorem pendingIn_agree {t u : Slots} {g : Group} (h : ∀ p : Phaser, p.group = g → t.agreeOn u p) :
    t.pendingIn g = u.pendingIn g := by
  rw [Bool.eq_iff_iff, pendingIn_iff, pendingIn_iff]
  refine exists_congr fun i => exists_congr fun r => and_congr_left fun hr => ?_
  exact (h r.key.phaser hr.1 i).2 r rfl

theorem mem_retireNotes_agree {t u : Slots} {p : Phaser} (h : t.agreeOn u p) (n : Note) :
    n ∈ t.retireNotes p ↔ n ∈ u.retireNotes p := by
  rw [mem_retireNotes, mem_retireNotes]
  refine exists_congr fun i => exists_congr fun r => exists_congr fun target => exists_congr fun slew =>
    exists_congr fun park => exists_congr fun k => ?_
  rw [(h i).1]
  constructor
  · rintro ⟨hr, hp, hl, hn⟩
    exact ⟨((h i).2 r hp).mp hr, hp, hl, hn⟩
  · rintro ⟨hr, hp, hl, hn⟩
    exact ⟨((h i).2 r hp).mpr hr, hp, hl, hn⟩

/-! ### What every part leaves as it was -/

/-- What every part of a tooth leaves as it was. -/
structure ToothFrame (s t : State) : Prop where
  front : t.rt.front = s.rt.front
  rear : t.rt.rear = s.rt.rear
  ad : t.ad = s.ad
  fp : t.fp = s.fp
  counter : t.counter = s.counter
  msTicks : t.msTicks = s.msTicks
  dev : t.cm.dev = s.cm.dev
  margin : t.ec.margin = s.ec.margin
  lostCount : t.ec.lostCount = s.ec.lostCount
  amin : ∀ p, (t.resolver p).amin = (s.resolver p).amin
  amax : ∀ p, (t.resolver p).amax = (s.resolver p).amax

theorem ToothFrame.refl (s : State) : ToothFrame s s :=
  ⟨rfl, rfl, rfl, rfl, rfl, rfl, rfl, rfl, rfl, fun _ => rfl, fun _ => rfl⟩

theorem ToothFrame.trans {s t u : State} (a : ToothFrame s t) (b : ToothFrame t u) : ToothFrame s u :=
  ⟨b.front.trans a.front, b.rear.trans a.rear, b.ad.trans a.ad, b.fp.trans a.fp, b.counter.trans a.counter,
   b.msTicks.trans a.msTicks, b.dev.trans a.dev, b.margin.trans a.margin, b.lostCount.trans a.lostCount,
   fun p => (b.amin p).trans (a.amin p), fun p => (b.amax p).trans (a.amax p)⟩

theorem SettleFrame.tooth {s t : State} (h : SettleFrame s t) : ToothFrame s t :=
  ⟨by rw [h.event.rt], by rw [h.event.rt], h.ad, h.event.fp, h.event.counter, h.event.msTicks, h.dev, by rw [h.ec],
   by rw [h.ec], h.amin, h.amax⟩

theorem CaptureFrame.tooth {s t : State} (h : CaptureFrame s t) : ToothFrame s t :=
  ⟨by rw [h.rt], by rw [h.rt], h.ad, h.fp, h.counter, h.msTicks, h.dev, h.margin, h.lostCount,
   fun p => by rw [h.resolver], fun p => by rw [h.resolver]⟩

theorem ToothFrame.lowEnd {s t : State} (h : ToothFrame s t) (c : Phaser) : t.lowEnd c = s.lowEnd c := by
  rw [State.lowEnd, h.amin, h.margin]
  rfl

theorem ToothFrame.highEnd {s t : State} (h : ToothFrame s t) (c : Phaser) : t.highEnd c = s.highEnd c := by
  rw [State.highEnd, h.amax, h.margin]
  rfl

theorem tooth_captureTooth (t : Tick) (angle span : Nat) (s : State) : ToothFrame s (captureTooth t angle span s) := by
  have hset : ToothFrame s (s.setBracket (some ⟨t, angle⟩)) :=
    ⟨rfl, rfl, rfl, rfl, rfl, rfl, rfl, rfl, rfl, fun _ => rfl, fun _ => rfl⟩
  exact hset.trans (captureTooth_frame t angle span s).tooth

/-! ### The mark apply of one group (R37, R39) -/

/-- A group in MARK mode whose mark angle the present tooth crosses (R37). -/
def State.crossesMark (s : State) (prev : Nat) (g : Group) : Bool :=
  decide ((s.config g).mode = .mark ∧ crossed (s.config g).mark prev s.ad.angle)

/-- The groups whose mark angle the present tooth crosses. -/
def State.crossing (s : State) (prev : Nat) : Coverage := ⟨s.crossesMark prev .front, s.crossesMark prev .rear⟩

theorem crossing_has (s : State) (prev : Nat) (g : Group) : (s.crossing prev).has g = s.crossesMark prev g := by
  cases g <;> rfl

theorem ToothFrame.crossesMark {s t : State} (h : ToothFrame s t) (prev : Nat) (g : Group) :
    t.crossesMark prev g = s.crossesMark prev g := by
  have hconfig : t.config g = s.config g := by
    cases g
    · exact h.front
    · exact h.rear
  rw [State.crossesMark, hconfig, h.ad]
  rfl

theorem ToothFrame.crossing {s t : State} (h : ToothFrame s t) (prev : Nat) : t.crossing prev = s.crossing prev := by
  rw [State.crossing, h.crossesMark, h.crossesMark]
  rfl

theorem markApply_crossing {s : State} {prev : Nat} {g : Group} (h : s.crossesMark prev g = true) :
    markApply g prev s.ad.angle s = applyGroups .mark (Coverage.only g) s :=
  if_pos (of_decide_eq_true h)

theorem markApply_uncrossed {s : State} {prev : Nat} {g : Group} (h : s.crossesMark prev g = false) :
    markApply g prev s.ad.angle s = s :=
  if_neg (of_decide_eq_false h)

/-- An apply of one group: the recomputes that an earlier apply asked for are taken first (log 9). -/
theorem applyGroups_only (who : Asker) (g : Group) (s : State) :
    applyGroups who (Coverage.only g) s =
      askAll who (Coverage.only g) (settleGroup Asker.byApply g s).rt.slots
        ((settleGroup Asker.byApply g s).setSlots
          ((settleGroup Asker.byApply g s).rt.slots.map (Slot.applied (Coverage.only g)))) := by
  cases g <;> rfl

theorem only_has (g q : Group) : (Coverage.only g).has q = decide (q = g) := by
  cases g <;> cases q <;> rfl

theorem askAll_amin (who : Asker) (c : Coverage) (t : Slots) (p : Phaser) (s : State) :
    ((askAll who c t s).resolver p).amin = (s.resolver p).amin ∧
      ((askAll who c t s).resolver p).amax = (s.resolver p).amax := by
  rw [askAll_resolver]
  split <;> exact ⟨rfl, rfl⟩

/-- An apply of one group leaves Edge Capture and every cam. -/
theorem applyOnly_frame (who : Asker) (g : Group) (s : State) :
    ToothFrame s (applyGroups who (Coverage.only g) s) ∧ (applyGroups who (Coverage.only g) s).ec = s.ec ∧
      CamsKept s (applyGroups who (Coverage.only g) s) := by
  have hsettle := frame_settleGroup Asker.byApply g s
  have hwindow (p : Phaser) := askAll_amin who (Coverage.only g) (settleGroup Asker.byApply g s).rt.slots p
    ((settleGroup Asker.byApply g s).setSlots
      ((settleGroup Asker.byApply g s).rt.slots.map (Slot.applied (Coverage.only g))))
  have htooth := hsettle.tooth
  rw [applyGroups_only]
  refine ⟨⟨?_, ?_, ?_, ?_, ?_, ?_, ?_, ?_, ?_, fun p => (hwindow p).1.trans (htooth.amin p),
    fun p => (hwindow p).2.trans (htooth.amax p)⟩, ?_, ?_⟩
  all_goals rw [askAll_frame]
  · exact htooth.front
  · exact htooth.rear
  · exact htooth.ad
  · exact htooth.fp
  · exact htooth.counter
  · exact htooth.msTicks
  · exact htooth.dev
  · exact htooth.margin
  · exact htooth.lostCount
  · exact hsettle.ec
  · exact hsettle.cams.trans (.of_blocks rfl rfl)

/-- An apply of the other group does not show at a phaser. -/
theorem applyOnly_seenAlike {p : Phaser} {g : Group} (h : p.group ≠ g) (who : Asker) (s : State) :
    SeenAlike p s (applyGroups who (Coverage.only g) s) := by
  have hresolver : (applyGroups who (Coverage.only g) s).resolver p = (settleGroup Asker.byApply g s).resolver p := by
    rw [applyGroups_only, askAll_resolver, if_neg, setSlots_resolver_frame]
    rw [only_has, decide_eq_false h, Bool.false_and]
    exact Bool.false_ne_true
  have hsettle := seenAlike_settleGroup h Asker.byApply s
  refine ⟨hresolver.trans hsettle.resolver, ?_, ?_, ?_, ?_⟩
  all_goals rw [applyGroups_only, askAll_frame]
  · exact hsettle.phaser
  · exact hsettle.loop
  · exact hsettle.channel
  · exact hsettle.phGroup

/-! ### The parts (R39, R44, R79) -/

/-- The part of a tooth that is a group's mark apply. -/
def markPart : Group → ToothPart
  | .front => .front
  | .rear => .rear

/-- The operand places a group's mark apply before the tooth's cam edges (log 7). -/
def appliesFirst (o : ToothOrder) : Group → Bool
  | .front => o.frontFirst
  | .rear => o.rearFirst

section Parts
variable (t : Tick) (prev : Nat) (changed : Bool) (o : ToothOrder)

/-- The part of a group: its mark apply, with its recomputes where the apply comes before the edges (R44). -/
theorem toothPart_group (g : Group) (s : State) :
    toothPart t prev changed o s (markPart g) =
      if appliesFirst o g then settleGroup Asker.byMark g (markApply g prev s.ad.angle s)
      else markApply g prev s.ad.angle s := by
  cases g <;> rfl

theorem toothPart_edges (s : State) :
    toothPart t prev changed o s .edges = captureTooth t s.ad.angle s.ad.span s := rfl

theorem toothPart_evaluation (s : State) : toothPart t prev changed o s .evaluation = evaluateIf changed s := rfl

theorem frame_evaluateIf (b : Bool) (s : State) : SettleFrame s (evaluateIf b s) := by
  unfold evaluateIf
  split
  · exact (frame_evaluateAll s).settle (event_evaluateAll s) (cams_evaluateAll s)
  · exact .refl s

theorem markApply_frame (g : Group) (s : State) :
    ToothFrame s (markApply g prev s.ad.angle s) ∧ (markApply g prev s.ad.angle s).ec = s.ec ∧
      CamsKept s (markApply g prev s.ad.angle s) := by
  cases hc : s.crossesMark prev g with
  | true =>
    rw [markApply_crossing hc]
    exact applyOnly_frame .mark g s
  | false =>
    rw [markApply_uncrossed hc]
    exact ⟨.refl s, rfl, .refl s⟩

/-- A group's part leaves Edge Capture and every cam. -/
theorem groupPart_frame (g : Group) (s : State) :
    ToothFrame s (toothPart t prev changed o s (markPart g)) ∧ (toothPart t prev changed o s (markPart g)).ec = s.ec ∧
      CamsKept s (toothPart t prev changed o s (markPart g)) := by
  obtain ⟨hframe, hec, hcams⟩ := markApply_frame prev g s
  rw [toothPart_group]
  split
  · have hsettle := frame_settleGroup Asker.byMark g (markApply g prev s.ad.angle s)
    exact ⟨hframe.trans hsettle.tooth, hsettle.ec.trans hec, hcams.trans hsettle.cams⟩
  · exact ⟨hframe, hec, hcams⟩

theorem toothPart_frame (s : State) (x : ToothPart) : ToothFrame s (toothPart t prev changed o s x) := by
  cases x with
  | front => exact (groupPart_frame t prev changed o .front s).1
  | rear => exact (groupPart_frame t prev changed o .rear s).1
  | edges => exact tooth_captureTooth t _ _ s
  | evaluation => exact (frame_evaluateIf changed s).tooth

theorem toothParts_frame (l : List ToothPart) (s : State) : ToothFrame s (l.foldl (toothPart t prev changed o) s) :=
  List.foldlRecOn l _ (ToothFrame.refl s) fun u hu x _ => hu.trans (toothPart_frame t prev changed o u x)

/-- Edge Capture is left by every part but the edges. -/
theorem toothPart_capture {x : ToothPart} (h : x ≠ .edges) (s : State) :
    (toothPart t prev changed o s x).ec = s.ec ∧ CamsKept s (toothPart t prev changed o s x) := by
  cases x with
  | front => exact (groupPart_frame t prev changed o .front s).2
  | rear => exact (groupPart_frame t prev changed o .rear s).2
  | edges => exact absurd rfl h
  | evaluation => exact ⟨(frame_evaluateIf changed s).ec, (frame_evaluateIf changed s).cams⟩

theorem toothParts_capture {l : List ToothPart} (h : .edges ∉ l) (s : State) :
    (l.foldl (toothPart t prev changed o) s).ec = s.ec ∧ CamsKept s (l.foldl (toothPart t prev changed o) s) := by
  refine List.foldlRecOn (motive := fun u => u.ec = s.ec ∧ CamsKept s u) l _ ⟨rfl, .refl s⟩ fun u hu x hx => ?_
  obtain ⟨hec, hcams⟩ := toothPart_capture t prev changed o (fun he => h (he ▸ hx)) u
  exact ⟨hec.trans hu.1, hu.2.trans hcams⟩

/-! ### The table under the parts -/

/-- The groups of a coverage whose part is among those given. -/
def Coverage.within (c : Coverage) (l : List ToothPart) : Coverage :=
  ⟨c.front && l.contains .front, c.rear && l.contains .rear⟩

theorem within_has (c : Coverage) (l : List ToothPart) (g : Group) :
    (c.within l).has g = (c.has g && l.contains (markPart g)) := by
  cases g <;> rfl

theorem coverage_ext {c c' : Coverage} (h : ∀ g, c.has g = c'.has g) : c = c' := by
  obtain ⟨f, r⟩ := c
  obtain ⟨f', r'⟩ := c'
  obtain rfl : f = f' := h .front
  obtain rfl : r = r' := h .rear
  rfl

theorem within_cons (c : Coverage) (x : ToothPart) (l : List ToothPart) :
    (c.within [x]).union (c.within l) = c.within (x :: l) := by
  refine coverage_ext fun g => ?_
  rw [union_has, within_has, within_has, within_has, List.contains_cons, List.contains_cons, List.contains_nil,
    Bool.or_false]
  cases c.has g <;> rfl

theorem within_part (c : Coverage) (g q : Group) : (c.within [markPart g]).has q = (c.has q && decide (q = g)) := by
  have hpart : [markPart g].contains (markPart q) = decide (q = g) := by
    cases g <;> cases q <;> rfl
  rw [within_has, hpart]

theorem markApply_slots (g : Group) (s : State) :
    (markApply g prev s.ad.angle s).rt.slots = s.rt.slots.map (Slot.applied ((s.crossing prev).within [markPart g])) := by
  cases hc : s.crossesMark prev g with
  | true =>
    have hcover : (s.crossing prev).within [markPart g] = Coverage.only g := by
      refine coverage_ext fun q => ?_
      rw [within_part, crossing_has, only_has]
      by_cases hq : q = g
      · rw [hq, hc, Bool.true_and]
      · rw [decide_eq_false hq, Bool.and_false]
    rw [markApply_crossing hc, applyGroups_slots, hcover]
  | false =>
    have hcover : (s.crossing prev).within [markPart g] = ⟨false, false⟩ := by
      refine coverage_ext fun q => ?_
      rw [within_part, crossing_has]
      by_cases hq : q = g
      · rw [hq, hc]
        cases g <;> rfl
      · rw [decide_eq_false hq, Bool.and_false]
        cases q <;> rfl
    rw [markApply_uncrossed hc, hcover, slots_map_nothing]

theorem groupPart_slots (g : Group) (s : State) :
    (toothPart t prev changed o s (markPart g)).rt.slots =
      s.rt.slots.map (Slot.applied ((s.crossing prev).within [markPart g])) := by
  rw [toothPart_group, ← markApply_slots]
  split
  · rw [(event_settleGroup Asker.byMark g _).rt]
  · rfl

theorem within_ungrouped (c : Coverage) {x : ToothPart} (h : ∀ g : Group, x ≠ markPart g) :
    c.within [x] = ⟨false, false⟩ := by
  refine coverage_ext fun g => ?_
  rw [within_has]
  have hx : ([x].contains (markPart g)) = false := by simpa using (h g).symm
  rw [hx, Bool.and_false]
  cases g <;> rfl

theorem toothPart_slots (s : State) (x : ToothPart) :
    (toothPart t prev changed o s x).rt.slots = s.rt.slots.map (Slot.applied ((s.crossing prev).within [x])) := by
  cases x with
  | front => exact groupPart_slots t prev changed o .front s
  | rear => exact groupPart_slots t prev changed o .rear s
  | edges =>
    rw [within_ungrouped _ (by intro g; cases g <;> decide), slots_map_nothing, toothPart_edges, rt_captureTooth]
  | evaluation =>
    rw [within_ungrouped _ (by intro g; cases g <;> decide), slots_map_nothing, toothPart_evaluation, rt_evaluateIf]

/-- The table after some parts: one apply of the crossed groups whose part is among them. -/
theorem toothParts_slots (l : List ToothPart) : ∀ s : State,
    (l.foldl (toothPart t prev changed o) s).rt.slots =
      s.rt.slots.map (Slot.applied ((s.crossing prev).within l)) := by
  induction l with
  | nil =>
    intro s
    have hnil : (s.crossing prev).within [] = ⟨false, false⟩ := by
      refine coverage_ext fun g => ?_
      rw [within_has, List.contains_nil, Bool.and_false]
      cases g <;> rfl
    rw [hnil, slots_map_nothing]
    rfl
  | cons x l ih =>
    intro s
    rw [List.foldl_cons, ih, toothPart_slots, (toothPart_frame t prev changed o s x).crossing, slots_map_applied,
      within_cons]

/-! ### One phaser under the parts -/

/-- The Resolver's record of a phaser changes in the part of its group alone. -/
theorem toothPart_resolver {p : Phaser} {x : ToothPart} (h : x ≠ markPart p.group) (s : State) :
    (toothPart t prev changed o s x).resolver p = s.resolver p := by
  have other (g : Group) (hg : p.group ≠ g) : (toothPart t prev changed o s (markPart g)).resolver p = s.resolver p := by
    have hmark : (markApply g prev s.ad.angle s).resolver p = s.resolver p := by
      cases hc : s.crossesMark prev g with
      | true => rw [markApply_crossing hc, (applyOnly_seenAlike hg .mark s).resolver]
      | false => rw [markApply_uncrossed hc]
    rw [toothPart_group]
    split
    · rw [(seenAlike_settleGroup hg Asker.byMark _).resolver, hmark]
    · exact hmark
  cases x with
  | front => exact other .front fun hg => h (by rw [hg]; rfl)
  | rear => exact other .rear fun hg => h (by rw [hg]; rfl)
  | edges => rw [toothPart_edges, (captureTooth_frame t _ _ s).resolver]; rfl
  | evaluation =>
    rw [toothPart_evaluation, evaluateIf]
    split
    · exact (frame_evaluateAll s).resolver p
    · rfl

theorem toothParts_resolver {p : Phaser} {l : List ToothPart} (h : (markPart p.group) ∉ l) (s : State) :
    (l.foldl (toothPart t prev changed o) s).resolver p = s.resolver p :=
  List.foldlRecOn (motive := fun u => u.resolver p = s.resolver p) l _ rfl fun u hu _ hx =>
    (toothPart_resolver t prev changed o (fun he => h (he ▸ hx)) u).trans hu

/-- Before the edges, and without an evaluation, nothing else of the phaser changes either. -/
theorem toothPart_seenAlike {p : Phaser} {x : ToothPart} (h : x ≠ markPart p.group) (he : x ≠ .edges) (s : State) :
    SeenAlike p s (toothPart t prev false o s x) := by
  have other (g : Group) (hg : p.group ≠ g) : SeenAlike p s (toothPart t prev false o s (markPart g)) := by
    have hmark : SeenAlike p s (markApply g prev s.ad.angle s) := by
      cases hc : s.crossesMark prev g with
      | true =>
        rw [markApply_crossing hc]
        exact applyOnly_seenAlike hg .mark s
      | false =>
        rw [markApply_uncrossed hc]
        exact .refl p s
    rw [toothPart_group]
    split
    · exact hmark.trans (seenAlike_settleGroup hg Asker.byMark _)
    · exact hmark
  cases x with
  | front => exact other .front fun hg => h (by rw [hg]; rfl)
  | rear => exact other .rear fun hg => h (by rw [hg]; rfl)
  | edges => exact absurd rfl he
  | evaluation => exact .refl p s

theorem toothParts_seenAlike {p : Phaser} {l : List ToothPart} (h : (markPart p.group) ∉ l) (he : .edges ∉ l) (s : State) :
    SeenAlike p s (l.foldl (toothPart t prev false o) s) :=
  List.foldlRecOn (motive := fun u => SeenAlike p s u) l _ (.refl p s) fun u hu _ hx =>
    hu.trans (toothPart_seenAlike t prev o (fun hx' => h (hx' ▸ hx)) (fun hx' => he (hx' ▸ hx)) u)

end Parts

/-! ### The order of the parts (log 7) -/

/-- Each order an operand chooses has every part once. -/
theorem toothParts_once : ∀ (a b c : Bool) (e : Fin 4),
    (toothParts ⟨a, b, c, e⟩).Nodup ∧ (toothParts ⟨a, b, c, e⟩).contains .front = true ∧
      (toothParts ⟨a, b, c, e⟩).contains .rear = true ∧ (toothParts ⟨a, b, c, e⟩).contains .edges = true := by
  decide

/-- A group placed before the edges stands before them. -/
theorem toothParts_first : ∀ (a b c : Bool) (e : Fin 4),
    (a = true → .edges ∉ (toothParts ⟨a, b, c, e⟩).takeWhile (· != .front)) ∧
      (b = true → .edges ∉ (toothParts ⟨a, b, c, e⟩).takeWhile (· != .rear)) := by
  decide

theorem split_once {x : ToothPart} {l : List ToothPart} (hn : l.Nodup) (hx : x ∈ l) :
    ∃ post, l = l.takeWhile (· != x) ++ x :: post ∧ x ∉ post := by
  induction l with
  | nil => cases hx
  | cons a l ih =>
    rw [List.nodup_cons] at hn
    by_cases ha : a = x
    · subst ha
      exact ⟨l, by simp, hn.1⟩
    · obtain ⟨post, hl, hpost⟩ := ih hn.2 ((List.mem_cons.mp hx).resolve_left (Ne.symm ha))
      have hhead : (a :: l).takeWhile (· != x) = a :: l.takeWhile (· != x) := by simp [ha]
      exact ⟨post, by rw [hhead, List.cons_append, ← hl], hpost⟩

theorem not_mem_takeWhile (x : ToothPart) (l : List ToothPart) : x ∉ l.takeWhile (· != x) := by
  intro h
  simpa using List.mem_takeWhile_imp h

/-- The parts before and after the edges. -/
theorem toothParts_edges (o : ToothOrder) :
    ∃ pre post, toothParts o = pre ++ .edges :: post ∧ .edges ∉ pre ∧ .edges ∉ post := by
  obtain ⟨hn, -, -, hedges⟩ := toothParts_once o.frontFirst o.rearFirst o.rearBeforeFront o.evaluation
  obtain ⟨post, hl, hpost⟩ := split_once hn (List.contains_iff_mem.mp hedges)
  exact ⟨_, post, hl, not_mem_takeWhile _ _, hpost⟩

theorem toothParts_contains (o : ToothOrder) (g : Group) : (toothParts o).contains (markPart g) = true := by
  obtain ⟨-, hfront, hrear, -⟩ := toothParts_once o.frontFirst o.rearFirst o.rearBeforeFront o.evaluation
  cases g
  · exact hfront
  · exact hrear

/-- The parts before and after the mark apply of a group. -/
theorem toothParts_group (o : ToothOrder) (g : Group) :
    ∃ pre post, toothParts o = pre ++ markPart g :: post ∧ markPart g ∉ pre ∧ markPart g ∉ post ∧
      (appliesFirst o g = true → .edges ∉ pre) := by
  obtain ⟨hn, -, -, -⟩ := toothParts_once o.frontFirst o.rearFirst o.rearBeforeFront o.evaluation
  obtain ⟨hfront, hrear⟩ := toothParts_first o.frontFirst o.rearFirst o.rearBeforeFront o.evaluation
  obtain ⟨post, hl, hpost⟩ := split_once hn (List.contains_iff_mem.mp (toothParts_contains o g))
  refine ⟨_, post, hl, not_mem_takeWhile _ _, hpost, ?_⟩
  cases g
  · exact hfront
  · exact hrear

/-- Of the evaluation and the edges, the one that an operand places first. -/
theorem toothParts_events : ∀ (a b c : Bool) (e : Fin 4),
    (toothParts ⟨a, b, c, e⟩).filter (fun x => x == .evaluation || x == .edges) =
      if e.val ≤ a.toNat + b.toNat then [.evaluation, .edges] else [.edges, .evaluation] := by
  decide

end Sys2Proof.Machine
end

section
/-! ## A tooth handed on within CYCLE_SYNC (R37 to R44, R79, R89, R96, R108) -/

namespace Sys2Proof.Machine

open Sys2Proof

/-! ### The part of a phaser's own group (R34, R39, R44) -/

/-- No apply's recompute is owed by a phaser of the group. -/
def State.quiet (s : State) (g : Group) : Prop :=
  ∀ p : Phaser, p.group = g → Asker.apply ∉ (s.resolver p).asked ∧ Asker.mark ∉ (s.resolver p).asked

theorem quiet_byMark {l : List Asker} (h : Asker.mark ∉ l) : l.any Asker.byMark = false := by
  rw [List.any_eq_false]
  intro a ha
  cases a with
  | apply => exact Bool.false_ne_true
  | mark => exact absurd ha h
  | expiry => exact Bool.false_ne_true

/-- The state after the mark apply of a quiet group, without its recomputes. -/
def State.marked (s : State) (g : Group) : State :=
  askAll .mark (Coverage.only g) s.rt.slots (s.setSlots (s.rt.slots.map (Slot.applied (Coverage.only g))))

theorem markApply_quiet {s : State} {prev : Nat} {g : Group} (hq : s.quiet g) (hc : s.crossesMark prev g = true) :
    markApply g prev s.ad.angle s = s.marked g := by
  rw [markApply_crossing hc]
  refine applyGroups_settled fun p hp => byApply_notAsked (hq p ?_)
  rwa [only_has, decide_eq_true_iff] at hp

theorem marked_resolver (s : State) (p : Phaser) :
    (s.marked p.group).resolver p =
      if s.rt.slots.pendingIn p.group = true then (s.resolver p).asking .mark (s.rt.slots.retireNotes p)
      else s.resolver p := by
  rw [State.marked, askAll_resolver, only_has, decide_eq_true rfl, Bool.true_and]
  rfl

theorem marked_unchanged {s : State} {g : Group} (h : s.rt.slots.pendingIn g = false) {p : Phaser} (hp : p.group = g) :
    (s.marked g).resolver p = s.resolver p := by
  subst hp
  rw [marked_resolver, h]
  rfl

theorem marked_records (s : State) (g : Group) (p : Phaser) :
    (s.marked g).phaser p = s.phaser p ∧ (s.marked g).loop p = s.loop p := by
  rw [State.marked, askAll_frame]
  exact ⟨rfl, rfl⟩

section Parts
variable (t : Tick) (prev : Nat) (changed : Bool) (o : ToothOrder)

/-- A mark apply that is not crossed, or that changes no record, asks for nothing. -/
theorem groupPart_idle {s : State} {p : Phaser} (hq : s.quiet p.group)
    (h : ¬ (s.crossesMark prev p.group = true ∧ s.rt.slots.pendingIn p.group = true)) :
    (toothPart t prev changed o s (markPart p.group)).resolver p = s.resolver p := by
  have hmark : ∀ q : Phaser, q.group = p.group → (markApply p.group prev s.ad.angle s).resolver q = s.resolver q := by
    intro q hgroup
    cases hc : s.crossesMark prev p.group with
    | false => rw [markApply_uncrossed hc]
    | true =>
      rw [markApply_quiet hq hc]
      exact marked_unchanged (Bool.eq_false_iff.mpr fun hp => h ⟨hc, hp⟩) hgroup
  rw [toothPart_group]
  split
  · rw [settleGroup_quiet fun q hgroup => quiet_byMark (by rw [hmark q hgroup]; exact (hq q hgroup).2)]
    exact hmark p rfl
  · exact hmark p rfl

/-- Placed after the edges, the apply asks for a recompute, with a note for each SETPOINT it freed. -/
theorem groupPart_asks {s : State} {p : Phaser} (hq : s.quiet p.group) (hc : s.crossesMark prev p.group = true)
    (hp : s.rt.slots.pendingIn p.group = true) (hfirst : appliesFirst o p.group = false) :
    (toothPart t prev changed o s (markPart p.group)).resolver p =
      (s.resolver p).asking .mark (s.rt.slots.retireNotes p) := by
  rw [toothPart_group, hfirst, markApply_quiet hq hc]
  exact (marked_resolver s p).trans (if_pos hp)

/-- Placed before the edges, it takes the recompute with it. -/
theorem groupPart_takes {s : State} {p : Phaser} (hq : s.quiet p.group) (hc : s.crossesMark prev p.group = true)
    (hp : s.rt.slots.pendingIn p.group = true) (hfirst : appliesFirst o p.group = true) :
    ((toothPart t prev changed o s (markPart p.group)).resolver p).asked = [] ∧
    ((toothPart t prev changed o s (markPart p.group)).resolver p).notes = [] ∧
    ((s.resolver p).asked = [] → (toothPart t prev changed o s (markPart p.group)).resolver p =
      (s.setSlots (toothPart t prev changed o s (markPart p.group)).rt.slots).recomputed p
        { s.resolver p with asked := [], notes := (s.resolver p).notes ++ s.rt.slots.retireNotes p }) := by
  have hasked : (s.marked p.group).resolver p = (s.resolver p).asking .mark (s.rt.slots.retireNotes p) :=
    (marked_resolver s p).trans (if_pos hp)
  have hpart : toothPart t prev changed o s (markPart p.group) =
      settleGroup Asker.byMark p.group (s.marked p.group) := by
    rw [toothPart_group, hfirst, markApply_quiet hq hc]
    rfl
  obtain ⟨a, hsame, hrt, hresolver⟩ := settleGroup_member Asker.byMark p (s.marked p.group)
  have ha : (a.resolver p) = (s.resolver p).asking .mark (s.rt.slots.retireNotes p) := hsame.resolver.trans hasked
  rw [hpart, hresolver]
  have howed : (a.resolver p).asked.any Asker.byMark = true := by
    rw [ha]
    simp [Resolver.asking, Asker.byMark]
  refine ⟨(settle_owed howed).1, (settle_owed howed).2, fun hnil => ?_⟩
  have hone : (a.resolver p).asked = [.mark] := by
    rw [ha, Resolver.asking, hnil]
    rfl
  obtain ⟨hphaser, hloop⟩ := marked_records s p.group p
  have hslots : (settleGroup Asker.byMark p.group (s.marked p.group)).rt.slots = a.rt.slots := by
    rw [(event_settleGroup Asker.byMark p.group _).rt, hrt]
  rw [settle_one hone rfl, ha, hslots]
  simp only [State.recomputed, hsame.phaser, hsame.loop, hphaser, hloop, setSlots_slots, setSlots_phaser_frame,
    setSlots_loop_frame]
  rfl

/-! ### A phaser through the whole tooth -/

theorem toothParts_quiet {g : Group} {l : List ToothPart} (h : markPart g ∉ l) {s : State} (hq : s.quiet g) :
    (l.foldl (toothPart t prev changed o) s).quiet g := by
  intro p hp
  rw [toothParts_resolver t prev changed o (by rwa [hp]) s]
  exact hq p hp

/-- The records of a group stand as they were until the part of the group. -/
theorem toothParts_agree {p : Phaser} {l : List ToothPart} (h : markPart p.group ∉ l) (s : State) :
    (l.foldl (toothPart t prev changed o) s).rt.slots.agreeOn s.rt.slots p := by
  rw [toothParts_slots]
  refine agreeOn_uncovered ?_ _
  rw [within_has, List.contains_eq_mem, decide_eq_false h, Bool.and_false]

/-- The Resolver's record of a phaser after all parts is the one that its group's part leaves, taken in a state in which its
own records and its group's records of the table are those before the tooth. -/
theorem toothParts_member (p : Phaser) (s : State) : ∃ v : State,
    ((toothParts o).foldl (toothPart t prev changed o) s).resolver p =
      (toothPart t prev changed o v (markPart p.group)).resolver p ∧
    ToothFrame s v ∧ v.resolver p = s.resolver p ∧ (s.quiet p.group → v.quiet p.group) ∧
    (∀ q : Phaser, q.group = p.group → v.rt.slots.agreeOn s.rt.slots q) ∧
    (toothPart t prev changed o v (markPart p.group)).rt.slots.agreeOn
      ((toothParts o).foldl (toothPart t prev changed o) s).rt.slots p ∧
    (appliesFirst o p.group = true → changed = false → SeenAlike p s v) := by
  obtain ⟨pre, post, hparts, hpre, hpost, hfirst⟩ := toothParts_group o p.group
  refine ⟨pre.foldl (toothPart t prev changed o) s, ?_, toothParts_frame t prev changed o pre s,
    toothParts_resolver t prev changed o hpre s, toothParts_quiet t prev changed o hpre, fun q hgroup => ?_, ?_,
    fun hf hchanged => ?_⟩
  · rw [hparts, List.foldl_append, List.foldl_cons]
    exact toothParts_resolver t prev changed o hpost _
  · exact toothParts_agree t prev changed o (by rwa [hgroup]) s
  · have hthis := toothParts_slots t prev changed o (pre ++ [markPart p.group]) s
    rw [List.foldl_append, List.foldl_cons, List.foldl_nil] at hthis
    rw [hthis, toothParts_slots]
    refine agreeOn_applied ?_ _
    rw [within_has, within_has, toothParts_contains]
    simp
  · subst hchanged
    exact toothParts_seenAlike t prev o hpre (hfirst hf) s

/-- Where nothing is owed by an earlier tooth, a tooth begins with its parts. -/
theorem handTooth_unowed {s : State} (h : ∀ p, Asker.mark ∉ (s.resolver p).asked) :
    handTooth t prev changed o s = (toothParts o).foldl (toothPart t prev changed o) s := by
  have hquiet (g : Group) : settleGroup Asker.byMark g s = s :=
    settleGroup_quiet fun p _ => quiet_byMark (h p)
  rw [handTooth, hquiet .front, hquiet .rear]

/-! ### The whole tooth -/

theorem handTooth_settled (s : State) : ∃ u, SettleFrame s u ∧
    handTooth t prev changed o s = (toothParts o).foldl (toothPart t prev changed o) u :=
  ⟨_, (frame_settleGroup _ .front s).trans (frame_settleGroup _ .rear _), rfl⟩

theorem handTooth_frame (s : State) : ToothFrame s (handTooth t prev changed o s) := by
  obtain ⟨u, hu, hparts⟩ := handTooth_settled t prev changed o s
  rw [hparts]
  exact hu.tooth.trans (toothParts_frame t prev changed o _ u)

/-- The table after a tooth: one apply of the crossed groups. -/
theorem handTooth_slots (s : State) :
    (handTooth t prev changed o s).rt.slots = s.rt.slots.map (Slot.applied (s.crossing prev)) := by
  obtain ⟨u, hu, hparts⟩ := handTooth_settled t prev changed o s
  have hall : (s.crossing prev).within (toothParts o) = s.crossing prev := by
    refine coverage_ext fun g => ?_
    rw [within_has, toothParts_contains, Bool.and_true]
  rw [hparts, toothParts_slots, hu.tooth.crossing, hall, hu.event.rt]

/-- Edge Capture at the edges of a tooth: what came before left it, and what comes after leaves it. -/
theorem handTooth_edges (s : State) : ∃ v, ToothFrame s v ∧ v.ec = s.ec ∧ CamsKept s v ∧
    (handTooth t prev changed o s).ec = (captureTooth t s.ad.angle s.ad.span v).ec ∧
    CamsKept (captureTooth t s.ad.angle s.ad.span v) (handTooth t prev changed o s) := by
  obtain ⟨u, hu, hparts⟩ := handTooth_settled t prev changed o s
  obtain ⟨pre, post, hsplit, hpre, hpost⟩ := toothParts_edges o
  have hframe := hu.tooth.trans (toothParts_frame t prev changed o pre u)
  obtain ⟨hec, hcams⟩ := toothParts_capture t prev changed o hpre u
  have hafter := toothParts_capture t prev changed o hpost
    (captureTooth t s.ad.angle s.ad.span (pre.foldl (toothPart t prev changed o) u))
  refine ⟨_, hframe, hec.trans hu.ec, hu.cams.trans hcams, ?_⟩
  rw [hparts, hsplit, List.foldl_append, List.foldl_cons, toothPart_edges, hframe.ad]
  exact hafter

theorem handTooth_bracket (s : State) : (handTooth t prev changed o s).ec.bracket = some ⟨t, s.ad.angle⟩ := by
  obtain ⟨v, -, -, -, hec, -⟩ := handTooth_edges t prev changed o s
  rw [hec, (captureTooth_frame t _ _ v).bracket]
  rfl

theorem handTooth_camView {s : State} {b : Bracket} (h : s.ec.bracket = some b) (c : Phaser) :
    (handTooth t prev changed o s).camView c =
      ((s.camView c).completed b t s.ad.span (s.lowEnd c) (s.highEnd c)).tested (s.resolver c).amin s.ec.margin
        s.ec.lostCount b.angle s.ad.angle := by
  obtain ⟨v, hframe, hec, hcams, -, hafter⟩ := handTooth_edges t prev changed o s
  rw [hafter c, captureTooth_camView (by rw [hec, h]), hcams c, hframe.lowEnd, hframe.highEnd, hframe.amin,
    hframe.margin, hframe.lostCount]

/-! ### A tooth that crosses no mark and finds nothing owed -/

/-- No mark angle is crossed, and no recompute of an earlier crossing is owed. -/
structure Calm (s : State) : Prop where
  crosses : ∀ g, s.crossesMark prev g = false
  owed : ∀ p, Asker.mark ∉ (s.resolver p).asked

variable {prev}

theorem Calm.groupPart {s : State} (h : Calm prev s) (g : Group) : toothPart t prev changed o s (markPart g) = s := by
  rw [toothPart_group, markApply_uncrossed (h.crosses g), settleGroup_quiet fun p _ => quiet_byMark (h.owed p), ite_self]

theorem Calm.toothPart {s : State} (h : Calm prev s) (x : ToothPart) : Calm prev (toothPart t prev changed o s x) := by
  have hcrosses (u : State) (hu : ToothFrame s u) (g : Group) : u.crossesMark prev g = false := by
    rw [hu.crossesMark, h.crosses]
  cases x with
  | front => exact (h.groupPart t changed o .front).symm ▸ h
  | rear => exact (h.groupPart t changed o .rear).symm ▸ h
  | edges =>
    refine ⟨hcrosses _ (toothPart_frame t prev changed o s .edges), fun p => ?_⟩
    rw [toothPart_resolver t prev changed o (by cases p <;> decide)]
    exact h.owed p
  | evaluation =>
    refine ⟨hcrosses _ (toothPart_frame t prev changed o s .evaluation), fun p => ?_⟩
    rw [toothPart_resolver t prev changed o (by cases p <;> decide)]
    exact h.owed p

/-- At a calm tooth only the evaluation and the edges act. -/
theorem Calm.toothParts {l : List ToothPart} : ∀ {s : State}, Calm prev s →
    l.foldl (Machine.toothPart t prev changed o) s =
      (l.filter fun x => x == .evaluation || x == .edges).foldl (Machine.toothPart t prev changed o) s := by
  induction l with
  | nil => exact fun _ => rfl
  | cons x l ih =>
    intro s h
    have hrest := ih (h.toothPart t changed o x)
    cases x with
    | front =>
      have hidle : Machine.toothPart t prev changed o s .front = s := h.groupPart t changed o .front
      rw [List.foldl_cons, hrest, hidle]
      rfl
    | rear =>
      have hidle : Machine.toothPart t prev changed o s .rear = s := h.groupPart t changed o .rear
      rw [List.foldl_cons, hrest, hidle]
      rfl
    | edges => exact hrest
    | evaluation => exact hrest

/-- A calm tooth: the evaluation and the edges in the operand's order. -/
theorem handTooth_calm {s : State} (h : Calm prev s) :
    handTooth t prev changed o s =
      if o.evaluation.val ≤ o.frontFirst.toNat + o.rearFirst.toNat then
        captureTooth t s.ad.angle s.ad.span (evaluateIf changed s)
      else evaluateIf changed (captureTooth t s.ad.angle s.ad.span s) := by
  rw [handTooth_unowed t prev changed o h.owed, h.toothParts,
    toothParts_events o.frontFirst o.rearFirst o.rearBeforeFront o.evaluation]
  split
  · simp only [List.foldl_cons, List.foldl_nil, toothPart_edges, toothPart_evaluation, (frame_evaluateIf changed s).ad]
  · rfl

end Parts

/-! ### A tooth without edges and without window ends -/

theorem completeCam_empty {c : Phaser} {s : State} (h : (s.cam c).queue = []) (b : Bracket) (t1 : Tick) (span : Nat) :
    completeCam b t1 span c s = s := by
  have hcam : s.setCam c { s.cam c with queue := [] } = s := by
    rw [← h]
    unfold State.setCam State.cam
    rw [quad_set_get]
  unfold completeCam
  rw [h, List.foldl_nil, ← h]
  rw [← h] at hcam
  exact hcam

theorem testWindowEnd_uncrossed {c : Phaser} {prev now k : Nat} {s : State}
    (h : crossed (windowEnd ((s.cam c).teeth.getD k 0) (s.resolver c).amin s.ec.margin) prev now = false) :
    testWindowEnd c prev now k s = s := by
  unfold testWindowEnd
  rw [h]
  rfl

theorem testCam_uncrossed {c : Phaser} {prev now : Nat} {s : State}
    (h : ∀ k, k < (s.cam c).teeth.length →
      crossed (windowEnd ((s.cam c).teeth.getD k 0) (s.resolver c).amin s.ec.margin) prev now = false) :
    testCam prev now c s = s := by
  unfold testCam
  refine List.foldlRecOn (motive := fun u => u = s) _ _ rfl fun u hu k hk => ?_
  rw [hu]
  exact testWindowEnd_uncrossed (h k (List.mem_range.mp hk))

/-- With the queues empty and no window end crossed, the tooth becomes the bracketing tooth and nothing else changes. -/
theorem captureTooth_still {s : State} {angle : Nat} (hqueue : ∀ c, (s.cam c).queue = [])
    (hend : ∀ b, s.ec.bracket = some b → ∀ c k, k < (s.cam c).teeth.length →
      crossed (windowEnd ((s.cam c).teeth.getD k 0) (s.resolver c).amin s.ec.margin) b.angle angle = false)
    (t : Tick) (span : Nat) : captureTooth t angle span s = s.setBracket (some ⟨t, angle⟩) := by
  cases hb : s.ec.bracket with
  | none => exact captureTooth_first hb t angle span
  | some b =>
    have hcam (c : Phaser) : testCam b.angle angle c (s.setBracket (some ⟨t, angle⟩)) =
        s.setBracket (some ⟨t, angle⟩) := testCam_uncrossed (hend b hb c)
    rw [captureTooth_next hb]
    simp only [completeEdges, completeCam_empty (hqueue _), testWindowEnds, hcam]

end Sys2Proof.Machine
end

section
/-! ## A phaser of a crossed group, and a calm tooth as a whole (R34, R39, R44, R108) -/

namespace Sys2Proof.Machine

open Sys2Proof

section Tooth
variable {t : Tick} {prev : Nat} {changed : Bool} {o : ToothOrder} {s : State}

theorem handTooth_unasked (hq : ∀ g, s.quiet g) {p : Phaser}
    (h : ¬ (s.crossesMark prev p.group = true ∧ s.rt.slots.pendingIn p.group = true)) :
    (handTooth t prev changed o s).resolver p = s.resolver p := by
  obtain ⟨v, hlast, hframe, hsame, hquiet, hagree, -, -⟩ := toothParts_member t prev changed o p s
  rw [handTooth_unowed t prev changed o fun q => (hq q.group q rfl).2, hlast]
  refine (groupPart_idle t prev changed o (hquiet (hq _)) ?_).trans hsame
  rwa [hframe.crossesMark, pendingIn_agree hagree]

/-- The recompute asked for at a crossing, with its notes, and taken at once where the operand places the apply first. -/
theorem handTooth_asked (hq : ∀ g, s.quiet g) {p : Phaser} (hc : s.crossesMark prev p.group = true)
    (hp : s.rt.slots.pendingIn p.group = true) : ∃ notes,
    (∀ n, n ∈ notes ↔ n ∈ s.rt.slots.retireNotes p) ∧
    (appliesFirst o p.group = false →
      (handTooth t prev changed o s).resolver p = (s.resolver p).asking .mark notes) ∧
    (appliesFirst o p.group = true →
      ((handTooth t prev changed o s).resolver p).asked = [] ∧ ((handTooth t prev changed o s).resolver p).notes = [] ∧
      ((s.resolver p).asked = [] → changed = false → (handTooth t prev changed o s).resolver p =
        (s.setSlots (handTooth t prev changed o s).rt.slots).recomputed p
          { s.resolver p with asked := [], notes := (s.resolver p).notes ++ notes })) := by
  obtain ⟨v, hlast, hframe, hsame, hquiet, hagree, hafter, hseen⟩ := toothParts_member t prev changed o p s
  rw [handTooth_unowed t prev changed o fun q => (hq q.group q rfl).2, hlast, ← hsame]
  rw [← hframe.crossesMark] at hc
  rw [← pendingIn_agree hagree] at hp
  refine ⟨v.rt.slots.retireNotes p, mem_retireNotes_agree (hagree p rfl),
    groupPart_asks t prev changed o (hquiet (hq _)) hc hp, fun hfirst => ?_⟩
  obtain ⟨hnone, hnotes, hone⟩ := groupPart_takes t prev changed o (hquiet (hq _)) hc hp hfirst
  refine ⟨hnone, hnotes, fun hnil hchanged => (hone hnil).trans ?_⟩
  have halike := hseen hfirst hchanged
  rw [State.recomputed, State.recomputed, setSlots_phaser_frame, setSlots_phaser_frame, setSlots_loop_frame,
    setSlots_loop_frame, halike.phaser, halike.loop]
  exact hafter.next _ _ _

/-- A calm tooth as a whole: the evaluation before the edges or after them. -/
theorem handTooth_whole (h : Calm prev s) {b : Bracket} (hb : s.ec.bracket = some b) :
    handTooth t prev changed o s =
      evaluateIf (!decide (o.evaluation.val ≤ o.frontFirst.toNat + o.rearFirst.toNat) && changed)
        (testWindowEnds b.angle s.ad.angle
          ((completeEdges b t s.ad.span
            (evaluateIf (decide (o.evaluation.val ≤ o.frontFirst.toNat + o.rearFirst.toNat) && changed) s)).setBracket
              (some ⟨t, s.ad.angle⟩))) := by
  rw [handTooth_calm t changed o h]
  split
  · rename_i hfirst
    rw [captureTooth_next (by rw [(frame_evaluateIf changed s).ec, hb]), decide_eq_true hfirst, Bool.true_and]
    rfl
  · rename_i hfirst
    rw [captureTooth_next hb, decide_eq_false hfirst, Bool.not_false, Bool.true_and, Bool.false_and]
    rfl

theorem SeenAlike.setBracket (p : Phaser) (s : State) (b : Option Bracket) : SeenAlike p s (s.setBracket b) :=
  .of_blocks p rfl rfl rfl rfl rfl

theorem evaluated_bracket {p : Phaser} {s u : State} (h : evaluated p s u) (b : Option Bracket) :
    evaluated p s (u.setBracket b) :=
  evaluated_after (.setBracket p u b) rfl rfl rfl h

/-- A calm tooth with empty queues and no window end crossed evaluates the phasers as they stand. -/
theorem handTooth_still (h : Calm prev s) (hqueue : ∀ c, (s.cam c).queue = [])
    (hend : ∀ b, s.ec.bracket = some b → ∀ c k, k < (s.cam c).teeth.length →
      crossed (windowEnd ((s.cam c).teeth.getD k 0) (s.resolver c).amin s.ec.margin) b.angle s.ad.angle = false)
    (p : Phaser) : evaluated p s (handTooth t prev true o s) := by
  have still (u : State) (hu : SeqFrame s u) :
      captureTooth t s.ad.angle s.ad.span u = u.setBracket (some ⟨t, s.ad.angle⟩) := by
    refine captureTooth_still (fun c => by rw [hu.cam, hqueue]) (fun b hb c k hk => ?_) t _
    rw [hu.ec] at hb ⊢
    rw [hu.cam] at hk ⊢
    rw [hu.resolver]
    exact hend b hb c k hk
  rw [handTooth_calm t true o h]
  split
  · exact (still _ (frame_evaluateAll s)).symm ▸ evaluated_bracket (evaluated_evaluateAll p s) _
  · rw [still s (.refl s)]
    exact evaluated_before (.setBracket p s _) (evaluated_evaluateAll p _)

end Tooth

end Sys2Proof.Machine
end

section
/-! ## Every accepted crank tooth (R66, R69 to R79, R91, R124) -/

namespace Sys2Proof.Machine

open Sys2Proof

/-! ### The decoder's new record stored (R69, R76, R80) -/

/-- The decoder's record after a tooth. -/
def State.nextDecoder (s : State) (t : Tick) : Decoder := s.ad.tooth t s.syncCounts.1 s.syncCounts.2

/-- The tooth ends a revolution whose count mismatches. -/
def State.doubted (s : State) (t : Tick) : Bool := s.ad.doubts t s.syncCounts.1 s.syncCounts.2

/-- The tooth changes the engine speed. -/
def State.speedChanges (s : State) (t : Tick) : Bool := decide ((s.nextDecoder t).speed ≠ s.ad.speed)

/-- The conditions and events of DEV after a tooth. -/
def State.toothDev (s : State) (t : Tick) : DevGroup :=
  { s.cm.dev with
    cycleSync := s.cm.dev.cycleSync.drive (decide ((s.nextDecoder t).sync = .cycleSync)),
    engineStopped := s.cm.dev.engineStopped.drive (decide ((s.nextDecoder t).sync = .stopped)),
    syncDoubt := if s.doubted t then latchEvent s.cm.dev.syncDoubt () else s.cm.dev.syncDoubt }

/-- The state in which a tooth is handed on: a departure handled, the new record stored, its conditions declared. -/
def State.stored (s : State) (t : Tick) : State :=
  ((handleDeparture s).setDecoder (s.nextDecoder t)).setDev (s.toothDev t)

theorem handleDeparture_none {s : State} (h : s.ps.departed = false) : handleDeparture s = s := by
  unfold handleDeparture
  rw [h]
  rfl

theorem storeTooth_handled (s : State) (t : Tick) :
    storeTooth (s.nextDecoder t) (s.doubted t) (handleDeparture s) = s.stored t := by
  obtain ⟨u, hu, hhandled⟩ := frame_handleDeparture s
  have hdev : (handleDeparture s).cm.dev = s.cm.dev := by rw [hhandled]; exact hu.dev
  unfold storeTooth State.stored State.toothDev
  rw [← hdev]
  cases s.doubted t <;> rfl

/-- What the storing leaves as it was. -/
theorem stored_frame (s : State) (t : Tick) :
    (s.stored t).rt = s.rt ∧ (s.stored t).tr = s.tr ∧ (s.stored t).ec = s.ec ∧ (s.stored t).fp = s.fp ∧
      (s.stored t).counter = s.counter ∧ (s.stored t).msTicks = s.msTicks ∧ CamsKept s (s.stored t) := by
  obtain ⟨u, hu, hhandled⟩ := frame_handleDeparture s
  have hcams : CamsKept s (s.stored t) := (cams_handleDeparture s).trans (.of_blocks rfl rfl)
  refine ⟨?_, ?_, ?_, ?_, ?_, ?_, hcams⟩
  all_goals unfold State.stored; rw [hhandled]
  · exact hu.rt
  · exact hu.tr
  · exact hu.ec
  · exact hu.fp
  · exact hu.counter
  · exact hu.msTicks

theorem stored_undeparted {s : State} (h : s.ps.departed = false) (t : Tick) :
    s.stored t = (s.setDecoder (s.nextDecoder t)).setDev (s.toothDev t) := by
  rw [State.stored, handleDeparture_none h]

/-! ### The four ways a tooth is handed on (R77, R79, R89, R91) -/

/-- A stored tooth handed on by the sync states before and after it. -/
def State.handedOn (s : State) (t : Tick) (o : ToothOrder) : State :=
  match s.ad.sync, (s.nextDecoder t).sync with
  | .cycleSync, .cycleSync => handTooth t s.ad.angle (s.speedChanges t) o (s.stored t)
  | .cycleSync, _ => evaluateIf (s.speedChanges t && decide (o.evaluation = 0)) (captureDeparture (s.stored t))
  | _, .cycleSync => evaluateAll (captureEntry t (s.nextDecoder t).angle (s.stored t))
  | _, _ => evaluateIf (s.speedChanges t) (s.stored t)

theorem crankTooth_stored (t : Tick) (o : ToothOrder) (s : State) : crankTooth t o s = s.handedOn t o := by
  obtain ⟨u, hu, hhandled⟩ := frame_handleDeparture s
  have had : (handleDeparture s).ad = s.ad := by rw [hhandled]; exact hu.ad
  have hcounts : (handleDeparture s).syncCounts = s.syncCounts := by
    have hec : (handleDeparture s).ec = s.ec := by rw [hhandled]; exact hu.ec
    unfold State.syncCounts State.cam
    rw [had, hec]
  have hstored := storeTooth_handled s t
  unfold State.nextDecoder State.doubted at hstored
  unfold crankTooth
  dsimp only
  rw [had, hcounts, hstored]
  rfl

section Cases
variable {t : Tick} {s : State} (o : ToothOrder)

theorem crankTooth_within (h : s.ad.sync = .cycleSync) (h' : (s.nextDecoder t).sync = .cycleSync) :
    crankTooth t o s = handTooth t s.ad.angle (s.speedChanges t) o (s.stored t) := by
  rw [crankTooth_stored, State.handedOn, h, h']

theorem crankTooth_leaving (h : s.ad.sync = .cycleSync) (h' : (s.nextDecoder t).sync ≠ .cycleSync) :
    crankTooth t o s =
      evaluateIf (s.speedChanges t && decide (o.evaluation = 0)) (captureDeparture (s.stored t)) := by
  rw [crankTooth_stored, State.handedOn, h]
  cases hn : (s.nextDecoder t).sync with
  | cycleSync => exact absurd hn h'
  | _ => rfl

theorem crankTooth_entering (h : s.ad.sync ≠ .cycleSync) (h' : (s.nextDecoder t).sync = .cycleSync) :
    crankTooth t o s = evaluateAll (captureEntry t (s.nextDecoder t).angle (s.stored t)) := by
  rw [crankTooth_stored, State.handedOn, h']
  cases hs : s.ad.sync with
  | cycleSync => exact absurd hs h
  | _ => rfl

theorem crankTooth_outside (h : s.ad.sync ≠ .cycleSync) (h' : (s.nextDecoder t).sync ≠ .cycleSync) :
    crankTooth t o s = evaluateIf (s.speedChanges t) (s.stored t) := by
  rw [crankTooth_stored, State.handedOn]
  cases hs : s.ad.sync with
  | cycleSync => exact absurd hs h
  | _ =>
    cases hn : (s.nextDecoder t).sync with
    | cycleSync => exact absurd hn h'
    | _ => rfl

end Cases

end Sys2Proof.Machine
end

section
/-! ## What a crank tooth hands on, clause by clause (R34, R37 to R39, R76, R77, R79, R91, R108) -/

namespace Sys2Proof.Machine

open Sys2Proof

/-! ### The transition accepted (R66) -/

theorem crankTransition_accepted {s : State} {held : Nat} (hp : s.ad.pulseOpen = false) (hh : 16 ≤ held) (t : Tick)
    (o : ToothOrder) : crankTransition s.ad.crankRises held t o s = crankTooth t o s := by
  have hfilter : filterInput s.ad.pulseOpen held = (true, false) := by
    rw [filterInput, hp]
    exact if_neg (Nat.not_lt.mpr hh)
  have hsame : s.setDecoder { s.ad with pulseOpen := false } = s := by
    rw [← hp]
    rfl
  unfold crankTransition
  dsimp only
  rw [hfilter, hsame]
  exact if_pos ⟨rfl, rfl⟩

section Clauses
variable (t : Tick) (o : ToothOrder) (s : State)

/-! ### What every tooth leaves and declares -/

theorem tooth_captureDeparture (u : State) : ToothFrame u (captureDeparture u) :=
  ⟨rfl, rfl, rfl, rfl, rfl, rfl, rfl, rfl, rfl, fun _ => rfl, fun _ => rfl⟩

theorem tooth_captureEntry (angle : Nat) (u : State) : ToothFrame u (captureEntry t angle u) :=
  ⟨rfl, rfl, rfl, rfl, rfl, rfl, rfl, rfl, rfl, fun _ => rfl, fun _ => rfl⟩

theorem frame_evaluation (u : State) : SettleFrame u (evaluateAll u) := frame_evaluateIf true u

theorem crankTooth_frame : ToothFrame (s.stored t) (crankTooth t o s) := by
  by_cases h : s.ad.sync = .cycleSync
  · by_cases h' : (s.nextDecoder t).sync = .cycleSync
    · rw [crankTooth_within o h h']
      exact handTooth_frame t _ _ o _
    · rw [crankTooth_leaving o h h']
      exact (tooth_captureDeparture _).trans (frame_evaluateIf _ _).tooth
  · by_cases h' : (s.nextDecoder t).sync = .cycleSync
    · rw [crankTooth_entering o h h']
      exact (tooth_captureEntry t _ _).trans (frame_evaluation _).tooth
    · rw [crankTooth_outside o h h']
      exact (frame_evaluateIf _ _).tooth

theorem crankTooth_fields : (crankTooth t o s).ad = s.nextDecoder t ∧ (crankTooth t o s).cm.dev = s.toothDev t ∧
    (crankTooth t o s).fp = s.fp ∧ (crankTooth t o s).counter = s.counter ∧
    (crankTooth t o s).msTicks = s.msTicks := by
  obtain ⟨-, -, -, hfp, hcounter, hms, -⟩ := stored_frame s t
  have h := crankTooth_frame t o s
  exact ⟨h.ad, h.dev, h.fp.trans hfp, h.counter.trans hcounter, h.msTicks.trans hms⟩

/-! ### A tooth not within CYCLE_SYNC (R77, R91) -/

theorem evaluateIf_seq (b : Bool) (u : State) : SeqFrame u (evaluateIf b u) := by
  unfold evaluateIf
  split
  · exact frame_evaluateAll u
  · exact .refl u

variable {t s}

theorem crankTooth_leaves (h : s.ad.sync = .cycleSync) (h' : (s.nextDecoder t).sync ≠ .cycleSync) :
    (crankTooth t o s).ps.departed = true ∧ (crankTooth t o s).rt = s.rt ∧ (crankTooth t o s).tr = s.tr ∧
    (crankTooth t o s).ec.bracket = none ∧
    ∀ c, (crankTooth t o s).cam c = { s.cam c with queue := [], miss := 0 } := by
  obtain ⟨hrt, htr, hec, -, -, -, -⟩ := stored_frame s t
  have hseq := evaluateIf_seq (s.speedChanges t && decide (o.evaluation = 0)) (captureDeparture (s.stored t))
  rw [crankTooth_leaving o h h']
  refine ⟨hseq.departed, hseq.rt.trans hrt, hseq.tr.trans htr, ?_, fun c => ?_⟩
  · rw [hseq.ec]
    rfl
  · rw [hseq.cam]
    unfold State.cam
    rw [← hec]
    exact quad_get_map Cam.departed _ c

theorem crankTooth_enters (h : s.ad.sync ≠ .cycleSync) (h' : (s.nextDecoder t).sync = .cycleSync) :
    (crankTooth t o s).rt = s.rt ∧ (crankTooth t o s).tr = s.tr ∧
    (crankTooth t o s).ec.bracket = some ⟨t, (s.nextDecoder t).angle⟩ ∧
    ∀ c, (crankTooth t o s).cam c = { s.cam c with miss := 0, marks := (s.cam c).marks.map fun _ => true } := by
  obtain ⟨hrt, htr, hec, -, -, -, -⟩ := stored_frame s t
  have hseq := frame_evaluateAll (captureEntry t (s.nextDecoder t).angle (s.stored t))
  rw [crankTooth_entering o h h']
  refine ⟨hseq.rt.trans hrt, hseq.tr.trans htr, ?_, fun c => ?_⟩
  · rw [hseq.ec]
    rfl
  · rw [hseq.cam]
    unfold State.cam
    rw [← hec]
    exact quad_get_map Cam.entered _ c

theorem crankTooth_stays (h : s.ad.sync ≠ .cycleSync) (h' : (s.nextDecoder t).sync ≠ .cycleSync) :
    (crankTooth t o s).rt = s.rt ∧ (crankTooth t o s).tr = s.tr ∧ (crankTooth t o s).ec = s.ec := by
  obtain ⟨hrt, htr, hec, -, -, -, -⟩ := stored_frame s t
  have hseq := evaluateIf_seq (s.speedChanges t) (s.stored t)
  rw [crankTooth_outside o h h']
  exact ⟨hseq.rt.trans hrt, hseq.tr.trans htr, hseq.ec.trans hec⟩

/-- The causes of an evaluation at a tooth: an entry to CYCLE_SYNC, or a changed speed; at a tooth that leaves CYCLE_SYNC only
in the operand's first place. -/
def State.evaluates (s : State) (t : Tick) (o : ToothOrder) : Prop :=
  (s.ad.sync ≠ .cycleSync ∧ (s.nextDecoder t).sync = .cycleSync) ∨
  ((s.nextDecoder t).speed ≠ s.ad.speed ∧
    (s.ad.sync = .cycleSync → (s.nextDecoder t).sync ≠ .cycleSync → o.evaluation = 0))

/-- The records of the phasers before the evaluation of a tooth that is not within CYCLE_SYNC are those before the tooth. -/
structure PhasersKept (s u : State) : Prop where
  tr : u.tr = s.tr
  phasers : u.ps.phasers = s.ps.phasers
  lu : u.lu = s.lu
  vd : u.vd = s.vd
  ph : u.cm.ph = s.cm.ph

theorem PhasersKept.seenAlike {s u : State} (h : PhasersKept s u) (p : Phaser) : SeenAlike p s u :=
  .of_blocks p h.tr h.phasers h.lu h.vd h.ph

theorem crankTooth_evaluation (hd : s.ps.departed = false)
    (hout : ¬ (s.ad.sync = .cycleSync ∧ (s.nextDecoder t).sync = .cycleSync)) :
    ∃ b u, crankTooth t o s = evaluateIf b u ∧ (b = true ↔ s.evaluates t o) ∧ PhasersKept s u := by
  unfold State.evaluates
  by_cases h : s.ad.sync = .cycleSync
  · have h' : (s.nextDecoder t).sync ≠ .cycleSync := fun hn => hout ⟨h, hn⟩
    refine ⟨_, _, crankTooth_leaving o h h', ?_, ?_⟩
    · simp [State.speedChanges, h, h']
    · rw [stored_undeparted hd]
      exact ⟨rfl, rfl, rfl, rfl, rfl⟩
  · by_cases h' : (s.nextDecoder t).sync = .cycleSync
    · refine ⟨true, _, crankTooth_entering o h h', ?_, ?_⟩
      · simp [h, h']
      · rw [stored_undeparted hd]
        exact ⟨rfl, rfl, rfl, rfl, rfl⟩
    · refine ⟨_, _, crankTooth_outside o h h', ?_, ?_⟩
      · simp [State.speedChanges, h, h']
      · rw [stored_undeparted hd]
        exact ⟨rfl, rfl, rfl, rfl, rfl⟩

theorem crankTooth_evaluates (hd : s.ps.departed = false)
    (hout : ¬ (s.ad.sync = .cycleSync ∧ (s.nextDecoder t).sync = .cycleSync)) :
    (s.evaluates t o → ∀ p, evaluated p s (crankTooth t o s)) ∧
    (¬ s.evaluates t o → (crankTooth t o s).ps.phasers = s.ps.phasers ∧ (crankTooth t o s).lu = s.lu ∧
      (crankTooth t o s).vd = s.vd ∧ (crankTooth t o s).cm.ph = s.cm.ph) := by
  obtain ⟨b, u, htooth, hb, hkept⟩ := crankTooth_evaluation o hd hout
  rw [htooth]
  refine ⟨fun he p => ?_, fun he => ?_⟩
  · rw [hb.mpr he]
    exact evaluated_before (hkept.seenAlike p) (evaluated_evaluateAll p u)
  · rw [Bool.eq_false_iff.mpr (fun hbt => he (hb.mp hbt))]
    exact ⟨hkept.phasers, hkept.lu, hkept.vd, hkept.ph⟩

/-! ### A tooth within CYCLE_SYNC (R34, R37 to R39, R89, R96) -/

/-- A group whose mark apply falls at the tooth, read before the tooth. -/
def State.crossesAt (s : State) (t : Tick) (g : Group) : Prop :=
  (s.config g).mode = .mark ∧ crossed (s.config g).mark s.ad.angle (s.nextDecoder t).angle = true

theorem stored_crossesMark (g : Group) :
    (s.stored t).crossesMark s.ad.angle g = true ↔ s.crossesAt t g := by
  obtain ⟨hrt, -, -, -, -, -, -⟩ := stored_frame s t
  have hconfig : (s.stored t).config g = s.config g := by
    cases g <;> simp only [State.config, hrt]
  rw [State.crossesMark, hconfig]
  exact decide_eq_true_iff

theorem stored_resolver (p : Phaser) : (s.stored t).resolver p = s.resolver p := by
  obtain ⟨-, htr, -, -, -, -, -⟩ := stored_frame s t
  unfold State.resolver
  rw [htr]

theorem stored_cam (c : Phaser) : (s.stored t).cam c = s.cam c := by
  obtain ⟨-, -, hec, -, -, -, -⟩ := stored_frame s t
  unfold State.cam
  rw [hec]

theorem stored_calm (hm : ∀ p, Asker.mark ∉ (s.resolver p).asked) (hc : ∀ g, ¬ s.crossesAt t g) :
    Calm s.ad.angle (s.stored t) :=
  ⟨fun g => Bool.eq_false_iff.mpr fun h => hc g ((stored_crossesMark g).mp h), fun p => by
    rw [stored_resolver]
    exact hm p⟩

section Within
variable (h : s.ad.sync = .cycleSync) (h' : (s.nextDecoder t).sync = .cycleSync)
include h h'

theorem within_bracket : (crankTooth t o s).ec.bracket = some ⟨t, (s.nextDecoder t).angle⟩ := by
  rw [crankTooth_within o h h', handTooth_bracket]
  rfl

theorem within_slot (i : Fin 24) :
    (crankTooth t o s).rt.slots.get i = (s.rt.slots.get i).applied ((s.stored t).crossing s.ad.angle) := by
  obtain ⟨hrt, -, -, -, -, -, -⟩ := stored_frame s t
  rw [crankTooth_within o h h', handTooth_slots, slots_get_map, hrt]

theorem within_record {i : Fin 24} {r : Record} (hr : (s.rt.slots.get i).record = some r) :
    (s.crossesAt t r.key.phaser.group → ((crankTooth t o s).rt.slots.get i).record = r.applied) ∧
    (¬ s.crossesAt t r.key.phaser.group → ((crankTooth t o s).rt.slots.get i).record = some r) := by
  rw [within_slot o h h', slot_applied_record _ hr, crossing_has]
  exact ⟨fun hc => if_pos ((stored_crossesMark _).mpr hc), fun hc => if_neg fun hm => hc ((stored_crossesMark _).mp hm)⟩

theorem within_camView {b : Bracket} (hb : s.ec.bracket = some b) (c : Phaser) :
    (crankTooth t o s).camView c = (List.range (s.cam c).teeth.length).foldl
      (CamView.windowEnd (s.resolver c).amin s.ec.margin s.ec.lostCount b.angle (s.nextDecoder t).angle)
      ((s.camView c).completed b t (s.nextDecoder t).span (s.lowEnd c) (s.highEnd c)) := by
  obtain ⟨-, htr, hec, -, -, -, hcams⟩ := stored_frame s t
  have hlow : (s.stored t).lowEnd c = s.lowEnd c := by rw [State.lowEnd, stored_resolver, hec]; rfl
  have hhigh : (s.stored t).highEnd c = s.highEnd c := by rw [State.highEnd, stored_resolver, hec]; rfl
  rw [crankTooth_within o h h', handTooth_camView t _ _ o (by rw [hec, hb]), hcams c, hlow, hhigh, stored_resolver, hec,
    CamView.tested, completed_teeth]
  rfl

theorem within_unasked (hq : ∀ p, Asker.apply ∉ (s.resolver p).asked ∧ Asker.mark ∉ (s.resolver p).asked) {p : Phaser}
    (hc : ¬ (s.crossesAt t p.group ∧ s.rt.slots.pendingIn p.group = true)) :
    (crankTooth t o s).resolver p = s.resolver p := by
  obtain ⟨hrt, -, -, -, -, -, -⟩ := stored_frame s t
  rw [crankTooth_within o h h', handTooth_unasked (fun g q _ => by rw [stored_resolver]; exact hq q), stored_resolver]
  rw [hrt, stored_crossesMark]
  exact hc

/-- What the clause on a crossed group follows: the notes passed, the recompute owed, or its effect on the Resolver's record. -/
theorem within_asked (hq : ∀ p, Asker.apply ∉ (s.resolver p).asked ∧ Asker.mark ∉ (s.resolver p).asked) {p : Phaser}
    (hc : s.crossesAt t p.group) (hp : s.rt.slots.pendingIn p.group = true) : ∃ notes,
    (∀ n, n ∈ notes ↔ n ∈ s.rt.slots.retireNotes p) ∧
    (appliesFirst o p.group = false → (crankTooth t o s).resolver p = (s.resolver p).asking .mark notes) ∧
    (appliesFirst o p.group = true →
      ((crankTooth t o s).resolver p).asked = [] ∧ ((crankTooth t o s).resolver p).notes = [] ∧
      ((s.resolver p).asked = [] → (s.nextDecoder t).speed = s.ad.speed → s.ps.departed = false → ∃ u : State,
        exec (.recompute p) ((s.setSlots (crankTooth t o s).rt.slots).setResolver p ((s.resolver p).asking .mark notes)) =
          .next u ∧ (crankTooth t o s).resolver p = u.resolver p)) := by
  obtain ⟨hrt, -, -, -, -, -, -⟩ := stored_frame s t
  rw [crankTooth_within o h h']
  have hquiet : ∀ g, (s.stored t).quiet g := fun g q _ => by
    rw [stored_resolver]
    exact hq q
  obtain ⟨notes, hnotes, hlater, hfirst⟩ := handTooth_asked (t := t) (changed := s.speedChanges t) (o := o) hquiet
    ((stored_crossesMark p.group).mpr hc) (by rw [hrt]; exact hp)
  rw [stored_resolver] at hlater hfirst
  rw [hrt] at hnotes
  refine ⟨notes, hnotes, hlater, fun hf => ?_⟩
  obtain ⟨hnone, hconsumed, hone⟩ := hfirst hf
  refine ⟨hnone, hconsumed, fun hnil hspeed hd => ⟨_, rfl, ?_⟩⟩
  have hasked : (((s.setSlots (handTooth t s.ad.angle (s.speedChanges t) o (s.stored t)).rt.slots).setResolver p
      ((s.resolver p).asking .mark notes)).resolver p).asked = [.mark] := by
    rw [setResolver_resolver_self, Resolver.asking, hnil]
    rfl
  rw [hone hnil (decide_eq_false (not_not_intro hspeed)), takeRecompute_resolver hasked, setResolver_resolver_self]
  unfold State.recomputed
  rw [stored_undeparted hd]
  rfl

theorem within_still (hqueue : ∀ c, (s.cam c).queue = []) (hd : s.ps.departed = false)
    (hspeed : (s.nextDecoder t).speed ≠ s.ad.speed) (hm : ∀ p, Asker.mark ∉ (s.resolver p).asked)
    (hc : ∀ g, ¬ s.crossesAt t g)
    (hend : ∀ b, s.ec.bracket = some b → ∀ c k, k < (s.cam c).teeth.length →
      crossed (windowEnd ((s.cam c).teeth.getD k 0) (s.resolver c).amin s.ec.margin) b.angle (s.nextDecoder t).angle = false)
    (p : Phaser) : evaluated p s (crankTooth t o s) := by
  have hchanged : s.speedChanges t = true := decide_eq_true hspeed
  have hkept : PhasersKept s (s.stored t) := by
    rw [stored_undeparted hd]
    exact ⟨rfl, rfl, rfl, rfl, rfl⟩
  obtain ⟨-, -, hec, -, -, -, -⟩ := stored_frame s t
  rw [crankTooth_within o h h', hchanged]
  refine evaluated_before (hkept.seenAlike p) (handTooth_still (stored_calm hm hc) (fun c => ?_) (fun b hb c k hk => ?_) p)
  · rw [stored_cam, hqueue]
  · rw [hec] at hb ⊢
    rw [stored_cam] at hk ⊢
    rw [stored_resolver]
    exact hend b hb c k hk

theorem within_whole {b : Bracket} (hb : s.ec.bracket = some b) (hd : s.ps.departed = false)
    (hm : ∀ p, Asker.mark ∉ (s.resolver p).asked) (hc : ∀ g, ¬ s.crossesAt t g) :
    crankTooth t o s =
      evaluateIf (!decide (o.evaluation.val ≤ o.frontFirst.toNat + o.rearFirst.toNat) && s.speedChanges t)
        (testWindowEnds b.angle (s.nextDecoder t).angle
          ((completeEdges b t (s.nextDecoder t).span
            (evaluateIf (decide (o.evaluation.val ≤ o.frontFirst.toNat + o.rearFirst.toNat) && s.speedChanges t)
              ((s.setDecoder (s.nextDecoder t)).setDev (s.toothDev t)))).setBracket
                (some ⟨t, (s.nextDecoder t).angle⟩))) := by
  have hcalm := stored_calm hm hc
  rw [stored_undeparted hd] at hcalm
  rw [crankTooth_within o h h', stored_undeparted hd, handTooth_whole hcalm hb]
  rfl

end Within

end Clauses

end Sys2Proof.Machine
end

section
/-! ## The statement on every accepted crank tooth, assembled from its clauses -/

namespace Sys2Proof.Machine

open Sys2Proof

theorem doubted_iff (s : State) (t : Tick) : s.doubted t = true ↔
    s.ad.sync = .cycleSync ∧ s.ad.teeth - s.ad.missing - 1 ≤ s.ad.toothIndex.getD 0 ∧ s.ad.candidate t = true ∧
      s.ad.edgeCount ≠ (if s.ad.half = some .first then s.syncCounts.1 else s.syncCounts.2) :=
  decide_eq_true_iff

/-- DEV after a tooth, as the statement writes it. -/
theorem toothDev_eq (s : State) (t : Tick) : s.toothDev t =
    { s.cm.dev with
      cycleSync := s.cm.dev.cycleSync.drive (decide ((s.nextDecoder t).sync = .cycleSync)),
      engineStopped := s.cm.dev.engineStopped.drive (decide ((s.nextDecoder t).sync = .stopped)),
      syncDoubt :=
        if s.ad.sync = .cycleSync ∧ s.ad.teeth - s.ad.missing - 1 ≤ s.ad.toothIndex.getD 0 ∧
            s.ad.candidate t = true ∧
            s.ad.edgeCount ≠ (if s.ad.half = some .first then s.syncCounts.1 else s.syncCounts.2) then
          (match s.cm.dev.syncDoubt with
           | none => some ⟨1, ()⟩
           | some l => some ⟨min 255 (l.count + 1), ()⟩)
        else s.cm.dev.syncDoubt } := by
  refine congrArg (fun x : Option (PureLatch Unit) => ({ s.cm.dev with
    cycleSync := s.cm.dev.cycleSync.drive (decide ((s.nextDecoder t).sync = Sync.cycleSync)),
    engineStopped := s.cm.dev.engineStopped.drive (decide ((s.nextDecoder t).sync = Sync.stopped)),
    syncDoubt := x } : DevGroup)) (if_congr (doubted_iff s t) ?_ rfl)
  cases s.cm.dev.syncDoubt <;> rfl

/-- Settles O25: the decoder's record and DEV, then the tooth handed on by the sync states before and after it. -/
theorem crankToothMovesTheDecoderAndHandsOn : Obligations.CrankToothMovesTheDecoderAndHandsOn := by
  intro held stamp o s hpulse hheld n1 n2 d mismatch dev span crosses windowEndOf evaluates
  obtain ⟨had, hdev, hfp, hcounter, hms⟩ := crankTooth_fields stamp o s
  refine ⟨crankTooth stamp o s, congrArg Host.Outcome.next (crankTransition_accepted hpulse hheld stamp o), had,
    hdev.trans (toothDev_eq s stamp), hfp, hcounter, hms, crankTooth_leaves o, crankTooth_enters o, crankTooth_stays o,
    crankTooth_evaluates o, fun h h' => ?_⟩
  have hframe := crankTooth_frame stamp o s
  obtain ⟨hrt, -, -, -, -, -, -⟩ := stored_frame s stamp
  refine ⟨within_bracket o h h', hframe.front.trans (by rw [hrt]), hframe.rear.trans (by rw [hrt]), fun i => ⟨?_, ?_⟩,
    fun b hb c => within_camView o h h' hb c, fun hq p => ?_, fun hqueue hd hspeed hm hc hend =>
      within_still o h h' hqueue hd hspeed hm hc hend, fun b hb hd hm hc => ?_⟩
  · rw [within_slot o h h', slot_applied_gen]
  · cases hr : (s.rt.slots.get i).record with
    | none => rw [within_slot o h h', slot_applied_free _ hr]
    | some r =>
      obtain ⟨happlied, hkept⟩ := within_record o h h' hr
      by_cases hc : s.crossesAt stamp r.key.phaser.group
      · refine ((happlied hc).trans ?_).trans (if_pos hc).symm
        obtain ⟨key, life, deadline⟩ := r
        cases life <;> rfl
      · exact (hkept hc).trans (if_neg hc).symm
  · intro x changed first
    have hfirst : first = appliesFirst o p.group := by
      cases p <;> rfl
    refine ⟨fun hc => within_unasked o h h' hq fun hn => hc ⟨hn.1, (pendingIn_iff _ _).mp hn.2⟩, fun hc hchanged => ?_⟩
    obtain ⟨notes, hnotes, hlater, htaken⟩ := within_asked o h h' hq hc ((pendingIn_iff _ _).mpr hchanged)
    rw [hfirst]
    exact ⟨notes, fun n => (hnotes n).trans mem_retireNotes, hlater, htaken⟩
  · intro edge edges windowEnd ends evaluation before u
    have hedges : ∀ c, edges c = completeCam b stamp (s.nextDecoder stamp).span c := fun c => rfl
    have hends : ∀ c, ends c = testCam b.angle (s.nextDecoder stamp).angle c := fun c => rfl
    have hevaluation : ∀ now, evaluation now = evaluateIf (now && s.speedChanges stamp) := fun now => rfl
    have hu : u = completeEdges b stamp (s.nextDecoder stamp).span
        (evaluateIf (before && s.speedChanges stamp) ((s.setDecoder (s.nextDecoder stamp)).setDev (s.toothDev stamp))) := by
      rw [toothDev_eq]
      simp only [u, hedges, hevaluation]
      rfl
    clear_value u
    rw [within_whole o h h' hb hd hm hc, hevaluation, hends, hends, hends, hends, hu]
    rfl

end Sys2Proof.Machine
end

section
/-! ## What every move of the Sequencer keeps of a phaser's LIMITED and ramp target

The Sequencer never declares or clears LIMITED, which is the Resolver's (R61), and it writes a ramp target on TRACKING entry
alone, as the last measurement clamped to the authority window (R114, R142). -/

namespace Sys2Proof.Machine

open Sys2Proof

/-- A move of one phaser: local to it, LIMITED left as it stands, and the ramp target left or set as TRACKING entry sets it. -/
structure SeqMove (p : Phaser) (s t : State) : Prop where
  seq : SeqLocal p s t
  limited : t.stands p .limited = s.stands p .limited
  ramp : (t.loop p).ramp = (s.loop p).ramp ∨
    ∃ phase, (t.loop p).ramp = clampInt (s.resolver p).amin (s.resolver p).amax phase

theorem SeqMove.refl (p : Phaser) (s : State) : SeqMove p s s := ⟨.refl p s, rfl, .inl rfl⟩

theorem SeqMove.trans {p : Phaser} {s t u : State} (a : SeqMove p s t) (b : SeqMove p t u) : SeqMove p s u := by
  refine ⟨a.seq.trans b.seq, b.limited.trans a.limited, ?_⟩
  rcases b.ramp with h | h
  · rw [h]
    exact a.ramp
  · rw [a.seq.frame.resolver] at h
    exact .inr h

/-! ### The primitive updates -/

theorem move_setPhaser (p : Phaser) (x : PhaserRec) (s : State) : SeqMove p s (s.setPhaser p x) :=
  ⟨local_setPhaser p x s, rfl, .inl rfl⟩

theorem move_setLoop (p : Phaser) {x : Loop} {s : State} (h : x.ramp = (s.loop p).ramp) : SeqMove p s (s.setLoop p x) :=
  ⟨local_setLoop p x s, rfl, .inl (by rw [setLoop_loop_self, h])⟩

theorem move_setChannel (p : Phaser) (x : Channel) (s : State) : SeqMove p s (s.setChannel p x) :=
  ⟨local_setChannel p x s, rfl, .inl rfl⟩

theorem move_setCommanded (p : Phaser) (d : Nat) (s : State) : SeqMove p s (s.setCommanded p d) := move_setChannel p _ s

theorem move_drive {e : PhCond} (he : e ≠ .limited) (p : Phaser) (b : Bool) (s : State) : SeqMove p s (s.drive p e b) :=
  ⟨local_drive p e b s, by rw [drive_stands, if_neg fun h => he h.2.symm], .inl rfl⟩

/-- TRACKING entry sets the ramp target within the window (R142). -/
theorem move_loopEntry (p : Phaser) (last : Option Measurement) (battery : Nat) (now : Tick) (s : State) :
    SeqMove p s (s.setLoop p (loopEntry (s.loop p) (s.resolver p).amin (s.resolver p).amax last battery now).1) :=
  ⟨local_setLoop p _ s, rfl, .inr ⟨_, by rw [setLoop_loop_self]; rfl⟩⟩

/-! ### Changes of state and faults (R104, R115, R118, R119) -/

theorem move_updateHeld (p : Phaser) (s : State) : SeqMove p s (updateHeld p s) :=
  (move_setPhaser p _ s).trans (move_drive (by decide) p _ _)

theorem move_leaveState (p : Phaser) (s : State) : SeqMove p s (leaveState p s) := by
  unfold leaveState
  split
  · exact ((move_setLoop p (x := (s.loop p).departed) rfl).trans (move_setPhaser p _ _)).trans
      (move_drive (by decide) p _ _)
  · exact move_setLoop p rfl
  · exact .refl p s

theorem move_moveTo (p : Phaser) (st : PhaserState) (timer : Option Nat) (s : State) : SeqMove p s (moveTo p st timer s) :=
  ((move_leaveState p s).trans (move_setPhaser p _ _)).trans (move_setCommanded p _ _)

theorem move_moveToTracking (p : Phaser) (s : State) : SeqMove p s (moveToTracking p s) :=
  (((move_moveTo p _ _ s).trans (move_setPhaser p _ _)).trans (move_loopEntry p _ _ _ _)).trans (move_setCommanded p _ _)

theorem move_faultEntry (p : Phaser) (c : CauseSet) (s : State) : SeqMove p s (faultEntry p c s) :=
  ((move_moveTo p _ _ s).trans (move_setPhaser p _ _)).trans (move_drive (by decide) p _ _)

theorem move_declareTrackErr (p : Phaser) (s : State) : SeqMove p s (declareTrackErr p s) := by
  unfold declareTrackErr
  split
  · exact (move_setPhaser p _ s).trans (move_drive (by decide) p _ _)
  · exact .refl p s

theorem move_overBandEvent (p : Phaser) (s : State) : SeqMove p s (overBandEvent p s) := by
  unfold overBandEvent
  split
  · split
    · exact ((move_declareTrackErr p s).trans (move_faultEntry p _ _)).trans (move_updateHeld p _)
    · exact move_declareTrackErr p s
  · exact .refl p s

theorem move_faultStanding (p : Phaser) (s : State) : SeqMove p s (faultStanding p s) := by
  unfold faultStanding
  split
  · exact .refl p s
  · exact .refl p s
  · split
    · exact .refl p s
    · exact move_faultEntry p _ s

/-! ### Entries and checks (R111 to R117) -/

/-- A move with the fault check on entry. -/
theorem move_enter (p : Phaser) (st : PhaserState) (timer : Option Nat) (s : State) :
    SeqMove p s (faultStanding p (moveTo p st timer s)) :=
  (move_moveTo p st timer s).trans (move_faultStanding p _)

theorem move_enterTracking (p : Phaser) (s : State) : SeqMove p s (enterTracking p s) :=
  (move_moveToTracking p s).trans (move_faultStanding p _)

theorem move_checkParked (p : Phaser) (s : State) : SeqMove p s (checkParked p s) := by
  unfold checkParked
  split
  · exact move_enter p _ _ s
  · exact .refl p s

theorem move_checkReturning (p : Phaser) (s : State) : SeqMove p s (checkReturning p s) := by
  unfold checkReturning
  split
  · exact move_enterTracking p s
  · exact .refl p s

theorem move_enterParked (p : Phaser) (s : State) : SeqMove p s (enterParked p s) :=
  (move_enter p _ _ s).trans (move_checkParked p _)

theorem move_enterReturning (p : Phaser) (s : State) : SeqMove p s (enterReturning p s) :=
  (move_enter p _ _ s).trans (move_checkReturning p _)

/-! ### Evaluations, measurements, targets, departures (R97, R108 to R117, R124) -/

theorem move_evaluateNow (p : Phaser) (s : State) : SeqMove p s (evaluateNow p s) := by
  unfold evaluateNow
  refine SeqMove.trans ?_ (move_updateHeld p _)
  split
  · exact move_checkParked p s
  · exact move_checkReturning p s
  · split
    · exact move_enterReturning p s
    · exact .refl p s
  · split
    · exact move_enterReturning p s
    · exact .refl p s
  · exact .refl p s

theorem move_evaluate (p : Phaser) (s : State) : SeqMove p s (evaluate p s) :=
  (move_overBandEvent p s).trans (move_evaluateNow p _)

theorem move_measured (p : Phaser) (phase : Int) (s : State) : SeqMove p s (measured p phase s) := by
  unfold measured
  split
  · refine SeqMove.trans ?_ (move_updateHeld p _)
    split
    · exact move_enterParked p s
    · exact move_enterReturning p s
  · refine SeqMove.trans ?_ (move_updateHeld p _)
    split
    · exact move_enterTracking p s
    · split
      · exact move_enter p _ _ s
      · exact .refl p s
  · exact .refl p s

theorem move_targetHandled (p : Phaser) (was : Target) (s : State) : SeqMove p s (targetHandled p was s) := by
  unfold targetHandled
  split
  · exact (move_enterReturning p s).trans (move_updateHeld p _)
  · exact (move_enterReturning p s).trans (move_updateHeld p _)
  · exact .refl p s
  · exact .refl p s
  · split
    · exact .refl p s
    · split
      · exact move_evaluateNow p s
      · exact move_updateHeld p s

theorem move_deliver (p : Phaser) (phase : Int) (s : State) : SeqMove p s (deliver p phase s) := by
  have hloop (t : State) : SeqMove p t (deliverLoop p phase t) := by
    unfold deliverLoop
    split
    · exact move_setLoop p rfl
    · exact .refl p t
  exact ((move_overBandEvent p s).trans (hloop _)).trans (move_measured p phase _)

/-- A fault entry with the evaluation of RELEASE_HELD that follows it. -/
theorem move_faulted (p : Phaser) (c : CauseSet) (s : State) : SeqMove p s (updateHeld p (faultEntry p c s)) :=
  (move_faultEntry p c s).trans (move_updateHeld p _)

theorem move_camLostDeclared (p : Phaser) (s : State) : SeqMove p s (camLostDeclared p s) := by
  unfold camLostDeclared
  refine ((move_overBandEvent p s).trans (move_drive (e := .camLost) (by decide) p true _)).trans ?_
  dsimp only
  split
  · exact move_faulted p _ _
  · exact move_faulted p _ _
  · exact move_faulted p _ _
  · exact move_setPhaser p _ _
  · exact .refl p _

theorem move_stopPhaser (p : Phaser) (s : State) : SeqMove p s (stopPhaser p s) := by
  unfold stopPhaser
  refine (move_overBandEvent p s).trans ?_
  dsimp only
  split
  · exact .refl p _
  · exact .refl p _
  · exact .refl p _
  · exact (move_enter p _ _ _).trans (move_updateHeld p _)

/-! ### Commands, timers and driver conditions (R113, R116, R121 to R123, R158) -/

theorem move_disable (p : Phaser) (s : State) : SeqMove p s (disable p s) := by
  unfold disable
  split
  · exact .refl p s
  · exact (((((move_overBandEvent p s).trans (move_moveTo p _ _ _)).trans (move_setPhaser p _ _)).trans
      (move_updateHeld p _)).trans (move_drive (by decide) p _ _)).trans (move_setChannel p _ _)

theorem move_enable (p : Phaser) (s : State) : SeqMove p s (enable p s) := by
  unfold enable
  split
  · exact (((move_setPhaser p _ s).trans (move_setChannel p _ _)).trans (move_enter p _ _ _)).trans (move_updateHeld p _)
  · exact .refl p s

theorem driverCond_ne_limited (d : DriverCause) : driverCond d ≠ .limited := by
  cases d <;> decide

theorem move_clearDriver (p : Phaser) (d : DriverCause) (s : State) : SeqMove p s (clearDriver p d s) :=
  move_drive (driverCond_ne_limited d) p false s

theorem move_clearShort (p : Phaser) (s : State) : SeqMove p s (clearShort p s) :=
  ((move_clearDriver p _ s).trans (move_setChannel p _ _)).trans (move_setPhaser p _ _)

theorem move_clearFaulted (p : Phaser) (s : State) : SeqMove p s (clearFaulted p s) := by
  have leave (t : State) :
      SeqMove p t (updateHeld p (if t.ad.sync = .cycleSync then enterReturning p t else enterStopped p t)) := by
    refine SeqMove.trans ?_ (move_updateHeld p _)
    split
    · exact move_enterReturning p t
    · exact move_enter p _ _ t
  exact (((move_setPhaser p _ s).trans (move_drive (by decide) p _ _)).trans (move_clearShort p _)).trans (leave _)

theorem move_takeDriverFault (p : Phaser) (d : DriverCause) (s : State) : SeqMove p s (takeDriverFault p d s) := by
  have answered (t : State) : SeqMove p t (match (t.phaser p).state with
      | .off => t
      | .faulted => addCause p (driverCause d) t
      | _ => updateHeld p (faultEntry p (driverCause d) t)) := by
    split
    · exact .refl p t
    · exact move_setPhaser p _ t
    · exact move_faulted p _ t
  unfold takeDriverFault
  split
  · exact ((move_setPhaser p _ s).trans (move_overBandEvent p _)).trans (answered _)
  · exact .refl p s

theorem move_endRelease (p : Phaser) (s : State) : SeqMove p s (endRelease p s) := by
  unfold endRelease
  split
  · exact (move_enterTracking p s).trans (move_evaluateNow p _)
  · exact .refl p s

theorem move_endReturn (p : Phaser) (s : State) : SeqMove p s (endReturn p s) := by
  unfold endReturn
  split
  · exact move_faulted p _ s
  · exact .refl p s

theorem move_endLatch (p : Phaser) (s : State) : SeqMove p s (endLatch p s) := by
  unfold endLatch
  split
  · exact (move_enterParked p s).trans (move_updateHeld p _)
  · exact .refl p s

theorem move_takeTimers (p : Phaser) (s : State) : SeqMove p s (takeTimers p s) :=
  ((move_endRelease p s).trans (move_endReturn p _)).trans ((move_endLatch p _).trans (move_overBandEvent p _))

/-! ### The Valve Drivers (R151 to R158) -/

theorem move_declareDriver (p : Phaser) (d : DriverCause) (s : State) : SeqMove p s (declareDriver p d s) := by
  unfold declareDriver
  split
  · exact .refl p s
  · exact ((move_drive (driverCond_ne_limited d) p true s).trans (move_setChannel p _ _)).trans (move_setPhaser p _ _)

theorem move_followHold (p : Phaser) (s : State) : SeqMove p s (followHold p s) := by
  unfold followHold
  split
  · exact .refl p s
  · split
    · exact move_declareDriver p _ s
    · exact move_clearDriver p _ s

theorem move_periodStartAt (p : Phaser) (s : State) : SeqMove p s (periodStartAt p s) := by
  unfold periodStartAt
  split
  · exact (move_followHold p s).trans (move_setChannel p _ _)
  · exact .refl p s

theorem move_countSense (p : Phaser) (s : State) : SeqMove p s s.countSense := ⟨local_countSense p s, rfl, .inl rfl⟩

theorem move_judgeShort (p : Phaser) (s : State) : SeqMove p s (judgeShort p s) := by
  unfold judgeShort
  dsimp only
  split
  · exact (move_setChannel p _ s).trans (move_declareDriver p _ _)
  · exact move_setChannel p _ s

theorem move_judgeOpen (p : Phaser) (seen : Bool) (s : State) : SeqMove p s (judgeOpen p seen s) := by
  have judged (t : State) : SeqMove p t (if seen then
        (if (t.channel p).openPass = 4 then clearDriver p .drvOpen t else t)
      else if (t.channel p).openFail = 4 then declareDriver p .drvOpen t else t) := by
    split
    · split
      · exact move_clearDriver p _ t
      · exact .refl p t
    · split
      · exact move_declareDriver p _ t
      · exact .refl p t
  unfold judgeOpen
  split
  · exact (move_setChannel p _ s).trans (judged _)
  · exact .refl p s

theorem move_periodEndAt (p : Phaser) (seen : Bool) (s : State) : SeqMove p s (periodEndAt p seen s) := by
  have judged (t : State) : SeqMove p t (if (t.channel p).suspended then t else judgeShort p (judgeOpen p seen t)) := by
    split
    · exact .refl p t
    · exact (move_judgeOpen p seen t).trans (move_judgeShort p _)
  unfold periodEndAt
  split
  · exact (((move_setChannel p _ s).trans (move_countSense p _)).trans (judged _)).trans (move_setChannel p _ _)
  · exact .refl p s

theorem move_overcurrentAt (p : Phaser) (s : State) : SeqMove p s (overcurrentAt p s) := by
  unfold overcurrentAt
  split
  · exact (move_periodStartAt p s).trans (move_setChannel p _ _)
  · exact .refl p s

end Sys2Proof.Machine
end

section
/-! ## The resolver's records, ramp targets and LIMITED under recomputes and moves (R47, R56, R57, R59, R61) -/

namespace Sys2Proof.Machine

open Sys2Proof

/-! ### What the laws say of one phaser -/

/-- The window of a phaser is lawful and holds its ramp target (R57, R59). -/
def State.rampOk (s : State) (p : Phaser) : Prop :=
  (s.resolver p).windowOk ∧ (s.resolver p).amin ≤ (s.loop p).ramp ∧ (s.loop p).ramp ≤ (s.resolver p).amax

/-- The window law of one phaser (R47, R57, R59). -/
def State.bounded (s : State) (p : Phaser) : Prop := s.rampOk p ∧ (s.resolver p).targetOk

theorem windowLaw_iff (s : State) : WindowLaw s ↔ ∀ p, s.bounded p := by
  refine forall_congr' fun p => ?_
  unfold State.bounded State.rampOk
  tauto

/-- LIMITED of a phaser stands as its resolution record says (R61). -/
def State.limitedOk (s : State) (p : Phaser) : Prop := s.stands p .limited = (s.resolver p).record.limited

/-- COND_STALE stands as the engine condition record says (R107). -/
def State.staleOk (s : State) : Prop := s.cm.dev.condStale.declared = true ↔ s.ps.cond.fresh = false

/-- The laws of the phasers' records, carried from one state to another. -/
structure RecordsKept (s t : State) : Prop where
  bounded : ∀ p, s.bounded p → t.bounded p
  limited : ∀ p, s.limitedOk p → t.limitedOk p
  stale : s.staleOk → t.staleOk

theorem RecordsKept.refl (s : State) : RecordsKept s s := ⟨fun _ => id, fun _ => id, id⟩

theorem RecordsKept.trans {s t u : State} (a : RecordsKept s t) (b : RecordsKept t u) : RecordsKept s u :=
  ⟨fun p h => b.bounded p (a.bounded p h), fun p h => b.limited p (a.limited p h), fun h => b.stale (a.stale h)⟩

theorem records_foldl {α : Type} (f : State → α → State) (h : ∀ s a, RecordsKept s (f s a)) (l : List α) (s : State) :
    RecordsKept s (l.foldl f s) :=
  List.foldlRecOn l f (RecordsKept.refl s) fun t ht a _ => ht.trans (h t a)

/-- An update that leaves what the laws of the records read. -/
theorem records_of_same {s t : State} (htr : t.tr = s.tr) (hramp : ∀ p, (t.loop p).ramp = (s.loop p).ramp)
    (hlimited : ∀ p, t.stands p .limited = s.stands p .limited)
    (hstale : t.cm.dev.condStale.declared = s.cm.dev.condStale.declared) (hfresh : t.ps.cond.fresh = s.ps.cond.fresh) :
    RecordsKept s t := by
  have hr (p : Phaser) : t.resolver p = s.resolver p := by rw [State.resolver, htr]; rfl
  refine ⟨fun p h => ?_, fun p h => ?_, fun h => ?_⟩
  · unfold State.bounded State.rampOk
    rw [hr, hramp]
    exact h
  · unfold State.limitedOk
    rw [hr, hlimited]
    exact h
  · unfold State.staleOk
    rw [hstale, hfresh]
    exact h

/-! ### Clamping (00_scope.md) -/

theorem clampInt_mem {lo hi : Int} (h : lo ≤ hi) (x : Int) : lo ≤ clampInt lo hi x ∧ clampInt lo hi x ≤ hi := by
  unfold clampInt
  split
  · omega
  · split <;> omega

theorem windowOk_le {r : Resolver} (h : r.windowOk) : r.amin ≤ r.amax := by
  obtain ⟨-, hmin, hmax, -⟩ := h
  omega

/-! ### The moves of the Sequencer -/

theorem SeqMove.rampOk {p : Phaser} {s t : State} (h : SeqMove p s t) (q : Phaser) (hs : s.rampOk q) : t.rampOk q := by
  obtain ⟨hw, hlo, hhi⟩ := hs
  unfold State.rampOk
  rw [h.seq.frame.resolver]
  refine ⟨hw, ?_⟩
  by_cases hq : q = p
  · subst hq
    rcases h.ramp with hr | ⟨phase, hr⟩ <;> rw [hr]
    · exact ⟨hlo, hhi⟩
    · exact clampInt_mem (windowOk_le hw) phase
  · rw [h.seq.loop q hq]
    exact ⟨hlo, hhi⟩

/-- LIMITED of every phaser is left by a move of one of them. -/
theorem SeqMove.allLimited {p : Phaser} {s t : State} (h : SeqMove p s t) (q : Phaser) :
    t.stands q .limited = s.stands q .limited := by
  by_cases hq : q = p
  · rw [hq, h.limited]
  · exact h.seq.stands hq _

theorem SeqMove.records {p : Phaser} {s t : State} (h : SeqMove p s t) : RecordsKept s t := by
  refine ⟨fun q hq => ⟨h.rampOk q hq.1, ?_⟩, fun q hq => ?_, fun hs => ?_⟩
  · rw [h.seq.frame.resolver]
    exact hq.2
  · unfold State.limitedOk
    rw [h.allLimited, h.seq.frame.resolver]
    exact hq
  · unfold State.staleOk
    rw [h.seq.frame.dev, h.seq.frame.cond]
    exact hs

theorem records_evaluateAll (s : State) : RecordsKept s (evaluateAll s) :=
  (((move_evaluate .fi s).records.trans (move_evaluate .fe _).records).trans (move_evaluate .ri _).records).trans
    (move_evaluate .re _).records

theorem records_evaluateIf (b : Bool) (s : State) : RecordsKept s (evaluateIf b s) := by
  unfold evaluateIf
  split
  · exact records_evaluateAll s
  · exact .refl s

theorem records_setDeparted (b : Bool) (s : State) : RecordsKept s { s with ps := { s.ps with departed := b } } :=
  records_of_same rfl (fun _ => rfl) (fun _ => rfl) rfl rfl

theorem records_handleDeparture (s : State) : RecordsKept s (handleDeparture s) := by
  unfold handleDeparture
  split
  · exact ((((move_stopPhaser .fi s).records.trans (move_stopPhaser .fe _).records).trans
      (move_stopPhaser .ri _).records).trans (move_stopPhaser .re _).records).trans (records_setDeparted false _)
  · exact .refl s

/-! ### The record that a recompute writes (R47, R56) -/

/-- A composition clamps to the window last (R56). -/
theorem compose_target (t : Slots) (p : Phaser) {amin amax : Int} (h : amin ≤ amax) (d : Disposition) (v : Int) (c : Cls) :
    ∃ w, (compose t p amin amax d v c).target = .au w ∧ amin ≤ w ∧ w ≤ amax :=
  ⟨_, rfl, clampInt_mem h _⟩

theorem targetOk_of_park {r : Resolver} (h : r.record.target = .park) : r.targetOk := by
  unfold Resolver.targetOk
  rw [h]
  trivial

theorem targetOk_of_au {r : Resolver} {w : Int} (h : r.record.target = .au w) (hw : r.amin ≤ w ∧ w ≤ r.amax) :
    r.targetOk := by
  unfold Resolver.targetOk
  rw [h]
  exact hw

/-- A record whose resolution is a composition within its window, or PARK. -/
theorem targetOk_of_compose {r : Resolver} (h : r.amin ≤ r.amax) {t : Slots} {p : Phaser} {d : Disposition} {v : Int}
    {c : Cls} (hr : r.record = compose t p r.amin r.amax d v c) : r.targetOk := by
  obtain ⟨w, hw, hmem⟩ := compose_target t p h d v c
  exact targetOk_of_au (by rw [hr, hw]) hmem

/-- The resolution without a winner: PARK, or a composition under HOLD (R53 to R55). -/
theorem resolveNone_cases (t : Slots) (p : Phaser) (r : Resolver) (driven : Bool) (ramp : Int) :
    resolveNone t p r driven ramp = parked .parkDefault ∨
    ∃ d v c, resolveNone t p r driven ramp = compose t p r.amin r.amax d v c := by
  unfold resolveNone
  split
  · split
    · exact .inr ⟨_, _, _, rfl⟩
    · exact .inl rfl
  · exact .inr ⟨_, _, _, rfl⟩
  · exact .inl rfl

theorem next_targetOk {r : Resolver} (h : r.amin ≤ r.amax) (t : Slots) (p : Phaser) (driven : Bool) (ramp : Int) :
    (r.next t p driven ramp).targetOk := by
  unfold Resolver.next
  split
  · rename_i c hd target slew _ _ _
    cases target with
    | park => exact targetOk_of_park rfl
    | au v => exact targetOk_of_compose h rfl
  · rcases resolveNone_cases t p r driven ramp with hn | ⟨d, v, c, hn⟩
    · exact targetOk_of_park (by rw [hn]; rfl)
    · exact targetOk_of_compose h hn

/-! ### Recomputes (R48, R61) -/

theorem seenAlike_recomputePhaser {p q : Phaser} (h : p ≠ q) (s : State) : SeenAlike p s (recomputePhaser q s) :=
  ((((local_overBandEvent q s).seenAlike h).trans (seenAlike_setResolver h _ _)).trans
    ((local_drive q _ _ _).seenAlike h)).trans ((local_targetHandled q _ _).seenAlike h)

/-- A recompute leaves the window, and the ramp target within it. -/
theorem recomputePhaser_rampOk (p : Phaser) (s : State) (hs : s.rampOk p) : (recomputePhaser p s).rampOk p := by
  refine (move_targetHandled p _ _).rampOk p ?_
  obtain ⟨hw, hlo, hhi⟩ := (move_overBandEvent p s).rampOk p hs
  obtain ⟨hmin, hmax, -, -⟩ := next_fixed ((overBandEvent p s).resolver p) (overBandEvent p s).rt.slots p
    (drivenState ((overBandEvent p s).phaser p).state) ((overBandEvent p s).loop p).ramp
  unfold State.rampOk Resolver.windowOk
  rw [drive_resolver_frame, setResolver_resolver_self, drive_loop_frame, setResolver_loop_frame, hmin, hmax]
  exact ⟨hw, hlo, hhi⟩

/-- A recompute brings the effective target into a lawful window, wherever it was before. -/
theorem recomputePhaser_targetOk (p : Phaser) {s : State} (hs : (s.resolver p).amin ≤ (s.resolver p).amax) :
    ((recomputePhaser p s).resolver p).targetOk := by
  rw [recomputePhaser_resolver]
  exact next_targetOk hs _ _ _ _

/-- A recompute declares LIMITED as the record it writes says (R61). -/
theorem recomputePhaser_limited (p : Phaser) (s : State) : (recomputePhaser p s).limitedOk p := by
  unfold State.limitedOk recomputePhaser
  dsimp only
  rw [(move_targetHandled p _ _).limited, (local_targetHandled p _ _).frame.resolver, drive_stands, if_pos ⟨rfl, rfl⟩,
    drive_resolver_frame, setResolver_resolver_self]

theorem SeenAlike.rampOk {p : Phaser} {s t : State} (h : SeenAlike p s t) : t.rampOk p ↔ s.rampOk p := by
  rw [State.rampOk, h.resolver, h.loop]
  rfl

theorem SeenAlike.bounded {p : Phaser} {s t : State} (h : SeenAlike p s t) : t.bounded p ↔ s.bounded p := by
  rw [State.bounded, h.rampOk, h.resolver]
  rfl

theorem SeenAlike.limitedOk {p : Phaser} {s t : State} (h : SeenAlike p s t) : t.limitedOk p ↔ s.limitedOk p := by
  rw [State.limitedOk, h.stands, h.resolver]
  rfl

theorem recomputePhaser_stale (p : Phaser) (s : State) (hs : s.staleOk) : (recomputePhaser p s).staleOk := by
  have hcond : (recomputePhaser p s).ps.cond = s.ps.cond :=
    (local_targetHandled p _ _).frame.cond.trans (local_overBandEvent p s).frame.cond
  unfold State.staleOk
  rw [(frame_recomputePhaser p s).dev, hcond]
  exact hs

theorem records_recomputePhaser (p : Phaser) (s : State) : RecordsKept s (recomputePhaser p s) := by
  refine ⟨fun q hq => ?_, fun q hq => ?_, recomputePhaser_stale p s⟩
  · by_cases h : q = p
    · subst h
      exact ⟨recomputePhaser_rampOk q s hq.1, recomputePhaser_targetOk q (windowOk_le hq.1.1)⟩
    · exact (seenAlike_recomputePhaser h s).bounded.mpr hq
  · by_cases h : q = p
    · subst h
      exact recomputePhaser_limited q s
    · exact (seenAlike_recomputePhaser h s).limitedOk.mpr hq

/-- The Resolver's record of a phaser replaced, with its resolution and its window left. -/
theorem records_setResolver {p : Phaser} {x : Resolver} {s : State} (hrecord : x.record = (s.resolver p).record)
    (hmin : x.amin = (s.resolver p).amin) (hmax : x.amax = (s.resolver p).amax) : RecordsKept s (s.setResolver p x) := by
  refine ⟨fun q hq => ?_, fun q hq => ?_, id⟩
  · by_cases h : q = p
    · subst h
      unfold State.bounded State.rampOk Resolver.windowOk Resolver.targetOk
      rw [setResolver_resolver_self, setResolver_loop_frame, hrecord, hmin, hmax]
      exact hq
    · exact (seenAlike_setResolver h x s).bounded.mpr hq
  · by_cases h : q = p
    · subst h
      unfold State.limitedOk
      rw [setResolver_resolver_self, setResolver_stands, hrecord]
      exact hq
    · exact (seenAlike_setResolver h x s).limitedOk.mpr hq

theorem records_takeRecompute (p : Phaser) (s : State) : RecordsKept s (takeRecompute p s) := by
  unfold takeRecompute
  split
  · exact .refl s
  · rename_i rest _
    have hset : RecordsKept s (s.setResolver p { s.resolver p with asked := rest }) := records_setResolver rfl rfl rfl
    exact hset.trans (records_recomputePhaser p _)

theorem records_settle (who : Asker → Bool) (p : Phaser) (s : State) : RecordsKept s (settle who p s) := by
  unfold settle
  split
  · exact records_foldl _ (fun s _ => records_takeRecompute p s) _ s
  · exact .refl s

theorem records_settleGroup (who : Asker → Bool) (g : Group) (s : State) : RecordsKept s (settleGroup who g s) := by
  cases g
  · exact (records_settle who .fi s).trans (records_settle who .fe _)
  · exact (records_settle who .ri s).trans (records_settle who .re _)

/-! ### The apply and the expiry (R24, R32 to R34) -/

theorem records_askAfterApply (who : Asker) (c : Coverage) (before : Slots) (p : Phaser) (s : State) :
    RecordsKept s (askAfterApply who c before p s) := by
  unfold askAfterApply
  split
  · exact records_setResolver rfl rfl rfl
  · exact .refl s

theorem records_askAll (who : Asker) (c : Coverage) (before : Slots) (s : State) : RecordsKept s (askAll who c before s) :=
  (((records_askAfterApply who c before .fi s).trans (records_askAfterApply who c before .fe _)).trans
    (records_askAfterApply who c before .ri _)).trans (records_askAfterApply who c before .re _)

theorem records_setSlots (x : Slots) (s : State) : RecordsKept s (s.setSlots x) :=
  records_of_same rfl (fun _ => rfl) (fun _ => rfl) rfl rfl

theorem records_applyGroups (who : Asker) (c : Coverage) (s : State) : RecordsKept s (applyGroups who c s) := by
  have settled (b : Bool) (g : Group) (t : State) :
      RecordsKept t (if b then settleGroup Asker.byApply g t else t) := by
    split
    · exact records_settleGroup _ g t
    · exact .refl t
  exact (((settled c.front .front s).trans (settled c.rear .rear _)).trans (records_setSlots _ _)).trans
    (records_askAll who c _ _)

theorem latchExpired_stands (s : State) (p q : Phaser) (h : Handle) (e : PhCond) :
    (s.latchExpired p h).stands q e = s.stands q e := by
  unfold State.latchExpired State.stands
  rw [setPhGroup_phGroup]
  split
  · rename_i hq
    rw [hq]
  · rfl

theorem records_latchExpired (p : Phaser) (h : Handle) (s : State) : RecordsKept s (s.latchExpired p h) :=
  records_of_same rfl (fun _ => rfl) (fun q => latchExpired_stands s p q h _) rfl rfl

/-! ### Edge Capture (R92 to R97) -/

theorem latchReject_stands (s : State) (p q : Phaser) (e : PhCond) : (s.latchReject p).stands q e = s.stands q e := by
  unfold State.latchReject State.stands
  rw [setPhGroup_phGroup]
  split
  · rename_i hq
    rw [hq]
  · rfl

theorem latchOverrun_stands (s : State) (p q : Phaser) (e : PhCond) : (s.latchOverrun p).stands q e = s.stands q e := by
  unfold State.latchOverrun State.stands
  rw [setPhGroup_phGroup]
  split
  · rename_i hq
    rw [hq]
  · rfl

theorem records_setCam (c : Phaser) (x : Cam) (s : State) : RecordsKept s (s.setCam c x) :=
  records_of_same rfl (fun _ => rfl) (fun _ => rfl) rfl rfl

theorem records_associateEdge (c : Phaser) (edge : Nat) (s : State) : RecordsKept s (associateEdge c edge s) := by
  unfold associateEdge
  dsimp only
  split
  · exact (records_setCam c _ s).trans
      (records_of_same rfl (fun _ => rfl) (fun p => latchReject_stands _ c p _) rfl rfl)
  · exact ((records_setCam c _ s).trans (move_drive (e := .camLost) (by decide) c false _).records).trans
      (move_deliver c _ _).records

theorem records_completeCam (b : Bracket) (t1 : Tick) (span : Nat) (c : Phaser) (s : State) :
    RecordsKept s (completeCam b t1 span c s) :=
  (records_setCam c _ s).trans (records_foldl _ (fun s _ => records_associateEdge c _ s) _ _)

theorem records_testWindowEnd (c : Phaser) (prev now k : Nat) (s : State) :
    RecordsKept s (testWindowEnd c prev now k s) := by
  unfold testWindowEnd missTooth
  dsimp only
  split
  · split
    · exact records_setCam c _ s
    · split
      · exact (records_setCam c _ s).trans (move_camLostDeclared c _).records
      · exact records_setCam c _ s
  · exact .refl s

theorem records_testCam (prev now : Nat) (c : Phaser) (s : State) : RecordsKept s (testCam prev now c s) :=
  records_foldl _ (fun s k => records_testWindowEnd c prev now k s) _ s

theorem records_setBracket (b : Option Bracket) (s : State) : RecordsKept s (s.setBracket b) :=
  records_of_same rfl (fun _ => rfl) (fun _ => rfl) rfl rfl

theorem records_captureTooth (t : Tick) (angle span : Nat) (s : State) : RecordsKept s (captureTooth t angle span s) := by
  cases h : s.ec.bracket with
  | none =>
    rw [captureTooth_first h]
    exact records_setBracket _ s
  | some b =>
    have edges : RecordsKept s (completeEdges b t span s) :=
      (((records_completeCam b t span .fi s).trans (records_completeCam b t span .fe _)).trans
        (records_completeCam b t span .ri _)).trans (records_completeCam b t span .re _)
    have ends (u : State) : RecordsKept u (testWindowEnds b.angle angle u) :=
      (((records_testCam b.angle angle .fi u).trans (records_testCam b.angle angle .fe _)).trans
        (records_testCam b.angle angle .ri _)).trans (records_testCam b.angle angle .re _)
    rw [captureTooth_next h]
    exact (edges.trans (records_setBracket _ _)).trans (ends _)

/-! ### A crank tooth (R37 to R39, R69, R77, R79) -/

theorem records_toothPart (t : Tick) (prev : Nat) (changed : Bool) (o : ToothOrder) (s : State) (x : ToothPart) :
    RecordsKept s (toothPart t prev changed o s x) := by
  have marked (g : Group) (now : Nat) : RecordsKept s (markApply g prev now s) := by
    unfold markApply
    split
    · exact records_applyGroups _ _ s
    · exact .refl s
  have settled (b : Bool) (g : Group) (u : State) : RecordsKept u (if b then settleGroup Asker.byMark g u else u) := by
    split
    · exact records_settleGroup _ g u
    · exact .refl u
  cases x with
  | front => exact (marked .front _).trans (settled _ .front _)
  | rear => exact (marked .rear _).trans (settled _ .rear _)
  | edges => exact records_captureTooth t _ _ s
  | evaluation => exact records_evaluateIf changed s

theorem records_handTooth (t : Tick) (prev : Nat) (changed : Bool) (o : ToothOrder) (s : State) :
    RecordsKept s (handTooth t prev changed o s) :=
  ((records_settleGroup _ .front s).trans (records_settleGroup _ .rear _)).trans
    (records_foldl _ (fun s x => records_toothPart t prev changed o s x) _ _)

theorem records_storeTooth (d : Decoder) (doubts : Bool) (s : State) : RecordsKept s (storeTooth d doubts s) := by
  unfold storeTooth
  cases doubts <;> exact records_of_same rfl (fun _ => rfl) (fun _ => rfl) rfl rfl

theorem records_captureEntry (t : Tick) (angle : Nat) (s : State) : RecordsKept s (captureEntry t angle s) :=
  records_of_same rfl (fun _ => rfl) (fun _ => rfl) rfl rfl

theorem records_captureDeparture (s : State) : RecordsKept s (captureDeparture s) :=
  records_of_same rfl (fun _ => rfl) (fun _ => rfl) rfl rfl

theorem records_crankTooth (t : Tick) (o : ToothOrder) (s : State) : RecordsKept s (crankTooth t o s) := by
  have stored : RecordsKept s (s.stored t) := by
    rw [← storeTooth_handled]
    exact (records_handleDeparture s).trans (records_storeTooth _ _ _)
  refine stored.trans ?_
  rw [crankTooth_stored]
  unfold State.handedOn
  split
  · exact records_handTooth t _ _ o _
  · exact (records_captureDeparture _).trans (records_evaluateIf _ _)
  · exact (records_captureEntry t _ _).trans (records_evaluateAll _)
  · exact records_evaluateIf _ _

/-! ### The freshness timer, the stop timer and the report (R68, R106, R107) -/

/-- The engine condition record replaced, with COND_STALE driven by its freshness (R107). -/
theorem records_setCond (c : EngineCond) (s : State) :
    RecordsKept s ({ s with ps := { s.ps with cond := c } }.driveDev .condStale (!c.fresh)) := by
  refine ⟨fun _ => id, fun _ => id, fun _ => ?_⟩
  have hdeclared : (({ s with ps := { s.ps with cond := c } }.driveDev .condStale (!c.fresh)).cm.dev.condStale).declared
      = !c.fresh := cond_drive_declared _ _
  unfold State.staleOk
  rw [hdeclared, Bool.not_eq_true']
  rfl

theorem records_stopEngine (s : State) : RecordsKept s (stopEngine s) := by
  unfold stopEngine
  split
  · dsimp only
    split
    · exact (records_storeTooth _ _ s).trans (records_captureDeparture _)
    · exact records_storeTooth _ _ s
  · exact .refl s

/-! ### The control step (R115, R134) -/

/-- The ramp target moves between its place and the target (R134). -/
theorem rampStep_between (r target : Int) (slew E : Nat) :
    min r target ≤ rampStep r target slew E ∧ rampStep r target slew E ≤ max r target := by
  unfold rampStep
  dsimp only
  split
  · omega
  · split
    · omega
    · split <;> omega

theorem move_supervise (p : Phaser) (error : Int) (s : State) : SeqMove p s (supervise p error s) := by
  unfold supervise
  split
  · exact move_setPhaser p _ s
  · exact (move_setPhaser p _ s).trans (move_drive (by decide) p _ _)

/-- A loop record replaced by one whose ramp target is lawful where that one's was. -/
theorem records_setLoop {p : Phaser} {x : Loop} {s : State}
    (h : s.bounded p → (s.resolver p).amin ≤ x.ramp ∧ x.ramp ≤ (s.resolver p).amax) : RecordsKept s (s.setLoop p x) := by
  refine ⟨fun q hq => ?_, fun _ => id, id⟩
  by_cases hqp : q = p
  · subst hqp
    unfold State.bounded State.rampOk
    rw [setLoop_resolver_frame, setLoop_loop_self]
    exact ⟨⟨hq.1.1, h hq⟩, hq.2⟩
  · exact ((local_setLoop p x s).seenAlike hqp).bounded.mpr hq

theorem records_stepOn (p : Phaser) (phase : Int) (s : State) : RecordsKept s (stepOn p phase s) := by
  unfold stepOn
  split
  · rename_i target _ htarget
    refine ((records_setLoop fun hb => ?_).trans (move_setCommanded p _ _).records).trans (move_supervise p _ _).records
    obtain ⟨⟨-, hlo, hhi⟩, ht⟩ := hb
    have hin : (s.resolver p).amin ≤ target ∧ target ≤ (s.resolver p).amax := by
      simpa only [Resolver.targetOk, htarget] using ht
    have hstep := rampStep_between (s.loop p).ramp target (stepSlew (s.resolver p) s.rt.slots)
      (elapsed (s.loop p).stepAge (s.loop p).lastStep s.counter)
    change _ ≤ rampStep _ _ _ _ ∧ rampStep _ _ _ _ ≤ _
    omega
  · exact .refl s

theorem records_dropDelivered (p : Phaser) (rest : List Int) (s : State) :
    RecordsKept s (s.setLoop p { s.loop p with delivered := rest }) :=
  (move_setLoop p (x := { s.loop p with delivered := rest }) rfl).records

theorem records_takeDelivered (p : Phaser) (s : State) : RecordsKept s (takeDelivered p s) := by
  unfold takeDelivered
  split
  · exact .refl s
  · refine (move_overBandEvent p s).records.trans ?_
    unfold takeOldest
    split
    · exact .refl _
    · rename_i rest _
      exact (records_dropDelivered p rest _).trans (records_stepOn p _ _)

/-! ### A write of an authority window (R57 to R59) -/

theorem readBound_some {b : Bound} {v w : Int} (h : readBound b v = some w) :
    (b = .lower → -5760 ≤ w ∧ w < 0) ∧ (b = .upper → 0 < w ∧ w ≤ 5759) := by
  cases b with
  | lower =>
    refine ⟨fun _ => ?_, nofun⟩
    simp only [readBound] at h
    split at h
    · obtain rfl := Option.some.inj h
      omega
    · cases h
  | upper =>
    refine ⟨nofun, fun _ => ?_⟩
    simp only [readBound] at h
    split at h
    · obtain rfl := Option.some.inj h
      omega
    · cases h

theorem withBound_windowOk {r : Resolver} (h : r.windowOk) {b : Bound} {v w : Int} (hv : readBound b v = some w) :
    (r.withBound b w).windowOk := by
  obtain ⟨h1, h2, h3, h4⟩ := h
  obtain ⟨hlower, hupper⟩ := readBound_some hv
  cases b with
  | lower =>
    obtain ⟨hlo, hhi⟩ := hlower rfl
    exact ⟨hlo, hhi, h3, h4⟩
  | upper =>
    obtain ⟨hlo, hhi⟩ := hupper rfl
    exact ⟨h1, h2, hlo, hhi⟩

/-- The state in which a write of a bound makes its recompute: the bound stored and the ramp target clamped (R58, R59). -/
def State.boundStored (s : State) (p : Phaser) (b : Bound) (w : Int) : State :=
  let r := (s.resolver p).withBound b w
  (s.setResolver p r).setLoop p { s.loop p with ramp := clampInt r.amin r.amax (s.loop p).ramp }

/-- A write that is taken stores a bound in range with windows that stay apart, and recomputes (R57, R58, R98). -/
theorem writeAuthority_ok {p : Phaser} {b : Bound} {v : Half} {s t : State} (h : writeAuthority p b v s = .ok t) :
    ∃ w, readBound b v.toInt = some w ∧ t = recomputePhaser p (s.boundStored p b w) := by
  unfold writeAuthority at h
  split at h
  · cases h
  · rename_i w hw
    dsimp only at h
    split at h
    · exact ⟨w, hw, (Except.ok.inj h).symm⟩
    · cases h

theorem records_boundStored_recomputed {p : Phaser} {b : Bound} {v w : Int} (hw : readBound b v = some w) (s : State) :
    RecordsKept s (recomputePhaser p (s.boundStored p b w)) := by
  have hother (q : Phaser) (hq : q ≠ p) : SeenAlike q s (recomputePhaser p (s.boundStored p b w)) :=
    ((seenAlike_setResolver hq _ s).trans ((local_setLoop p _ _).seenAlike hq)).trans (seenAlike_recomputePhaser hq _)
  refine ⟨fun q hq => ?_, fun q hq => ?_, recomputePhaser_stale p (s.boundStored p b w)⟩
  · by_cases hqp : q = p
    · subst hqp
      have hwindow := withBound_windowOk hq.1.1 hw
      have hramp : (s.boundStored q b w).rampOk q := by
        unfold State.rampOk State.boundStored
        rw [setLoop_resolver_frame, setResolver_resolver_self, setLoop_loop_self]
        exact ⟨hwindow, clampInt_mem (windowOk_le hwindow) _⟩
      exact ⟨recomputePhaser_rampOk q _ hramp, recomputePhaser_targetOk q (windowOk_le hramp.1)⟩
    · exact (hother q hqp).bounded.mpr hq
  · by_cases hqp : q = p
    · subst hqp
      exact recomputePhaser_limited q _
    · exact (hother q hqp).limitedOk.mpr hq

end Sys2Proof.Machine
end

section
/-! ## The decoder, the cams and DEV under every event (R67, R80, R86, R88) -/

namespace Sys2Proof.Machine

open Sys2Proof

/-! ### The laws, part by part -/

/-- Which fields of the decoder record are present in which sync state (R67). -/
def Decoder.lawful (d : Decoder) : Prop :=
  (d.toothIndex ≠ none ↔ d.sync = .crankSync ∨ d.sync = .cycleSync) ∧ (d.half ≠ none ↔ d.sync = .cycleSync) ∧
  (d.prevTooth = none ↔ d.sync = .stopped) ∧ (d.stopTimer = none ↔ d.sync = .stopped)

/-- The bracketing tooth is present in CYCLE_SYNC alone (R86). -/
def State.bracketOk (s : State) : Prop := s.ec.bracket ≠ none ↔ s.ad.sync = .cycleSync

/-- A cam's queue and marks in a sync state (R86, R88). -/
def Cam.lawful (k : Cam) (sync : Sync) : Prop :=
  k.queue.length ≤ 2 ∧ (sync ≠ .cycleSync → k.queue = []) ∧ k.marks.length = k.teeth.length

/-- CYCLE_SYNC and ENGINE_STOPPED stand as the decoder's sync state says (R80). -/
def State.devOk (s : State) : Prop :=
  (s.cm.dev.cycleSync.declared = true ↔ s.ad.sync = .cycleSync) ∧
  (s.cm.dev.engineStopped.declared = true ↔ s.ad.sync = .stopped)

theorem syncLaw_iff (s : State) :
    SyncLaw s ↔ s.ad.lawful ∧ s.bracketOk ∧ ∀ c, (s.cam c).lawful s.ad.sync := by
  simp only [SyncLaw, Decoder.lawful, State.bracketOk, Cam.lawful, and_assoc]

theorem statusLaw_iff (s : State) : StatusLaw s ↔ s.devOk ∧ s.staleOk ∧ ∀ p, s.limitedOk p := by
  simp only [StatusLaw, State.devOk, State.staleOk, State.limitedOk, and_assoc]

/-- The laws of the windows, of the decoder and Edge Capture, and of the condition status, carried from one state to
another. -/
structure LawsKept (s t : State) : Prop where
  records : RecordsKept s t
  sync : SyncLaw s → SyncLaw t
  dev : s.devOk → t.devOk

theorem LawsKept.refl (s : State) : LawsKept s s := ⟨.refl s, id, id⟩

theorem LawsKept.trans {s t u : State} (a : LawsKept s t) (b : LawsKept t u) : LawsKept s u :=
  ⟨a.records.trans b.records, fun h => b.sync (a.sync h), fun h => b.dev (a.dev h)⟩

theorem LawsKept.window {s t : State} (h : LawsKept s t) (law : WindowLaw s) : WindowLaw t :=
  (windowLaw_iff t).mpr fun p => h.records.bounded p ((windowLaw_iff s).mp law p)

theorem LawsKept.status {s t : State} (h : LawsKept s t) (law : StatusLaw s) : StatusLaw t := by
  obtain ⟨hdev, hstale, hlimited⟩ := (statusLaw_iff s).mp law
  exact (statusLaw_iff t).mpr ⟨h.dev hdev, h.records.stale hstale, fun p => h.records.limited p (hlimited p)⟩

/-- An event that leaves the decoder, Edge Capture and the two conditions of the sync state. -/
theorem RecordsKept.kept {s t : State} (h : RecordsKept s t) (had : t.ad = s.ad) (hec : t.ec = s.ec)
    (hcycle : t.cm.dev.cycleSync.declared = s.cm.dev.cycleSync.declared)
    (hstopped : t.cm.dev.engineStopped.declared = s.cm.dev.engineStopped.declared) : LawsKept s t := by
  refine ⟨h, fun hs => ?_, fun hs => ?_⟩
  · unfold SyncLaw State.cam
    rw [had, hec]
    exact hs
  · unfold State.devOk
    rw [had, hcycle, hstopped]
    exact hs

/-- An update of the table, of parameters, of the port or of the clock. -/
theorem kept_of_same {s t : State} (htr : t.tr = s.tr) (hramp : ∀ p, (t.loop p).ramp = (s.loop p).ramp)
    (had : t.ad = s.ad) (hec : t.ec = s.ec) (hcm : t.cm = s.cm) (hfresh : t.ps.cond.fresh = s.ps.cond.fresh) :
    LawsKept s t :=
  (records_of_same htr hramp (fun p => stands_congr hcm p _) (by rw [hcm]) hfresh).kept had hec (by rw [hcm]) (by rw [hcm])

theorem kept_foldl {α : Type} (f : State → α → State) (h : ∀ s a, LawsKept s (f s a)) (l : List α) (s : State) :
    LawsKept s (l.foldl f s) :=
  List.foldlRecOn l f (LawsKept.refl s) fun t ht a _ => ht.trans (h t a)

theorem SeqMove.kept {p : Phaser} {s t : State} (h : SeqMove p s t) : LawsKept s t :=
  h.records.kept h.seq.frame.ad h.seq.frame.ec (by rw [h.seq.frame.dev]) (by rw [h.seq.frame.dev])

/-! ### Evaluations, recomputes, applies, expiries -/

theorem kept_evaluateAll (s : State) : LawsKept s (evaluateAll s) := by
  have hf := frame_evaluateAll s
  exact (records_evaluateAll s).kept hf.ad hf.ec (by rw [hf.dev]) (by rw [hf.dev])

theorem kept_settleGroup (who : Asker → Bool) (g : Group) (s : State) : LawsKept s (settleGroup who g s) := by
  have hf := frame_settleGroup who g s
  exact (records_settleGroup who g s).kept hf.ad hf.ec (by rw [hf.dev]) (by rw [hf.dev])

theorem kept_takeRecompute (p : Phaser) (s : State) : LawsKept s (takeRecompute p s) := by
  have hf := frame_takeRecompute p s
  exact (records_takeRecompute p s).kept hf.ad hf.ec (by rw [hf.dev]) (by rw [hf.dev])

theorem kept_setSlots (x : Slots) (s : State) : LawsKept s (s.setSlots x) :=
  kept_of_same rfl (fun _ => rfl) rfl rfl rfl rfl

theorem kept_askAll (who : Asker) (c : Coverage) (before : Slots) (s : State) : LawsKept s (askAll who c before s) := by
  have h := records_askAll who c before s
  rw [askAll_frame] at h ⊢
  exact h.kept rfl rfl rfl rfl

theorem kept_applyGroups (who : Asker) (c : Coverage) (s : State) : LawsKept s (applyGroups who c s) := by
  have settled (b : Bool) (g : Group) (t : State) : LawsKept t (if b then settleGroup Asker.byApply g t else t) := by
    split
    · exact kept_settleGroup _ g t
    · exact .refl t
  exact (((settled c.front .front s).trans (settled c.rear .rear _)).trans (kept_setSlots _ _)).trans
    (kept_askAll who c _ _)

theorem kept_latchExpired (p : Phaser) (h : Handle) (s : State) : LawsKept s (s.latchExpired p h) :=
  (records_latchExpired p h s).kept rfl rfl rfl rfl

theorem kept_askRecompute (p : Phaser) (who : Asker) (notes : List Note) (s : State) :
    LawsKept s (askRecompute p who notes s) := by
  have h : RecordsKept s (askRecompute p who notes s) := records_setResolver rfl rfl rfl
  exact h.kept rfl rfl rfl rfl

theorem kept_expireSlot (i : Fin 24) (s : State) : LawsKept s (expireSlot i s) := by
  unfold expireSlot
  split
  · exact .refl s
  · split
    · exact (((kept_settleGroup _ _ s).trans (kept_setSlots _ _)).trans (kept_latchExpired _ _ _)).trans
        (kept_askRecompute _ _ _ _)
    · exact .refl s

theorem kept_handleDeparture (s : State) : LawsKept s (handleDeparture s) := by
  have h := records_handleDeparture s
  obtain ⟨t, ht, hhandled⟩ := frame_handleDeparture s
  rw [hhandled] at h ⊢
  exact h.kept ht.ad ht.ec (congrArg (fun d => d.cycleSync.declared) ht.dev)
    (congrArg (fun d => d.engineStopped.declared) ht.dev)

theorem kept_goStale (s : State) : LawsKept s (goStale s) := by
  unfold goStale
  split
  · exact ((records_setCond { s.ps.cond with fresh := false, timer := none } s).kept rfl rfl rfl rfl).trans
      (kept_evaluateAll _)
  · exact .refl s

theorem kept_takeReport (ok : Bool) (temperature : Int) (battery : Nat) (s : State) :
    LawsKept s (takeReport ok temperature battery s) :=
  ((records_setCond ⟨ok, clampInt (-40) 150 temperature, clampNat 6000 20000 battery, true,
    some s.ps.params.freshnessTime⟩ s).kept rfl rfl rfl rfl).trans (kept_evaluateAll _)

theorem kept_takeDelivered (p : Phaser) (s : State) : LawsKept s (takeDelivered p s) := by
  have hf := (local_takeDelivered p s).frame
  exact (records_takeDelivered p s).kept hf.ad hf.ec (by rw [hf.dev]) (by rw [hf.dev])

/-! ### A cam edge (R66, R74, R87, R88) -/

theorem sync_setCam {c : Phaser} {x : Cam} {s : State} (hx : (s.cam c).lawful s.ad.sync → x.lawful s.ad.sync)
    (h : SyncLaw s) : SyncLaw (s.setCam c x) := by
  obtain ⟨hdecoder, hbracket, hcams⟩ := (syncLaw_iff s).mp h
  refine (syncLaw_iff _).mpr ⟨hdecoder, hbracket, fun q => ?_⟩
  rw [setCam_cam, setCam_ad]
  split
  · exact hx (hcams c)
  · exact hcams q

theorem kept_setCam {c : Phaser} {x : Cam} {s : State} (hx : (s.cam c).lawful s.ad.sync → x.lawful s.ad.sync) :
    LawsKept s (s.setCam c x) := ⟨records_setCam c x s, sync_setCam hx, id⟩

/-- A write of the decoder that keeps its sync state and what goes with it. -/
theorem kept_setDecoder {d : Decoder} {s : State} (hsync : d.sync = s.ad.sync) (hd : s.ad.lawful → d.lawful) :
    LawsKept s (s.setDecoder d) := by
  refine ⟨records_of_same rfl (fun _ => rfl) (fun _ => rfl) rfl rfl, fun h => ?_, fun h => ?_⟩
  · obtain ⟨hdecoder, hbracket, hcams⟩ := (syncLaw_iff s).mp h
    refine (syncLaw_iff _).mpr ⟨hd hdecoder, ?_, fun c => ?_⟩
    · rw [State.bracketOk, setDecoder_ad, hsync]
      exact hbracket
    · rw [setDecoder_ad, hsync]
      exact hcams c
  · rw [State.devOk, setDecoder_ad, hsync]
    exact h

theorem countEdge_fields (d : Decoder) (c : Phaser) :
    (d.countEdge c).sync = d.sync ∧ (d.lawful → (d.countEdge c).lawful) := by
  unfold Decoder.countEdge
  split
  · exact ⟨rfl, id⟩
  · exact ⟨rfl, id⟩

/-- An edge joins a queue of fewer than two, in CYCLE_SYNC only (R88). -/
theorem kept_queueEdge {c : Phaser} {stamp : Tick} {s : State} (h : s.ad.sync = .cycleSync) :
    LawsKept s (queueEdge c stamp s) := by
  unfold queueEdge
  dsimp only
  split
  · rename_i hroom
    refine kept_setCam fun hk => ⟨?_, fun hn => absurd h hn, hk.2.2⟩
    simp only [List.length_append, List.length_singleton]
    omega
  · have h : RecordsKept s (s.latchOverrun c) :=
      records_of_same rfl (fun _ => rfl) (fun p => latchOverrun_stands s c p _) rfl rfl
    exact h.kept rfl rfl rfl rfl

theorem kept_camTransition (c : Phaser) (rising : Bool) (held : Nat) (stamp : Tick) (s : State) :
    LawsKept s (camTransition c rising held stamp s) := by
  have filtered (b : Bool) : LawsKept s (s.setCam c { s.cam c with pulseOpen := b }) := kept_setCam id
  have taken (t : State) : LawsKept t (takeEdge c stamp t) := by
    obtain ⟨hsync, hlawful⟩ := countEdge_fields t.ad c
    unfold takeEdge
    dsimp only
    split
    · rename_i hcycle
      exact (kept_setDecoder hsync hlawful).trans (kept_queueEdge hcycle)
    · exact kept_setDecoder hsync hlawful
  unfold camTransition
  dsimp only
  split
  · exact (filtered _).trans (taken _)
  · exact filtered _

/-! ### The decoder at a tooth (R67 to R76) -/

section Tooth
variable {d : Decoder} {t : Tick}

/-- A tooth outside STOPPED keeps the sync state, and sets the time and the stop timer. -/
theorem timed_fields (d : Decoder) (t : Tick) :
    (d.timed t).sync = d.sync ∧ (d.timed t).toothIndex = d.toothIndex ∧ (d.timed t).half = d.half ∧
      (d.timed t).prevTooth = some t ∧ (d.timed t).stopTimer = some d.stopTime := by
  unfold Decoder.timed
  dsimp only
  split <;> exact ⟨rfl, rfl, rfl, rfl, rfl⟩

theorem timed_lawful (h : d.lawful) (hs : d.sync ≠ .stopped) : (d.timed t).lawful := by
  obtain ⟨hindex, hhalf, -, -⟩ := h
  obtain ⟨esync, eindex, ehalf, eprev, etimer⟩ := timed_fields d t
  unfold Decoder.lawful
  rw [esync, eindex, ehalf, eprev, etimer]
  exact ⟨hindex, hhalf, iff_of_false (by simp) hs, iff_of_false (by simp) hs⟩

/-- The fields that a judgement leaves: the time of the tooth and the stop timer (R72 to R76). -/
theorem lawful_of_judged {d' : Decoder} (h : d.lawful) (hs : d.sync ≠ .stopped) (hs' : d'.sync ≠ .stopped)
    (hprev : d'.prevTooth = d.prevTooth) (htimer : d'.stopTimer = d.stopTimer)
    (hindex : d'.toothIndex ≠ none ↔ d'.sync = .crankSync ∨ d'.sync = .cycleSync)
    (hhalf : d'.half ≠ none ↔ d'.sync = .cycleSync) : d'.lawful := by
  obtain ⟨-, -, hp, ht⟩ := h
  refine ⟨hindex, hhalf, ?_, ?_⟩
  · rw [hprev]
    exact iff_of_false (fun hn => hs (hp.mp hn)) hs'
  · rw [htimer]
    exact iff_of_false (fun hn => hs (ht.mp hn)) hs'

theorem lose_lawful (h : d.lawful) (hs : d.sync ≠ .stopped) : d.lose.lawful :=
  lawful_of_judged h hs (by simp [Decoder.lose]) rfl rfl (by simp [Decoder.lose]) (by simp [Decoder.lose])

theorem otherHalf_ne_none (h : Option Half2) : otherHalf h ≠ none := by
  unfold otherHalf
  split <;> simp

theorem judgeCrank_lawful (h : d.lawful) (hs : d.sync = .crankSync) (n1 n2 : Nat) : (d.judgeCrank n1 n2).lawful := by
  have hne : d.sync ≠ .stopped := by rw [hs]; decide
  have hhalf : d.half = none := by
    refine Classical.byContradiction fun hn => ?_
    have := h.2.1.mp hn
    rw [hs] at this
    cases this
  unfold Decoder.judgeCrank
  dsimp only
  split
  · exact lawful_of_judged h hne (by simp) rfl rfl (by simp) (by simp)
  · split
    · exact lawful_of_judged h hne (by simp) rfl rfl (by simp) (by simp)
    · exact lawful_of_judged h hne hne rfl rfl (by simp [hs]) (by simp [hs, hhalf])

theorem judgeCycle_lawful (h : d.lawful) (hs : d.sync = .cycleSync) (n1 n2 : Nat) : (d.judgeCycle n1 n2).lawful := by
  have hne : d.sync ≠ .stopped := by rw [hs]; decide
  have hother := otherHalf_ne_none d.half
  unfold Decoder.judgeCycle
  dsimp only
  split
  · exact lawful_of_judged h hne hne rfl rfl (by simp [hs]) (by simp [hs, hother])
  · split
    · exact lawful_of_judged h hne hne rfl rfl (by simp [hs]) (by simp [hs, hother])
    · exact lawful_of_judged h hne (by simp) rfl rfl (by simp) (by simp)

theorem judge_lawful (h : d.lawful) (hs : d.sync = .crankSync ∨ d.sync = .cycleSync) (candidate : Bool) (n1 n2 : Nat) :
    (d.judge candidate n1 n2).lawful := by
  have hne : d.sync ≠ .stopped := by rcases hs with hs | hs <;> rw [hs] <;> decide
  unfold Decoder.judge
  dsimp only
  split
  · split
    · exact lose_lawful h hne
    · exact lawful_of_judged h hne hne rfl rfl (by simp [hs]) h.2.1
  · split
    · split
      · rename_i hcycle
        exact judgeCycle_lawful h hcycle n1 n2
      · rename_i hcycle
        exact judgeCrank_lawful h (hs.resolve_right hcycle) n1 n2
    · exact lose_lawful h hne

theorem tooth_lawful (h : d.lawful) (t : Tick) (n1 n2 : Nat) : (d.tooth t n1 n2).lawful := by
  have judged (hs : d.sync = .crankSync ∨ d.sync = .cycleSync) : ((d.timed t).judge (d.candidate t) n1 n2).lawful :=
    judge_lawful (timed_lawful h (by rcases hs with hs | hs <;> rw [hs] <;> decide))
      (by rw [(timed_fields d t).1]; exact hs) _ n1 n2
  cases hs : d.sync with
  | stopped =>
    obtain ⟨hindex, hhalf, -, -⟩ := h
    simp only [hs, reduceCtorEq, or_self, iff_false, not_not] at hindex hhalf
    simp [Decoder.tooth, hs, Decoder.lawful, hindex, hhalf]
  | seeking =>
    have htimed := timed_lawful (t := t) h (by rw [hs]; decide)
    obtain ⟨esync, -, -, -, -⟩ := timed_fields d t
    simp only [Decoder.tooth, hs]
    split
    · have hhalf : (d.timed t).half = none := by
        refine Classical.byContradiction fun hn => ?_
        have := htimed.2.1.mp hn
        rw [esync, hs] at this
        cases this
      exact lawful_of_judged htimed (by rw [esync, hs]; decide) (by simp) rfl rfl (by simp) (by simp [hhalf])
    · exact htimed
  | crankSync => simpa only [Decoder.tooth, hs] using judged (.inl hs)
  | cycleSync => simpa only [Decoder.tooth, hs] using judged (.inr hs)

theorem stop_lawful (d : Decoder) : d.stop.lawful := by
  simp [Decoder.lawful, Decoder.stop]

end Tooth

/-! ### The cams through a tooth (R86, R89, R91, R96) -/

/-- An edge or a window end leaves the queue and the number of marks. -/
def CamView.sameShape (x y : CamView) : Prop :=
  y.cam.queue = x.cam.queue ∧ y.cam.marks.length = x.cam.marks.length ∧ y.cam.teeth = x.cam.teeth

theorem edge_shape (lo hi : Int) (x : CamView) (edge : Nat) : x.sameShape (CamView.edge lo hi x edge) := by
  unfold CamView.edge
  split
  · exact ⟨rfl, rfl, rfl⟩
  · exact ⟨rfl, List.length_set, rfl⟩

theorem windowEnd_shape (amin : Int) (margin lostCount prev now : Nat) (x : CamView) (k : Nat) :
    x.sameShape (CamView.windowEnd amin margin lostCount prev now x k) := by
  unfold CamView.windowEnd
  split
  · split
    · exact ⟨rfl, List.length_set, rfl⟩
    · exact ⟨rfl, rfl, rfl⟩
  · exact ⟨rfl, rfl, rfl⟩

theorem foldl_shape {α : Type} {f : CamView → α → CamView} (h : ∀ (x : CamView) a, x.sameShape (f x a)) (l : List α) (x : CamView) :
    x.sameShape (l.foldl f x) :=
  List.foldlRecOn (motive := fun y => x.sameShape y) l f ⟨rfl, rfl, rfl⟩ fun y hy a _ =>
    ⟨(h y a).1.trans hy.1, (h y a).2.1.trans hy.2.1, (h y a).2.2.trans hy.2.2⟩

/-- A tooth within CYCLE_SYNC empties the queue of every cam and keeps the number of its marks. -/
theorem within_cam {t : Tick} (o : ToothOrder) {s : State} (h : s.ad.sync = .cycleSync)
    (h' : (s.nextDecoder t).sync = .cycleSync) {b : Bracket} (hb : s.ec.bracket = some b) (c : Phaser) :
    ((crankTooth t o s).cam c).queue = [] ∧
      ((crankTooth t o s).cam c).marks.length = (s.cam c).marks.length ∧
      ((crankTooth t o s).cam c).teeth = (s.cam c).teeth := by
  have hview := congrArg CamView.cam (within_camView o h h' hb c)
  obtain ⟨hq, hm, ht⟩ := foldl_shape (windowEnd_shape (s.resolver c).amin s.ec.margin s.ec.lostCount b.angle
    (s.nextDecoder t).angle) (List.range (s.cam c).teeth.length)
    ((s.camView c).completed b t (s.nextDecoder t).span (s.lowEnd c) (s.highEnd c))
  obtain ⟨hq', hm', ht'⟩ := foldl_shape (edge_shape (s.lowEnd c) (s.highEnd c))
    (((s.camView c).cam.queue).map (placeEdge b t (s.nextDecoder t).span))
    { s.camView c with cam := { (s.camView c).cam with queue := [] } }
  change (crankTooth t o s).cam c = _ at hview
  rw [hview]
  exact ⟨hq.trans hq', hm.trans hm', ht.trans ht'⟩

theorem crankTooth_sync (t : Tick) (o : ToothOrder) {s : State} (law : SyncLaw s) : SyncLaw (crankTooth t o s) := by
  obtain ⟨hdecoder, hbracket, hcams⟩ := (syncLaw_iff s).mp law
  obtain ⟨had, -, -, -, -⟩ := crankTooth_fields t o s
  have hnext : (s.nextDecoder t).lawful := tooth_lawful hdecoder t _ _
  rw [syncLaw_iff, State.bracketOk, had]
  by_cases h : s.ad.sync = .cycleSync
  · by_cases h' : (s.nextDecoder t).sync = .cycleSync
    · obtain ⟨b, hb⟩ := Option.ne_none_iff_exists'.mp (hbracket.mpr h)
      refine ⟨hnext, iff_of_true (by rw [within_bracket o h h']; simp) h', fun c => ?_⟩
      obtain ⟨hqueue, hmarks, hteeth⟩ := within_cam o h h' hb c
      refine ⟨by rw [hqueue]; simp, fun hn => absurd h' hn, ?_⟩
      rw [hmarks, hteeth]
      exact (hcams c).2.2
    · obtain ⟨-, -, -, hnone, hcam⟩ := crankTooth_leaves o h h'
      refine ⟨hnext, iff_of_false (by rw [hnone]; simp) h', fun c => ?_⟩
      rw [hcam]
      exact ⟨Nat.zero_le _, fun _ => rfl, (hcams c).2.2⟩
  · by_cases h' : (s.nextDecoder t).sync = .cycleSync
    · obtain ⟨-, -, hsome, hcam⟩ := crankTooth_enters o h h'
      refine ⟨hnext, iff_of_true (by rw [hsome]; simp) h', fun c => ?_⟩
      rw [hcam]
      exact ⟨(hcams c).1, fun hn => absurd h' hn, (List.length_map _).trans (hcams c).2.2⟩
    · obtain ⟨-, -, hec⟩ := crankTooth_stays o h h'
      rw [hec]
      refine ⟨hnext, iff_of_false (fun hb => h (hbracket.mp hb)) h', fun c => ?_⟩
      rw [State.cam, hec]
      exact ⟨(hcams c).1, fun _ => (hcams c).2.1 h, (hcams c).2.2⟩

/-- A stored decoder record has its two conditions declared or cleared (R80). -/
theorem storeTooth_devOk (d : Decoder) (doubts : Bool) (s : State) : (storeTooth d doubts s).devOk := by
  have hcycle : (storeTooth d doubts s).cm.dev.cycleSync.declared = decide (d.sync = .cycleSync) := by
    unfold storeTooth
    cases doubts <;> exact cond_drive_declared _ _
  have hstopped : (storeTooth d doubts s).cm.dev.engineStopped.declared = decide (d.sync = .stopped) := by
    unfold storeTooth
    cases doubts <;> exact cond_drive_declared _ _
  have had : (storeTooth d doubts s).ad = d := by
    unfold storeTooth
    cases doubts <;> rfl
  unfold State.devOk
  rw [hcycle, hstopped, had, decide_eq_true_iff, decide_eq_true_iff]
  exact ⟨Iff.rfl, Iff.rfl⟩

theorem kept_crankTooth (t : Tick) (o : ToothOrder) (s : State) : LawsKept s (crankTooth t o s) := by
  refine ⟨records_crankTooth t o s, crankTooth_sync t o, fun _ => ?_⟩
  have hf := crankTooth_frame t o s
  have hstored : (s.stored t).devOk := by
    rw [← storeTooth_handled]
    exact storeTooth_devOk _ _ _
  unfold State.devOk
  rw [hf.ad, hf.dev]
  exact hstored

theorem kept_crankTransition (rising : Bool) (held : Nat) (stamp : Tick) (o : ToothOrder) (s : State) :
    LawsKept s (crankTransition rising held stamp o s) := by
  have filtered (b : Bool) : LawsKept s (s.setDecoder { s.ad with pulseOpen := b }) := kept_setDecoder rfl id
  unfold crankTransition
  dsimp only
  split
  · exact (filtered _).trans (kept_crankTooth _ _ _)
  · exact filtered _

/-! ### The stop timer (R68, R77, R91) -/

theorem storeTooth_blocks (d : Decoder) (doubts : Bool) (s : State) :
    (storeTooth d doubts s).ad = d ∧ (storeTooth d doubts s).ec = s.ec := by
  unfold storeTooth
  cases doubts <;> exact ⟨rfl, rfl⟩

theorem captureDeparture_cam (s : State) (c : Phaser) :
    (captureDeparture s).cam c = { s.cam c with queue := [], miss := 0 } := quad_get_map Cam.departed _ c

theorem stopEngine_sync {s : State} (law : SyncLaw s) : SyncLaw (stopEngine s) := by
  obtain ⟨-, hbracket, hcams⟩ := (syncLaw_iff s).mp law
  obtain ⟨had, hec⟩ := storeTooth_blocks s.ad.stop false s
  have hstopped : s.ad.stop.sync ≠ .cycleSync := by simp [Decoder.stop]
  unfold stopEngine
  split
  · dsimp only
    split
    · refine (syncLaw_iff _).mpr ⟨stop_lawful s.ad, iff_of_false (fun hn => hn rfl) hstopped, fun c => ?_⟩
      rw [captureDeparture_cam, State.cam, hec]
      exact ⟨Nat.zero_le _, fun _ => rfl, (hcams c).2.2⟩
    · rename_i hs
      rw [syncLaw_iff, State.bracketOk, had, hec]
      refine ⟨stop_lawful s.ad, iff_of_false (fun hb => hs (hbracket.mp hb)) hstopped, fun c => ?_⟩
      rw [State.cam, hec]
      exact ⟨(hcams c).1, fun _ => (hcams c).2.1 hs, (hcams c).2.2⟩
  · exact law

theorem kept_stopEngine (s : State) : LawsKept s (stopEngine s) := by
  refine ⟨records_stopEngine s, stopEngine_sync, fun h => ?_⟩
  unfold stopEngine
  split
  · dsimp only
    split
    · exact storeTooth_devOk s.ad.stop false s
    · exact storeTooth_devOk s.ad.stop false s
  · exact h

/-! ### The time base (R8, R95, R131) -/

theorem tickDown_none (t : Option Nat) : tickDown t = none ↔ t = none := by
  cases t <;> simp [tickDown]

theorem advanced_sync {s : State} (law : SyncLaw s) : SyncLaw s.advanced := by
  obtain ⟨⟨hindex, hhalf, hprev, htimer⟩, hbracket, hcams⟩ := (syncLaw_iff s).mp law
  refine (syncLaw_iff _).mpr ⟨⟨hindex, hhalf, hprev, (tickDown_none _).trans htimer⟩, hbracket, fun c => ?_⟩
  rw [advanced_cam]
  exact hcams c

theorem kept_advanced (s : State) : LawsKept s s.advanced := by
  refine ⟨records_of_same rfl (fun p => ?_) (fun _ => rfl) rfl rfl, advanced_sync, id⟩
  rw [advanced_loop]
  rfl

theorem kept_takeRunOut (s : State) : LawsKept s (takeRunOut s) :=
  (((kept_foldl _ (fun s i => kept_expireSlot i s) slotNumbers s).trans
    (kept_foldl _ (fun s p => (move_takeTimers p s).kept) Phaser.list _)).trans (kept_goStale _)).trans (kept_stopEngine _)

end Sys2Proof.Machine
end

section
/-! ## Every step keeps the window law, the sync law and the status law -/

namespace Sys2Proof.Machine

open Sys2Proof

/-! ### Parameter writes (R181) -/

/-- A write that is stored keeps the laws. -/
def keepsLaws (write : State → Except Status State) : Prop := ∀ s t, write s = .ok t → LawsKept s t

theorem keepsLaws_ok {f : State → State} (h : ∀ s, LawsKept s (f s)) : keepsLaws fun s => .ok (f s) := by
  intro s t ht
  rw [← Except.ok.inj ht]
  exact h s

theorem keepsLaws_whenStopped {write : State → Except Status State} (h : keepsLaws write) :
    keepsLaws fun s => whenStopped s (write s) := by
  intro s t ht
  simp only [whenStopped] at ht
  split at ht
  · exact h s t ht
  · cases ht

theorem kept_setConfig (g : Group) (x : ApplyConfig) (s : State) : LawsKept s (s.setConfig g x) := by
  cases g <;> exact kept_of_same rfl (fun _ => rfl) rfl rfl rfl rfl

theorem kept_setSeqParams (x : SeqParams) (s : State) : LawsKept s (s.setSeqParams x) :=
  kept_of_same rfl (fun _ => rfl) rfl rfl rfl rfl

/-- A loop record with other parameters or another integrator keeps its ramp target. -/
theorem kept_setLoop {p : Phaser} {x : Loop} {s : State} (h : x.ramp = (s.loop p).ramp) : LawsKept s (s.setLoop p x) :=
  (move_setLoop p h).kept

theorem keepsLaws_applyMode (g : Group) (v : Byte) : keepsLaws (writeApplyMode g v) := by
  intro s t ht
  unfold writeApplyMode at ht
  split at ht
  · obtain rfl := Except.ok.inj ht
    exact kept_setConfig g _ s
  · cases ht

theorem keepsLaws_authority (p : Phaser) (b : Bound) (v : Half) : keepsLaws (writeAuthority p b v) := by
  intro s t ht
  obtain ⟨w, hw, rfl⟩ := writeAuthority_ok ht
  have hf := frame_recomputePhaser p (s.boundStored p b w)
  exact (records_boundStored_recomputed hw s).kept hf.ad hf.ec (congrArg (fun d => d.cycleSync.declared) hf.dev)
    (congrArg (fun d => d.engineStopped.declared) hf.dev)

/-- Each of the three geometry parameters leaves the sync state and the fields that go with it. -/
theorem keepsLaws_crank (w : CrankParam) (v : Byte) : keepsLaws (writeCrank w v) := by
  unfold writeCrank
  refine keepsLaws_whenStopped fun s t ht => ?_
  split at ht <;> split at ht <;> cases ht <;> exact kept_setDecoder rfl id

theorem keepsLaws_syncCam (v : Byte) : keepsLaws (writeSyncCam v) := by
  unfold writeSyncCam
  refine keepsLaws_whenStopped fun s t ht => ?_
  split at ht
  · split at ht <;> cases ht
    exact kept_setDecoder rfl id
  · cases ht

/-- A new tooth list has as many marks as teeth (R99). -/
theorem keepsLaws_toothList (c : Phaser) (count : Byte) (a : AngleField) : keepsLaws (writeToothList c count a) := by
  unfold writeToothList
  refine keepsLaws_whenStopped fun s t ht => ?_
  dsimp only at ht
  split at ht
  · split at ht
    · split at ht <;> cases ht
      exact kept_setCam fun hk => ⟨hk.1, hk.2.1, List.length_map _⟩
    · cases ht
  · cases ht

theorem keepsLaws_polarity (c : Phaser) (v : Byte) : keepsLaws (writePolarity c v) := by
  unfold writePolarity
  refine keepsLaws_whenStopped fun s t ht => ?_
  split at ht <;> cases ht
  exact kept_setCam id

/-- The margin and the cam-lost count stand beside the cams. -/
theorem kept_setCapture {x : Capture} {s : State} (hb : x.bracket = s.ec.bracket) (hc : x.cams = s.ec.cams) :
    LawsKept s { s with ec := x } := by
  refine ⟨records_of_same rfl (fun _ => rfl) (fun _ => rfl) rfl rfl, fun h => ?_, id⟩
  unfold SyncLaw State.cam
  dsimp only
  rw [hb, hc]
  exact h

theorem keepsLaws_margin (v : Half) : keepsLaws (writeMargin v) := by
  intro s t ht
  unfold writeMargin at ht
  split at ht <;> cases ht
  exact kept_setCapture rfl rfl

theorem kept_handRelease (s : State) (p : Phaser) : LawsKept s (handRelease s p) := by
  unfold handRelease
  split
  · exact (move_setCommanded p _ s).kept
  · exact .refl s

theorem keepsLaws_releaseDuty (v : Half) : keepsLaws (writeReleaseDuty v) :=
  keepsLaws_ok fun s => (kept_setSeqParams _ s).trans (kept_foldl _ kept_handRelease _ _)

theorem keepsLaws_threshold (w : ThresholdParam) (v : Half) : keepsLaws (writeThreshold w v) :=
  keepsLaws_ok fun s => (kept_setSeqParams _ s).trans (kept_evaluateAll _)

theorem keepsLaws_time (w : TimeParam) (v : Half) : keepsLaws (writeTime w v) := by
  intro s t ht
  unfold writeTime at ht
  split at ht <;> cases ht
  exact kept_setSeqParams _ s

theorem keepsLaws_dutyLimit (p : Phaser) (b : Bound) (v : Half) : keepsLaws (writeDutyLimit p b v) := by
  intro s t ht
  cases b <;> simp only [writeDutyLimit] at ht <;> split at ht <;> cases ht <;> exact kept_setLoop rfl

theorem keepsLaws_frequency (v : Half) : keepsLaws (writeFrequency v) :=
  keepsLaws_ok fun _ => kept_of_same rfl (fun _ => rfl) rfl rfl rfl rfl

theorem keepsLaws_writeParam (q : Param) (v : ValueField) : keepsLaws (writeParam q v) := by
  cases q with
  | applyMode g => exact keepsLaws_applyMode g v.b0
  | markAngle g => exact keepsLaws_ok fun s => kept_setConfig g _ s
  | authority b p => exact keepsLaws_authority p b v.half
  | crank w => exact keepsLaws_crank w v.b0
  | syncCam => exact keepsLaws_syncCam v.b0
  | toothList c => exact keepsLaws_toothList c v.b0 v.angles
  | camPolarity c => exact keepsLaws_polarity c v.b0
  | windowMargin => exact keepsLaws_margin v.half
  | camLostCount => exact keepsLaws_ok fun _ => kept_setCapture rfl rfl
  | releaseDuty => exact keepsLaws_releaseDuty v.half
  | threshold w => exact keepsLaws_threshold w v.half
  | time w => exact keepsLaws_time w v.half
  | dutyLimit b p => exact keepsLaws_dutyLimit p b v.half
  | pwmFrequency => exact keepsLaws_frequency v.half
  | stopTime | firingOffset => exact keepsLaws_ok fun _ => kept_setDecoder rfl id
  | homeBand | releaseInterval | returnTimeout | latchInterval | trackBand | freshnessTime =>
    exact keepsLaws_ok fun s => kept_setSeqParams _ s
  | kp | ki | ilim | nd => exact keepsLaws_ok fun _ => kept_setLoop rfl

theorem kept_ownWrite {q : Param} {write : State → Except Status State} (h : keepsLaws write) (s : State) :
    LawsKept s (ownWrite q write s).1 := by
  unfold ownWrite answer
  cases hw : write s with
  | error st => exact .refl s
  | ok t => exact h s t hw

theorem kept_ownSetParam (ident : Byte) (v : ValueField) (s : State) : LawsKept s (ownSetParam ident v s).1 := by
  unfold ownSetParam
  split
  · exact .refl s
  · exact kept_ownWrite (keepsLaws_writeParam _ v) s

/-! ### The commands of the blocks -/

/-- A command of the Request Table writes the slots at most. -/
theorem kept_slotsOnly {s t : State} (h : t = s ∨ ∃ x, t = s.setSlots x) : LawsKept s t := by
  rcases h with rfl | ⟨x, rfl⟩
  · exact .refl _
  · exact kept_setSlots x s

theorem kept_ownPost (snd : Sender) (key : KeyField) (cf : ContentField) (s : State) :
    LawsKept s (ownPost snd key cf s).1 := by
  refine kept_slotsOnly ?_
  unfold ownPost
  split
  · exact .inl rfl
  · split
    · split
      · exact .inl rfl
      · split
        · exact .inl rfl
        · split
          · exact .inl rfl
          · exact .inr ⟨_, rfl⟩
    · exact .inl rfl

theorem kept_ownChange (snd : Sender) (h : Handle) (kind : Byte) (cf : ContentField) (s : State) :
    LawsKept s (ownChange snd h kind cf s).1 := by
  refine kept_slotsOnly ?_
  unfold ownChange
  split
  · exact .inl rfl
  · split
    · split
      · exact .inl rfl
      · split
        · exact .inr ⟨_, rfl⟩
        · exact .inr ⟨_, rfl⟩
    · exact .inl rfl

theorem kept_ownRetire (snd : Sender) (h : Handle) (s : State) : LawsKept s (ownRetire snd h s).1 := by
  refine kept_slotsOnly ?_
  unfold ownRetire
  split
  · exact .inl rfl
  · split
    · exact .inr ⟨_, rfl⟩
    · exact .inl rfl

theorem kept_ownRenew (h : Handle) (s : State) : LawsKept s (ownRenew h s).1 := by
  refine kept_slotsOnly ?_
  unfold ownRenew
  split
  · exact .inl rfl
  · exact .inr ⟨_, rfl⟩

theorem kept_ownRenewClass (b : Byte) (s : State) : LawsKept s (ownRenewClass b s).1 := by
  refine kept_slotsOnly ?_
  unfold ownRenewClass
  split
  · exact .inl rfl
  · exact .inr ⟨_, rfl⟩

theorem kept_ownApply (sel : Byte) (s : State) : LawsKept s (ownApply sel s).1 := by
  unfold ownApply
  split
  · exact .refl s
  · exact kept_applyGroups _ _ s

theorem kept_reads {owner : State → State × Reply} (h : reads owner) (s : State) : LawsKept s (owner s).1 := by
  rw [h s]
  exact .refl s

theorem kept_ownReport (oil : Byte) (temperature battery : Half) (s : State) :
    LawsKept s (ownReport oil temperature battery s).1 := by
  unfold ownReport
  split
  · exact .refl s
  · exact kept_takeReport _ _ _ s

theorem kept_ownEnable (phaser setting : Byte) (s : State) : LawsKept s (ownEnable phaser setting s).1 := by
  unfold ownEnable
  split
  · dsimp only
    split
    · exact (move_enable _ s).kept
    · exact (move_disable _ s).kept
  · exact .refl s

theorem kept_ownClear (phaser : Byte) (s : State) : LawsKept s (ownClear phaser s).1 := by
  unfold ownClear
  split
  · exact .refl s
  · split
    · split
      · exact .refl s
      · exact (move_clearFaulted _ s).kept
    · exact .refl s

/-- A phaser group with other latch records or enables keeps the status of LIMITED. -/
theorem kept_setPhGroup {p : Phaser} {x : PhGroup} {s : State}
    (h : (x.conds.get .limited).declared = ((s.phGroup p).conds.get .limited).declared) :
    LawsKept s (s.setPhGroup p x) := by
  have hlimited (q : Phaser) : (s.setPhGroup p x).stands q .limited = s.stands q .limited := by
    unfold State.stands
    rw [setPhGroup_phGroup]
    split
    · rename_i hq
      rw [h, hq]
    · rfl
  have hr : RecordsKept s (s.setPhGroup p x) := records_of_same rfl (fun _ => rfl) hlimited rfl rfl
  exact hr.kept rfl rfl rfl rfl

/-- DEV with other latch records or enables keeps the status of its conditions. -/
theorem kept_setDev {x : DevGroup} {s : State} (h : ∀ e, (x.get e).declared = (s.cm.dev.get e).declared) :
    LawsKept s (s.setDev x) := by
  have hr : RecordsKept s (s.setDev x) := records_of_same rfl (fun _ => rfl) (fun _ => rfl) (h .condStale) rfl
  exact hr.kept rfl rfl (h .cycleSync) (h .engineStopped)

theorem kept_ownReadEvents (group : Byte) (s : State) : LawsKept s (ownReadEvents group s).1 := by
  unfold ownReadEvents
  split
  · exact .refl s
  · exact kept_setPhGroup rfl
  · exact kept_setDev fun e => by cases e <;> rfl

theorem kept_ownSetEnables (group : Byte) (enables : Half) (on : Byte) (s : State) :
    LawsKept s (ownSetEnables group enables on s).1 := by
  unfold ownSetEnables
  split
  · split
    · exact kept_setPhGroup rfl
    · exact .refl s
  · split
    · exact kept_setDev fun e => by cases e <;> rfl
    · exact .refl s
  · exact .refl s

/-! ### The port and the resets -/

theorem kept_setPort (x : Port) (s : State) : LawsKept s { s with fp := x } :=
  kept_of_same rfl (fun _ => rfl) rfl rfl rfl rfl

theorem kept_rejectFrame (st : Status) (code byte1 : Byte) (s : State) : LawsKept s (rejectFrame s st code byte1) :=
  (kept_setPort _ s).trans (kept_setDev fun e => by cases e <;> rfl)

theorem kept_takeCommand {i : Instr} {c : Command} {snd : Sender} {owner : State → State × Reply} {s : State}
    (h : LawsKept s (owner s).1) : LawsKept s (takeCommand i c snd owner s) := by
  obtain hi | ⟨hr, -⟩ | ⟨ht, -⟩ := takeCommand_cases i c snd owner s
  · rw [hi]
    exact .refl s
  · rw [hr]
    exact kept_rejectFrame _ _ _ s
  · rw [ht]
    exact h.trans (kept_setPort _ _)

/-- The end of a frame writes the port alone, whether it is taken or refused. -/
theorem kept_endFrame (bytes : List Byte) (s : State) : LawsKept s (endFrame bytes s) := by
  unfold endFrame
  split
  · exact kept_setPort _ _
  · exact kept_rejectFrame _ _ _ _

theorem kept_csRise (bytes : List Byte) (s : State) : LawsKept s (csRise bytes s) := by
  unfold csRise
  split
  · exact (kept_setPort { s.fp with transaction := .idle } s).trans (kept_endFrame bytes _)
  · exact kept_setPort _ s
  · exact kept_setPort _ s
  · exact .refl s

/-- A hard reset brings every block to its reset values, which are lawful. -/
theorem kept_hardReset (kind : ResetKind) (hot : Quad Bool) (s : State) : LawsKept s (hardReset kind hot s) := by
  have hwindow : WindowLaw (hardReset kind hot s) := windowLaw_reset
  have hstatus : StatusLaw (hardReset kind hot s) := statusLaw_reset
  obtain ⟨hdev, hstale, hlimited⟩ := (statusLaw_iff _).mp hstatus
  exact ⟨⟨fun p _ => (windowLaw_iff _).mp hwindow p, fun p _ => hlimited p, fun _ => hstale⟩, fun _ => syncLaw_reset,
    fun _ => hdev⟩

/-- A soft reset keeps the windows, parks every target, sets the ramp targets to 0 and clears LIMITED (R64, R148, R172). -/
theorem kept_softReset (s : State) : LawsKept s (softReset s) := by
  have hr : RecordsKept s (softReset s) := by
    refine ⟨fun p hp => ?_, fun p _ => ?_, id⟩
    · obtain ⟨⟨hw, -, -⟩, -⟩ := hp
      have hmin := hw.2.1
      have hmax := hw.2.2.1
      unfold State.bounded State.rampOk
      rw [softReset_resolver, softReset_loop]
      exact ⟨⟨hw, Int.le_of_lt hmin, Int.le_of_lt hmax⟩, targetOk_of_park rfl⟩
    · unfold State.limitedOk State.stands
      rw [softReset_resolver, softReset_phGroup]
      rfl
  exact hr.kept rfl rfl rfl rfl

/-! ### Every command and every event -/

/-- The laws are carried to the next state, if there is one. -/
def nextKept (s : State) (r : Result) : Prop := ∀ t, r = .next t → LawsKept s t

theorem nextKept_next {s t : State} (h : LawsKept s t) : nextKept s (.next t) := by
  intro u hu
  rw [← Host.Outcome.next.inj hu]
  exact h

theorem nextKept_command {i : Instr} {c : Command} {snd : Sender} {owner : State → State × Reply} {s : State}
    (h : LawsKept s (owner s).1) : nextKept s (.next (takeCommand i c snd owner s)) :=
  nextKept_next (kept_takeCommand h)

theorem nextKept_write {i : Instr} {c : Command} {snd : Sender} {q : Param} {write : State → Except Status State}
    {s : State} (h : keepsLaws write) : nextKept s (.next (takeCommand i c snd (ownWrite q write) s)) :=
  nextKept_command (kept_ownWrite h s)

theorem kept_overBandIf (b : Bool) (p : Phaser) (s : State) : LawsKept s (if b then overBandEvent p s else s) := by
  split
  · exact (move_overBandEvent p s).kept
  · exact .refl s

theorem exec_nextKept (i : Instr) (s : State) : nextKept s (exec i s) := by
  cases i with
  | powerOn hot => exact nextKept_next (kept_hardReset _ hot s)
  | resetPin hot => exact nextKept_next (kept_hardReset _ hot s)
  | vddUndervoltageReset hot => exact nextKept_next (kept_hardReset _ hot s)
  | transactionStart => exact nextKept_next (kept_setPort _ s)
  | transactionEnd sdi => exact nextKept_next (kept_csRise _ s)
  | nop snd => exact nextKept_command (.refl s)
  | post snd key cf => exact nextKept_command (kept_ownPost snd key cf s)
  | change snd h kind cf => exact nextKept_command (kept_ownChange snd h kind cf s)
  | retire snd h => exact nextKept_command (kept_ownRetire snd h s)
  | renew snd h => exact nextKept_command (kept_ownRenew h s)
  | renewClass snd b => exact nextKept_command (kept_ownRenewClass b s)
  | apply snd sel => exact nextKept_command (kept_ownApply sel s)
  | find snd key => exact nextKept_command (kept_reads (reads_ownFind key) s)
  | readRecord snd h => exact nextKept_command (kept_reads (reads_ownReadRecord h) s)
  | list snd => exact nextKept_command (.refl s)
  | readPhaser snd p => exact nextKept_command (kept_reads (reads_ownReadPhaser p) s)
  | resolve snd p => exact nextKept_command (kept_reads (reads_ownResolve p) s)
  | readEngine snd => exact nextKept_command (.refl s)
  | reportConditions snd o t b => exact nextKept_command (kept_ownReport o t b s)
  | enablePhaser snd p e => exact nextKept_command (kept_ownEnable p e s)
  | clearFault snd p => exact nextKept_command (kept_ownClear p s)
  | readEvents snd g => exact nextKept_command (kept_ownReadEvents g s)
  | setEventEnables snd g e on => exact nextKept_command (kept_ownSetEnables g e on s)
  | resetDevice snd => exact nextKept_command (kept_softReset s)
  | getParam snd ident => exact nextKept_command (kept_reads (reads_ownGetParam ident) s)
  | setParam snd ident v => exact nextKept_command (kept_ownSetParam ident v s)
  | setApplyMode snd g v => exact nextKept_write (keepsLaws_applyMode g v)
  | setMarkAngle snd g v => exact nextKept_write (keepsLaws_ok fun s => kept_setConfig g _ s)
  | setAuthorityWindow snd p b v => exact nextKept_write (keepsLaws_authority p b v)
  | setCrankGeometry snd w v => exact nextKept_write (keepsLaws_crank w v)
  | setSyncCam snd v => exact nextKept_write (keepsLaws_syncCam v)
  | setToothList snd c n a => exact nextKept_write (keepsLaws_toothList c n a)
  | setCamPolarity snd c v => exact nextKept_write (keepsLaws_polarity c v)
  | setWindowMargin snd v => exact nextKept_write (keepsLaws_margin v)
  | setCamLostCount snd v => exact nextKept_write (keepsLaws_ok fun _ => kept_setCapture rfl rfl)
  | setReleaseDuty snd v => exact nextKept_write (keepsLaws_releaseDuty v)
  | setReleaseThresholds snd w v => exact nextKept_write (keepsLaws_threshold w v)
  | setTrackFaultTime snd w v => exact nextKept_write (keepsLaws_time w v)
  | setIntegratorLimit snd p v => exact nextKept_write (keepsLaws_ok fun _ => kept_setLoop rfl)
  | setDutyLimit snd p b v => exact nextKept_write (keepsLaws_dutyLimit p b v)
  | setPwmFrequency snd v => exact nextKept_write (keepsLaws_frequency v)
  | timeBaseAdvance =>
    rw [exec_timeBase]
    exact nextKept_next ((kept_takeRunOut s).trans (kept_advanced _))
  | expiry j => exact nextKept_next (kept_expireSlot j s)
  | recompute p => exact nextKept_next (kept_takeRecompute p s)
  | crankTooth r h st o => exact nextKept_next (kept_crankTransition r h st o s)
  | controlStep p => exact nextKept_next (kept_takeDelivered p s)
  | camEdge c r h st => exact nextKept_next (kept_camTransition c r h st s)
  | stopTimerExpiry => exact nextKept_next (kept_stopEngine s)
  | syncDepartureHandling => exact nextKept_next (kept_handleDeparture s)
  | freshnessTimerExpiry => exact nextKept_next (kept_goStale s)
  | releaseIntervalExpiry p => exact nextKept_next (move_endRelease p s).kept
  | returnTimeoutExpiry p => exact nextKept_next (move_endReturn p s).kept
  | latchIntervalExpiry p => exact nextKept_next (move_endLatch p s).kept
  | overBandTrackTime p => exact nextKept_next (kept_overBandIf _ p s)
  | overBandFaultTime p => exact nextKept_next (kept_overBandIf _ p s)
  | periodStart p => exact nextKept_next (move_periodStartAt p s).kept
  | endOfOnTime p => exact nextKept_next (move_setChannel p _ s).kept
  | periodEnd p seen => exact nextKept_next (move_periodEndAt p seen s).kept
  | overcurrent p => exact nextKept_next (move_overcurrentAt p s).kept
  | thermalHoldSet p => exact nextKept_next ((move_setChannel p _ s).trans (move_followHold p _)).kept
  | thermalHoldClear p => exact nextKept_next ((move_setChannel p _ s).trans (move_followHold p _)).kept
  | driverConditionFault p d => exact nextKept_next (move_takeDriverFault p d s).kept

/-- The queue and the clock are read by no law. -/
theorem step_kept {s t : State} (h : step s = .next t) : LawsKept s t := by
  obtain ⟨i, rest, -, hs⟩ | ⟨i, -, -, hs⟩ | ⟨-, -, hs⟩ := step_cases s
  · have taken : LawsKept s { s with pending := rest } := kept_of_same rfl (fun _ => rfl) rfl rfl rfl rfl
    exact taken.trans (exec_nextKept i _ t (hs ▸ h))
  · exact exec_nextKept i s t (hs ▸ h)
  · have ticked : LawsKept s s.tick := kept_of_same rfl (fun _ => rfl) rfl rfl rfl rfl
    exact nextKept_next ticked t (hs ▸ h)

/-- Settles O55: a recompute clamps the effective target to the window, TRACKING entry and a window write clamp the ramp
target, a control step moves it toward the target, and no other event writes either. -/
theorem stepKeepsTheWindowLaw : Obligations.StepKeepsTheWindowLaw :=
  fun _ _ law h => (step_kept h).window law

/-- Settles O58: every write of the sync state, of the engine condition record and of a resolution is made together with the
fields and conditions that follow it. -/
theorem stepKeepsTheSyncAndStatusLaws : Obligations.StepKeepsTheSyncAndStatusLaws :=
  fun _ _ law h => ⟨(step_kept h).sync law.1, (step_kept h).status law.2⟩

end Sys2Proof.Machine
end

section
/-! ## An event of one phaser and the records of the others (R48, R93, R104, R131, R149, R163) -/

namespace Sys2Proof.Machine

open Sys2Proof

/-- All six records of a phaser are the same in two states. -/
structure OtherKept (q : Phaser) (s t : State) : Prop where
  seen : SeenAlike q s t
  cam : t.cam q = s.cam q

theorem OtherKept.refl (q : Phaser) (s : State) : OtherKept q s s := ⟨.refl q s, rfl⟩

theorem OtherKept.trans {q : Phaser} {s t u : State} (a : OtherKept q s t) (b : OtherKept q t u) : OtherKept q s u :=
  ⟨a.seen.trans b.seen, b.cam.trans a.cam⟩

section Other
variable {p q : Phaser}

theorem SeqLocal.other {s t : State} (h : SeqLocal p s t) (hq : q ≠ p) : OtherKept q s t :=
  ⟨h.seenAlike hq, h.frame.cam q⟩

theorem other_setCam (hq : q ≠ p) (x : Cam) (s : State) : OtherKept q s (s.setCam p x) :=
  ⟨⟨rfl, rfl, rfl, rfl, rfl⟩, by rw [setCam_cam, if_neg hq]⟩

theorem other_setDecoder (q : Phaser) (d : Decoder) (s : State) : OtherKept q s (s.setDecoder d) :=
  ⟨⟨rfl, rfl, rfl, rfl, rfl⟩, rfl⟩

theorem other_latchOverrun (hq : q ≠ p) (s : State) : OtherKept q s (s.latchOverrun p) :=
  ⟨⟨rfl, rfl, rfl, rfl, by rw [State.latchOverrun, setPhGroup_phGroup, if_neg hq]⟩, rfl⟩

theorem other_takeRecompute (hq : q ≠ p) (s : State) : OtherKept q s (takeRecompute p s) := by
  refine ⟨seenAlike_takeRecompute hq s, ?_⟩
  unfold State.cam
  rw [(frame_takeRecompute p s).ec]

/-- A transition of a cam input touches that cam, the decoder's edge counts and that phaser's Monitor group. -/
theorem other_camTransition (hq : q ≠ p) (rising : Bool) (held : Nat) (stamp : Tick) (s : State) :
    OtherKept q s (camTransition p rising held stamp s) := by
  have queued (t : State) : OtherKept q t (queueEdge p stamp t) := by
    unfold queueEdge
    dsimp only
    split
    · exact other_setCam hq _ t
    · exact other_latchOverrun hq t
  have taken (t : State) : OtherKept q t (takeEdge p stamp t) := by
    unfold takeEdge
    dsimp only
    split
    · exact (other_setDecoder q _ t).trans (queued _)
    · exact other_setDecoder q _ t
  unfold camTransition
  dsimp only
  split
  · exact (other_setCam hq _ s).trans (taken _)
  · exact other_setCam hq _ s

/-- The time that an over-band event waits for has been reached, or there is no event. -/
theorem other_overBandIf (hq : q ≠ p) (b : Bool) (s : State) : OtherKept q s (if b then overBandEvent p s else s) := by
  split
  · exact (local_overBandEvent p s).other hq
  · exact .refl q s

theorem other_of_next {s t u : State} (h : OtherKept q s u) (ht : (Host.Outcome.next u : Result) = .next t) :
    OtherKept q s t :=
  Host.Outcome.next.inj ht ▸ h

/-- The events of one phaser. -/
def ofPhaser (p : Phaser) (i : Instr) : Prop :=
  i = .recompute p ∨ i = .controlStep p ∨ (∃ r h x, i = .camEdge p r h x) ∨ i = .releaseIntervalExpiry p ∨
    i = .returnTimeoutExpiry p ∨ i = .latchIntervalExpiry p ∨ i = .overBandTrackTime p ∨ i = .overBandFaultTime p ∨
    i = .periodStart p ∨ i = .endOfOnTime p ∨ (∃ b, i = .periodEnd p b) ∨ i = .overcurrent p ∨
    i = .thermalHoldSet p ∨ i = .thermalHoldClear p ∨ ∃ d, i = .driverConditionFault p d

theorem exec_other {i : Instr} (hi : ofPhaser p i) (hq : q ≠ p) {s t : State} (h : exec i s = .next t) :
    OtherKept q s t := by
  rcases hi with rfl | rfl | ⟨r, held, x, rfl⟩ | rfl | rfl | rfl | rfl | rfl | rfl | rfl | ⟨b, rfl⟩ | rfl | rfl | rfl | ⟨d, rfl⟩
  · exact other_of_next (other_takeRecompute hq s) h
  · exact other_of_next ((local_takeDelivered p s).other hq) h
  · exact other_of_next (other_camTransition hq r held x s) h
  · exact other_of_next ((move_endRelease p s).seq.other hq) h
  · exact other_of_next ((move_endReturn p s).seq.other hq) h
  · exact other_of_next ((move_endLatch p s).seq.other hq) h
  · exact other_of_next (other_overBandIf hq _ s) h
  · exact other_of_next (other_overBandIf hq _ s) h
  · exact other_of_next ((move_periodStartAt p s).seq.other hq) h
  · exact other_of_next ((local_setChannel p _ s).other hq) h
  · exact other_of_next ((move_periodEndAt p b s).seq.other hq) h
  · exact other_of_next ((move_overcurrentAt p s).seq.other hq) h
  · exact other_of_next (((local_setChannel p _ s).trans (move_followHold p _).seq).other hq) h
  · exact other_of_next (((local_setChannel p _ s).trans (move_followHold p _).seq).other hq) h
  · exact other_of_next ((move_takeDriverFault p d s).seq.other hq) h

end Other

/-- Settles O60: every event of one phaser is an update local to it, and a recompute or a cam edge writes that phaser's
records alone. -/
theorem eventsOfOnePhaserLeaveTheOthers : Obligations.EventsOfOnePhaserLeaveTheOthers := by
  unfold Obligations.EventsOfOnePhaserLeaveTheOthers
  intro p q s t i hq hi h
  obtain ⟨⟨hresolver, hphaser, hloop, hchannel, hgroup⟩, hcam⟩ := exec_other hi hq h
  exact ⟨hresolver, hphaser, hloop, hchannel, hcam, hgroup⟩

end Sys2Proof.Machine
end

section
/-! ## The ramp of a control step and the slew it uses (R60, R134) -/

namespace Sys2Proof.Machine

open Sys2Proof

/-! ### The step of the ramp target (R134) -/

/-- The length of a step: the slew over the elapsed time, at least 1. -/
def rampLength (slew elapsed : Nat) : Int := max 1 ((slew * elapsed / 1000 : Nat) : Int)

theorem rampLength_pos (slew elapsed : Nat) : 0 < rampLength slew elapsed := by
  unfold rampLength
  omega

section Ramp
variable {r target : Int} {slew E : Nat}

theorem rampStep_free (r target : Int) (E : Nat) : rampStep r target 0 E = target := if_pos rfl

theorem rampStep_reach (h : |target - r| ≤ rampLength slew E) : rampStep r target slew E = target := by
  rw [abs_le] at h
  unfold rampStep
  split
  · rfl
  · exact if_pos ⟨h.2, by unfold rampLength at h; omega⟩

theorem rampStep_up (hs : 0 < slew) (h : rampLength slew E < target - r) : rampStep r target slew E = r + rampLength slew E := by
  have hpos := rampLength_pos slew E
  unfold rampStep
  rw [if_neg (by omega)]
  dsimp only
  rw [if_neg fun hn => absurd hn.1 (not_le.mpr h), if_pos (by omega)]
  rfl

theorem rampStep_down (hs : 0 < slew) (h : rampLength slew E < r - target) :
    rampStep r target slew E = r - rampLength slew E := by
  have hpos := rampLength_pos slew E
  unfold rampStep
  rw [if_neg (by omega)]
  dsimp only
  rw [if_neg fun hn => absurd hn.2 (not_le.mpr h), if_neg (by omega)]
  rfl

theorem rampStep_within (E : Nat) (slew : Nat) {lo hi : Int} (h1 : lo ≤ r) (h2 : r ≤ hi) (h3 : lo ≤ target) (h4 : target ≤ hi) :
    lo ≤ rampStep r target slew E ∧ rampStep r target slew E ≤ hi := by
  obtain ⟨hlo, hhi⟩ := rampStep_between r target slew E
  omega

/-- A step comes nearer: it is at least 1 long and does not pass the target. -/
theorem rampStep_nearer (hs : 0 < slew) (h : r ≠ target) : |target - rampStep r target slew E| < |target - r| := by
  have hpos := rampLength_pos slew E
  rcases le_or_gt |target - r| (rampLength slew E) with hnear | hfar
  · rw [rampStep_reach hnear, sub_self, abs_zero, abs_pos]
    omega
  · rcases lt_abs.mp hfar with hup | hdown
    · rw [rampStep_up hs hup, abs_of_pos (by omega), abs_of_pos (by omega)]
      omega
    · rw [neg_sub] at hdown
      rw [rampStep_down hs hdown, abs_of_neg (by omega), abs_of_neg (by omega)]
      omega

end Ramp

/-! ### The slew of a step (R60) -/

theorem handle_slot (t : Slots) (i : Fin 24) : (t.handle i).slot.toNat = i.val := by
  have hi := i.isLt
  unfold Slots.handle
  rw [BitVec.toNat_ofNat]
  omega

theorem resolve_handle {t : Slots} {i : Fin 24} {q : Record} (h : (t.get i).record = some q) :
    t.resolve (t.handle i) = .ok (i, q) := by
  have hslot := handle_slot t i
  have hi : (⟨(t.handle i).slot.toNat, hslot ▸ i.isLt⟩ : Fin 24) = i := Fin.ext hslot
  unfold Slots.resolve
  rw [dif_pos (hslot ▸ i.isLt)]
  dsimp only
  rw [hi, h]
  exact if_pos rfl

theorem activeOf_handle {t : Slots} {i : Fin 24} {q : Record} (h : (t.get i).record = some q) :
    t.activeOf (t.handle i) = q.life.active := by
  unfold Slots.activeOf
  rw [resolve_handle h]

theorem activeOf_some {t : Slots} {h : Handle} {c : Content} (hc : t.activeOf h = some c) :
    ∃ i q, (t.get i).record = some q ∧ q.life.active = some c ∧ h = t.handle i := by
  unfold Slots.activeOf at hc
  split at hc
  · rename_i i q hr
    obtain ⟨hslot, hq, hgen⟩ := resolve_ok hr
    refine ⟨i, q, hq, hc, ?_⟩
    unfold Slots.handle
    rw [hgen, ← hslot, BitVec.ofNat_toNat, BitVec.setWidth_eq]
  · cases hc

section Slew
variable {x : Resolver} {t : Slots}

theorem stepSlew_hold {v : Int} {c : Cls} (h : x.record.disposition = .hold v c) : stepSlew x t = 0 := by
  simp only [stepSlew, h]

theorem stepSlew_setpoint {h : Handle} (hd : x.record.disposition = .setpoint h) :
    stepSlew x t = ((t.activeOf h).map Content.slew).getD x.winnerSlew := by
  simp only [stepSlew, hd]
  cases t.activeOf h with
  | none => rfl
  | some c => rfl

theorem stepSlew_active {i : Fin 24} {q : Record} {c : Content} (hq : (t.get i).record = some q) (hc : q.life.active = some c)
    (hd : x.record.disposition = .setpoint (t.handle i)) : stepSlew x t = c.slew := by
  rw [stepSlew_setpoint hd, activeOf_handle hq, hc, Option.map_some, Option.getD_some]

theorem stepSlew_gone {h : Handle} (hd : x.record.disposition = .setpoint h)
    (hno : ∀ i q, (t.get i).record = some q → q.life.active ≠ none → h ≠ t.handle i) : stepSlew x t = x.winnerSlew := by
  rw [stepSlew_setpoint hd]
  cases hc : t.activeOf h with
  | none => rfl
  | some c =>
    obtain ⟨i, q, hq, hactive, hh⟩ := activeOf_some hc
    exact absurd hh (hno i q hq (by rw [hactive]; exact Option.some_ne_none c))

end Slew

/-- Settles O40: the three cases of a step by its distance, and the slew by what the winner handle names. -/
theorem rampMovesTowardTheTarget : Obligations.RampMovesTowardTheTarget := by
  unfold Obligations.RampMovesTowardTheTarget
  intro r target slew E
  refine ⟨?_, fun hs => ⟨rampStep_reach, rampStep_up hs, rampStep_down hs⟩, (rampStep_between r target slew E).1,
    (rampStep_between r target slew E).2, fun lo hi => rampStep_within E slew, rampStep_nearer, fun x t =>
    ⟨fun v c => stepSlew_hold, fun i q tgt n park ka hq hc hd => stepSlew_active hq hc hd, fun h hd => stepSlew_gone hd⟩⟩
  rintro rfl
  exact rampStep_free r target E

end Sys2Proof.Machine
end

section
/-! ## The active records of a phaser and the composition of a target (R49, R50, R56) -/

namespace Sys2Proof.Machine

open Sys2Proof

/-! ### The active records (R2, R49) -/

/-- A record of the table with active content: its handle and that content. -/
def Slots.listed (t : Slots) (k : Key) (h : Handle) (c : Content) : Prop :=
  ∃ i r, (t.get i).record = some r ∧ r.key = k ∧ r.life.active = some c ∧ h = t.handle i

/-- No two records have the same key (R2). -/
def Slots.uniqueKeys (t : Slots) : Prop :=
  ∀ i j r q, (t.get i).record = some r → (t.get j).record = some q → r.key = q.key → i = j

section Active
variable {t : Slots} {k : Key} {h : Handle} {c : Content}

theorem activeRecord_listed (ha : t.activeRecord k = some (h, c)) : t.listed k h c := by
  unfold Slots.activeRecord at ha
  split at ha
  · cases ha
  · rename_i i hi
    obtain ⟨r, hr, hf⟩ := findRecord_some hi
    simp only [Bool.and_eq_true, beq_iff_eq] at hf
    rw [hr] at ha
    obtain ⟨c', hc, hpair⟩ := Option.map_eq_some_iff.mp ha
    cases hpair
    exact ⟨i, r, hr, hf.1, hc, rfl⟩

theorem activeRecord_none (ha : t.activeRecord k = none) : ¬ t.listed k h c := by
  rintro ⟨i, r, hr, hk, hc, -⟩
  unfold Slots.activeRecord at ha
  split at ha
  · rename_i hnone
    have := findRecord_none hnone i r hr
    simp [hk, hc] at this
  · rename_i j hj
    obtain ⟨q, hq, hf⟩ := findRecord_some hj
    simp only [Bool.and_eq_true, beq_iff_eq] at hf
    rw [hq] at ha
    have hnone : q.life.active = none := Option.map_eq_none_iff.mp ha
    simp [hnone] at hf

/-- Where keys are unique, the active record found is the only one of its key. -/
theorem activeRecord_iff (hu : t.uniqueKeys) : t.activeRecord k = some (h, c) ↔ t.listed k h c := by
  refine ⟨activeRecord_listed, fun hl => ?_⟩
  cases ha : t.activeRecord k with
  | none => exact absurd hl (activeRecord_none ha)
  | some x =>
    obtain ⟨i, r, hr, hk, hc, hh⟩ := hl
    obtain ⟨j, q, hq, hk', hc', hh'⟩ := activeRecord_listed (h := x.1) (c := x.2) ha
    obtain rfl := hu i j r q hr hq (hk.trans hk'.symm)
    obtain rfl := Option.some.inj (hr.symm.trans hq)
    rw [hh, Option.some.inj (hc.symm.trans hc'), ← hh']

end Active

/-! ### The list of a phaser's active records of one kind (R49) -/

theorem mem_ascending (c : Cls) : c ∈ Cls.ascending := by
  cases c <;> decide

theorem ascending_pairwise : (Cls.ascending.map Cls.rank).Pairwise (· < ·) := by decide

section Records
variable {t : Slots} {p : Phaser} {kind : Kind}

theorem mem_activeRecords {x : Cls × Handle × Content} :
    x ∈ t.activeRecords p kind ↔ t.activeRecord ⟨p, x.1, kind⟩ = some x.2 := by
  obtain ⟨c, y⟩ := x
  simp only [Slots.activeRecords, List.mem_filterMap, Option.map_eq_some_iff]
  constructor
  · rintro ⟨c', -, y', hy, hpair⟩
    cases hpair
    exact hy
  · exact fun hy => ⟨c, mem_ascending c, y, hy, rfl⟩

theorem mem_activeRecords_iff (hu : t.uniqueKeys) {x : Cls × Handle × Content} :
    x ∈ t.activeRecords p kind ↔ t.listed ⟨p, x.1, kind⟩ x.2.1 x.2.2 :=
  mem_activeRecords.trans (activeRecord_iff hu)

/-- The classes of the list are among the five, in the same order. -/
theorem activeRecords_classes (t : Slots) (p : Phaser) (kind : Kind) :
    ((t.activeRecords p kind).map Prod.fst).Sublist Cls.ascending := by
  unfold Slots.activeRecords
  generalize Cls.ascending = l
  induction l with
  | nil => exact .slnil
  | cons c l ih =>
    cases h : t.activeRecord ⟨p, c, kind⟩ with
    | none => simpa [h] using ih.cons c
    | some x => simpa [h] using ih.cons_cons c

theorem activeRecords_ranks (t : Slots) (p : Phaser) (kind : Kind) :
    ((t.activeRecords p kind).map fun x => x.1.rank).Pairwise (· < ·) := by
  have h := ascending_pairwise.sublist ((activeRecords_classes t p kind).map Cls.rank)
  rwa [List.map_map] at h

/-- The winner is the active SETPOINT of the highest class (R50). -/
theorem winner_of_highest {x : Cls × Handle × Content} (hx : x ∈ t.activeRecords p .setpoint)
    (hmax : ∀ y ∈ t.activeRecords p .setpoint, y.1.rank ≤ x.1.rank) : t.winner p = some x := by
  have hranks := activeRecords_ranks t p .setpoint
  unfold Slots.winner
  generalize t.activeRecords p .setpoint = l at hx hmax hranks ⊢
  obtain rfl | ⟨init, z, rfl⟩ := List.eq_nil_or_concat' l
  · cases hx
  · rw [List.getLast?_concat]
    rw [List.map_append, List.pairwise_append] at hranks
    have hz : z.1.rank ≤ x.1.rank := hmax z (by simp)
    rcases List.mem_append.mp hx with hin | hin
    · have hlt := hranks.2.2 x.1.rank (List.mem_map_of_mem hin) z.1.rank (by simp)
      omega
    · rw [List.mem_singleton.mp hin]

theorem winner_eq_none (h : t.activeRecords p .setpoint = []) : t.winner p = none := by
  unfold Slots.winner
  rw [h]
  rfl

end Records

/-! ### The stages of composition (R56) -/

/-- A trim's offset added, with saturation. -/
def trimStep (v : Int) (x : Cls × Handle × Content) : Int :=
  match x.2.2 with
  | .trim o _ => clampInt (-5760) 5759 (v + o)
  | _ => v

/-- A limit's clamp. -/
def limitStep (v : Int) (x : Cls × Handle × Content) : Int :=
  match x.2.2 with
  | .limit lo hi _ => clampInt lo hi v
  | _ => v

theorem addTrims_eq (v : Int) (l : List (Cls × Handle × Content)) : addTrims v l = l.foldl trimStep v := rfl

theorem clampInt_eq_max_min {lo hi : Int} (h : lo ≤ hi) (v : Int) : clampInt lo hi v = max lo (min hi v) := by
  unfold clampInt
  split
  · omega
  · split <;> omega

theorem clampInt_ne_iff {lo hi v : Int} : clampInt lo hi v ≠ v ↔ v < lo ∨ hi < v := by
  unfold clampInt
  split
  · omega
  · split <;> omega

theorem limitStep_ne_iff {v : Int} {x : Cls × Handle × Content} :
    limitStep v x ≠ v ↔ ∃ lo hi ka, x.2.2 = .limit lo hi ka ∧ (v < lo ∨ hi < v) := by
  unfold limitStep
  split
  · rename_i lo hi ka hx
    rw [clampInt_ne_iff]
    constructor
    · exact fun h => ⟨lo, hi, ka, hx, h⟩
    · rintro ⟨lo', hi', ka', hx', h⟩
      cases hx.symm.trans hx'
      exact h
  · rename_i hx
    refine iff_of_false (fun h => h rfl) ?_
    rintro ⟨lo, hi, ka, h, -⟩
    exact hx lo hi ka h

/-- Some limit of a list changes the value as it stands at that limit. -/
def someLimitActs (v : Int) (l : List (Cls × Handle × Content)) : Prop :=
  ∃ before x after, l = before ++ x :: after ∧ limitStep (before.foldl limitStep v) x ≠ before.foldl limitStep v

theorem someLimitActs_cons {v : Int} {x : Cls × Handle × Content} {l : List (Cls × Handle × Content)} :
    someLimitActs v (x :: l) ↔ limitStep v x ≠ v ∨ someLimitActs (limitStep v x) l := by
  constructor
  · rintro ⟨before, y, after, hl, hy⟩
    cases before with
    | nil =>
      cases hl
      exact .inl hy
    | cons z before =>
      cases hl
      exact .inr ⟨before, y, after, rfl, hy⟩
  · rintro (h | ⟨before, y, after, rfl, hy⟩)
    · exact ⟨[], x, l, rfl, h⟩
    · exact ⟨x :: before, y, after, rfl, hy⟩

/-- A limit's clamp with the flag that says whether a clamp so far changed the value. -/
def limitFlagged (a : Int × Bool) (x : Cls × Handle × Content) : Int × Bool :=
  match x.2.2 with
  | .limit lo hi _ => (clampInt lo hi a.1, a.2 || decide (clampInt lo hi a.1 ≠ a.1))
  | _ => a

theorem limitFlagged_eq (a : Int × Bool) (x : Cls × Handle × Content) :
    limitFlagged a x = (limitStep a.1 x, a.2 || decide (limitStep a.1 x ≠ a.1)) := by
  unfold limitFlagged limitStep
  split
  · rfl
  · simp

theorem applyLimits_eq (v : Int) (l : List (Cls × Handle × Content)) :
    applyLimits v l = l.foldl limitFlagged (v, false) := rfl

theorem foldl_limitFlagged (l : List (Cls × Handle × Content)) (a : Int × Bool) :
    (l.foldl limitFlagged a).1 = l.foldl limitStep a.1 ∧
      ((l.foldl limitFlagged a).2 = true ↔ a.2 = true ∨ someLimitActs a.1 l) := by
  induction l generalizing a with
  | nil => simp [someLimitActs]
  | cons x l ih =>
    obtain ⟨hvalue, hflag⟩ := ih (limitFlagged a x)
    rw [List.foldl_cons, List.foldl_cons, hvalue, hflag, someLimitActs_cons, limitFlagged_eq]
    simp only [Bool.or_eq_true, decide_eq_true_eq, or_assoc, and_self]

theorem applyLimits_value (v : Int) (l : List (Cls × Handle × Content)) : (applyLimits v l).1 = l.foldl limitStep v := by
  rw [applyLimits_eq, (foldl_limitFlagged l _).1]

theorem applyLimits_flag {v : Int} {l : List (Cls × Handle × Content)} :
    (applyLimits v l).2 = true ↔ someLimitActs v l := by
  rw [applyLimits_eq, (foldl_limitFlagged l _).2]
  simp

/-- AUTH_CLAMP of a composition (R56). -/
theorem compose_authClamp {t : Slots} {p : Phaser} {amin amax start : Int} {d : Disposition} {ref : Cls} {v : Int}
    (hv : (applyLimits (addTrims start ((t.activeRecords p .trim).filter fun x => ref.rank ≤ x.1.rank))
      (t.activeRecords p .limit)).1 = v) :
    (compose t p amin amax d start ref).authClamp = true ↔ v < amin ∨ amax < v := by
  rw [← clampInt_ne_iff, ← hv]
  exact decide_eq_true_iff

/-- LIMITED of a composition (R56). -/
theorem compose_limited (t : Slots) (p : Phaser) (amin amax start : Int) (d : Disposition) (ref : Cls) :
    (compose t p amin amax d start ref).limited = true ↔
      (compose t p amin amax d start ref).authClamp = true ∨
      someLimitActs (addTrims start ((t.activeRecords p .trim).filter fun x => ref.rank ≤ x.1.rank))
        (t.activeRecords p .limit) := by
  rw [← applyLimits_flag, or_comm]
  exact Bool.or_eq_true_iff

/-- Settles O21: the two folds of the composition step by step, the limits' flag by induction on the list, and the lists read
by the search of a table with unique keys. -/
theorem compositionAddsTrimsThenClamps : Obligations.CompositionAddsTrimsThenClamps := by
  unfold Obligations.CompositionAddsTrimsThenClamps
  intro t p amin amax d start ref trims limits c add clamp trimmed bounded
  have hadd : add = trimStep := by
    funext v ⟨_, _, co⟩
    cases co with
    | trim o ka => exact (clampInt_eq_max_min (by decide) _).symm
    | setpoint _ _ _ _ => rfl
    | limit _ _ _ => rfl
  have hclamp : clamp = limitStep := rfl
  have htrimmed : trimmed = addTrims start trims := by
    rw [addTrims_eq, ← hadd]
  have hbounded : (applyLimits (addTrims start trims) limits).1 = bounded := by
    rw [applyLimits_value, ← htrimmed]
    rfl
  have hranks : (trims.map fun x => x.1.rank).Pairwise (· < ·) :=
    (activeRecords_ranks t p .trim).sublist (List.filter_sublist.map _)
  have hauth : c.authClamp = true ↔ bounded < amin ∨ amax < bounded := compose_authClamp hbounded
  refine ⟨rfl, rfl, rfl, ?_, hauth, ?_, hranks, activeRecords_ranks t p .limit, fun hu => ⟨fun x => ?_, fun x => ?_⟩⟩
  · rw [← hbounded]
    rfl
  · rw [← hauth, htrimmed, hclamp]
    refine (compose_limited t p amin amax start d ref).trans (or_congr_right ?_)
    simp only [someLimitActs, limitStep_ne_iff]
    constructor
    · rintro ⟨before, x, after, hl, lo, hi, ka, hx, hacts⟩
      exact ⟨before, x, lo, hi, ka, after, hl, hx, hacts⟩
    · rintro ⟨before, x, lo, hi, ka, after, hl, hx, hacts⟩
      exact ⟨before, x, after, hl, lo, hi, ka, hx, hacts⟩
  · rw [List.mem_filter, mem_activeRecords_iff hu, decide_eq_true_iff, and_comm]
    rfl
  · exact mem_activeRecords_iff hu

end Sys2Proof.Machine
end

section
/-! ## What the Sequencer does with the effective target of a recompute (R60, R108 to R117) -/

namespace Sys2Proof.Machine

open Sys2Proof

/-! ### A target handed on, by the phaser's state -/

theorem numeric_iff (s : State) (p : Phaser) : s.numeric p = true ↔ (s.resolver p).record.target ≠ .park := by
  unfold State.numeric
  split
  · rename_i h
    simp [h]
  · rename_i h
    simp [h]

theorem numeric_eq (s : State) (p : Phaser) : s.numeric p = decide ((s.resolver p).record.target ≠ .park) :=
  Bool.eq_iff_iff.mpr ((numeric_iff s p).trans decide_eq_true_iff.symm)

theorem waiting_not_driven {s : State} {p : Phaser} (h : s.waiting p) : ¬ s.driven p := by
  rintro (hd | hd) <;> simp [State.waiting, hd] at h

theorem idle_not_driven {s : State} {p : Phaser}
    (h : (s.phaser p).state = .stopped ∨ (s.phaser p).state = .faulted ∨ (s.phaser p).state = .off) : ¬ s.driven p := by
  rintro (hd | hd) <;> simp [hd] at h

section Handed
variable {p : Phaser} {was : Target} {v : State}

theorem targetHandled_kept (hd : v.driven p) (hn : v.numeric p = true) : targetHandled p was v = v := by
  rcases hd with h | h <;> simp only [targetHandled, h, hn]

theorem targetHandled_home (hd : v.driven p) (hn : v.numeric p = false) :
    targetHandled p was v = updateHeld p (enterReturning p v) := by
  rcases hd with h | h <;> simp only [targetHandled, h, hn]

theorem targetHandled_undriven (hd : ¬ v.driven p) :
    targetHandled p was v =
      if (v.resolver p).record.target = was then v
      else if was = .park then evaluateNow p v else updateHeld p v := by
  unfold targetHandled
  split
  · rename_i h
    exact absurd (.inl h) hd
  · rename_i h
    exact absurd (.inr h) hd
  · rename_i h
    exact absurd (.inl h) hd
  · rename_i h
    exact absurd (.inr h) hd
  · rfl

/-- A phaser at rest is left by an evaluation, but for RELEASE_HELD (R110). -/
theorem evaluateNow_idle (h : (v.phaser p).state = .stopped ∨ (v.phaser p).state = .faulted ∨ (v.phaser p).state = .off) :
    evaluateNow p v = updateHeld p v := by
  rcases h with h | h | h <;> simp only [evaluateNow, h]

/-- A phaser without a numeric target stays RETURNING: the check made on entry fails (R117). -/
theorem enterReturning_park (hu : v.unfaulted p = true) (hn : v.numeric p = false) :
    enterReturning p v = moveTo p .returning (some v.ps.params.returnTimeout) v := by
  have hnumeric : (moveTo p .returning (some v.ps.params.returnTimeout) v).numeric p = false := by
    rw [(local_moveTo p _ _ v).frame.numeric, hn]
  unfold enterReturning
  rw [faultStanding_unfaulted (by rw [moveTo_unfaulted, hu]), checkReturning, if_neg]
  rintro ⟨-, hcheck, -⟩
  rw [hnumeric] at hcheck
  cases hcheck

/-- PARK sends a driven phaser home (R60, R116). -/
theorem targetHandled_sendsHome (hu : v.unfaulted p = true) (hd : v.driven p) (hn : v.numeric p = false) :
    (targetHandled p was v).sentHome p ∧ ((targetHandled p was v).loop p).atRest ∧
      (targetHandled p was v).stands p .releaseHeld = false ∧
      ((v.phaser p).state = .tracking →
        ((targetHandled p was v).phaser p).overBand = none ∧ (targetHandled p was v).stands p .trackErr = false) := by
  rw [targetHandled_home hd hn, enterReturning_park hu hn]
  refine ⟨updateHeld_sentHome (moveTo_sentHome p v), moveTo_atRest hd .returning (some v.ps.params.returnTimeout), ?_, fun ht => ⟨?_, ?_⟩⟩
  · rw [updateHeld_stands, if_pos rfl, State.holds, (local_moveTo p _ _ v).frame.numeric, hn]
    rfl
  · rw [updateHeld_phaser, moveTo_record, if_pos ht]
  · rw [updateHeld_stands, if_neg (by decide), moveTo_stands, if_pos ⟨ht, rfl⟩]

/-- RELEASE_HELD of a waiting phaser after its update (R110). -/
theorem updateHeld_waiting (hw : v.waiting p) : (updateHeld p v).stands p .releaseHeld = (v.numeric p && !v.permission) := by
  unfold State.waiting at hw
  rw [updateHeld_stands, if_pos rfl, State.holds, decide_eq_true hw, Bool.and_true]

theorem updateHeld_failing (hw : v.waiting p) (hn : v.numeric p = true) (hp : v.permission = false) :
    ((updateHeld p v).phaser p).held = v.failing := by
  rw [updateHeld_phaser]
  exact if_pos ((holds_iff v p).mpr ⟨hn, hp, hw⟩)

end Handed

/-! ### The target that a recompute hands on -/

/-- A state with another resolution record and another LIMITED of one phaser: all that the Sequencer reads besides is as it was. -/
structure HandedOn (p : Phaser) (s v : State) : Prop where
  phaser : v.phaser p = s.phaser p
  loop : v.loop p = s.loop p
  channel : v.channel p = s.channel p
  stands : ∀ e, e ≠ .limited → v.stands p e = s.stands p e
  permission : v.permission = s.permission
  failing : v.failing = s.failing

theorem handedOn_record (p : Phaser) (r : Resolver) (b : Bool) (s : State) :
    HandedOn p s ((s.setResolver p r).drive p .limited b) := by
  refine ⟨rfl, rfl, rfl, fun e he => ?_, rfl, rfl⟩
  rw [drive_stands, if_neg fun h => he h.2, setResolver_stands]

section HandedOn
variable {p : Phaser} {s v : State}

theorem HandedOn.unfaulted (h : HandedOn p s v) : v.unfaulted p = s.unfaulted p := by
  rw [State.unfaulted, h.stands .camLost (by decide), h.stands .drvOpen (by decide), h.stands .drvShort (by decide),
    h.stands .drvHot (by decide)]
  rfl

theorem HandedOn.driven (h : HandedOn p s v) : v.driven p ↔ s.driven p := by
  rw [State.driven, h.phaser]
  rfl

theorem HandedOn.waiting (h : HandedOn p s v) : v.waiting p ↔ s.waiting p := by
  rw [State.waiting, h.phaser]
  rfl

/-- The clauses of R60 and R108 to R117 for a target handed on. -/
theorem HandedOn.taken (h : HandedOn p s v) : targetTaken p s (targetHandled p (s.resolver p).record.target v) := by
  intro _ _ was target
  have htarget : target = (v.resolver p).record.target :=
    congrArg (fun r => r.record.target) ((local_targetHandled p was v).frame.resolver p)
  have hnumeric : v.numeric p = decide (target ≠ .park) := by rw [htarget, numeric_eq]
  have hundriven (hd : ¬ s.driven p) := targetHandled_undriven (was := was) (fun hv => hd (h.driven.mp hv))
  have hchanged (hne : was ≠ target) : (v.resolver p).record.target ≠ was := fun he => hne (he.symm.trans htarget.symm)
  refine ⟨fun hsame hpark => ?_, fun hidle => ?_, fun hne hwas hw => ?_, fun hu => ⟨fun hpark hd => ?_, fun hwas ht => ?_⟩⟩
  · have hleft : targetHandled p was v = v := by
      by_cases hd : s.driven p
      · exact targetHandled_kept (h.driven.mpr hd) (by rw [hnumeric]; exact decide_eq_true (hpark.resolve_right fun hn => hn hd))
      · rw [hundriven hd, if_pos (htarget.symm.trans (hsame.resolve_right hd).symm)]
    rw [hleft]
    exact ⟨h.phaser, h.loop, h.channel, h.stands _ (by decide)⟩
  · have hidle' := hidle
    rw [← h.phaser] at hidle'
    rw [hundriven (idle_not_driven hidle), evaluateNow_idle hidle', ite_self]
    split
    · exact ⟨by rw [h.phaser], h.loop, h.channel⟩
    · exact ⟨by rw [updateHeld_state, h.phaser], h.loop, h.channel⟩
  · have hv := h.waiting.mpr hw
    rw [hundriven (waiting_not_driven hw), if_neg (hchanged hne), if_neg hwas]
    refine ⟨by rw [updateHeld_state, h.phaser], h.loop, h.channel, ?_, fun ht hp => ?_⟩
    · rw [updateHeld_waiting hv, hnumeric, h.permission]
    · rw [updateHeld_failing hv (by rw [hnumeric]; exact decide_eq_true ht) (by rw [h.permission, hp]), h.failing]
  · rw [← h.phaser]
    exact targetHandled_sendsHome (by rw [h.unfaulted, hu]) (h.driven.mpr hd)
      (by rw [hnumeric]; exact decide_eq_false fun hn => hn hpark)
  · have hn : v.numeric p = true := by
      rw [hnumeric]
      exact decide_eq_true ht
    have hvu : v.unfaulted p = true := h.unfaulted.trans hu
    have hne : was ≠ target := fun he => ht (he.symm.trans hwas)
    have hnow (hw : s.waiting p) : targetHandled p was v = evaluateNow p v := by
      rw [hundriven (waiting_not_driven hw), if_neg (hchanged hne), if_pos hwas]
    rw [← h.permission]
    refine ⟨fun hs hp => ?_, fun hs hp => ?_, fun hs hp => ?_, fun hw hp => ?_⟩
    · rw [hnow (.inl hs)]
      exact evaluateNow_releases hvu (by rw [h.phaser, hs]) hn hp
    · rw [hnow (.inr (.inl hs))]
      exact evaluateNow_tracks hvu (by rw [h.phaser, hs]) hn hp
    · have hw : s.waiting p := .inr (.inr hs)
      have hlatching : (v.phaser p).state = .latching := by rw [h.phaser, hs]
      rw [hnow hw, evaluateNow_latching hlatching]
      refine ⟨by rw [updateHeld_state, hlatching], ?_⟩
      rw [updateHeld_waiting (h.waiting.mpr hw), hp, Bool.not_true, Bool.and_false]
    · have hv := h.waiting.mpr hw
      rw [hnow hw, evaluateNow_waiting (.inl (by rw [hp, Bool.false_and])) hv]
      refine ⟨by rw [updateHeld_state, h.phaser], ?_, ?_⟩
      · rw [updateHeld_waiting hv, hn, hp]
        rfl
      · rw [updateHeld_failing hv hn hp, h.failing]

end HandedOn

/-- A recompute hands the effective target on in its own event (R60; log 42). -/
theorem recomputePhaser_targetTaken (p : Phaser) (s : State) : targetTaken p s (recomputePhaser p s) := by
  intro htrack hfault
  have hnone := overBandEvent_none htrack hfault
  unfold recomputePhaser
  dsimp only
  rw [hnone]
  exact (handedOn_record p _ _ s).taken htrack hfault

theorem takeRecompute_targetTaken (p : Phaser) {s : State} {who : Asker} {rest : List Asker}
    (h : (s.resolver p).asked = who :: rest) : targetTaken p s (takeRecompute p s) := by
  have htaken := recomputePhaser_targetTaken p (s.setResolver p { s.resolver p with asked := rest })
  unfold targetTaken at htaken ⊢
  rw [setResolver_resolver_self] at htaken
  unfold takeRecompute
  rw [h]
  exact htaken

end Sys2Proof.Machine
end

section
/-! ## The recompute of one phaser (R46 to R56, R60, R61) -/

namespace Sys2Proof.Machine

open Sys2Proof

/-! ### What every recompute does -/

/-- A recompute taken, whatever it resolves to: its notes and its asking are consumed, the window is left, LIMITED and the
Sequencer follow the new record, and nothing else of the table, the decoder, Edge Capture, the port and the other resolutions
moves. -/
structure Recomputed (p : Phaser) (rest : List Asker) (s t : State) : Prop where
  notes : (t.resolver p).notes = []
  asked : (t.resolver p).asked = rest
  amin : (t.resolver p).amin = (s.resolver p).amin
  amax : (t.resolver p).amax = (s.resolver p).amax
  limited : t.stands p .limited = (t.resolver p).record.limited
  taken : targetTaken p s t
  rt : t.rt = s.rt
  ad : t.ad = s.ad
  ec : t.ec = s.ec
  fp : t.fp = s.fp
  others : ∀ q, q ≠ p → t.resolver q = s.resolver q

theorem takeRecompute_recomputed {p : Phaser} {s : State} {who : Asker} {rest : List Asker}
    (h : (s.resolver p).asked = who :: rest) : Recomputed p rest s (takeRecompute p s) := by
  have hf := frame_takeRecompute p s
  have hlimited : (takeRecompute p s).limitedOk p := by
    simp only [takeRecompute, h]
    exact recomputePhaser_limited p _
  have hresolver := takeRecompute_resolver h
  obtain ⟨-, -, hasked, hnotes⟩ := next_fixed { s.resolver p with asked := rest } s.rt.slots p
    (drivenState (if (s.phaser p).state = .tracking ∧ (s.phaser p).faultDue = true then .faulted else (s.phaser p).state))
    (s.loop p).ramp
  exact ⟨by rw [hresolver]; exact hnotes, by rw [hresolver]; exact hasked, hf.amin p, hf.amax p, hlimited,
    takeRecompute_targetTaken p h, hf.event.rt, hf.ad, hf.ec, hf.event.fp, fun q hq => (seenAlike_takeRecompute hq s).resolver⟩

/-! ### With a winner (R50, R51, R56) -/

section Winner
variable {t : Slots} {p : Phaser} {r : Resolver} {driven : Bool} {ramp : Int}

theorem next_winner {c : Cls} {h : Handle} {target : Target} {slew : Nat} {park : Bool} {ka : Nat}
    (hw : t.winner p = some (c, h, .setpoint target slew park ka)) :
    r.next t p driven ramp =
      { r with record := resolveWinner t p r.amin r.amax c h target, notes := [], winnerClass := c, winnerSlew := slew } := by
  simp only [Resolver.next, hw]

/-- With unique keys, the active SETPOINT whose class no other one's exceeds is the winner (R50). -/
theorem winner_of_record {i : Fin 24} {q : Record} {c : Content} (hu : t.uniqueKeys) (hq : (t.get i).record = some q)
    (hp : q.key.phaser = p) (hkind : q.key.kind = .setpoint) (hc : q.life.active = some c)
    (hmax : ∀ j u, (t.get j).record = some u → u.key.phaser = p → u.key.kind = .setpoint → u.life.active ≠ none →
      u.key.cls.rank ≤ q.key.cls.rank) : t.winner p = some (q.key.cls, t.handle i, c) := by
  have hkey : q.key = ⟨p, q.key.cls, .setpoint⟩ := by
    rw [← hp, ← hkind]
  refine winner_of_highest ((mem_activeRecords_iff hu).mpr ⟨i, q, hq, hkey, hc, rfl⟩) fun y hy => ?_
  obtain ⟨j, u, hj, huk, huc, -⟩ := activeRecord_listed (mem_activeRecords.mp hy)
  have hle := hmax j u hj (by rw [huk]) (by rw [huk]) (by rw [huc]; exact Option.some_ne_none _)
  rwa [huk] at hle

/-- No active record of a kind: the list is empty. -/
theorem activeRecords_nil {kind : Kind} (h : ∀ j u, (t.get j).record = some u → u.key.phaser = p → u.key.kind = kind →
    u.life.active = none) : t.activeRecords p kind = [] := by
  refine List.eq_nil_iff_forall_not_mem.mpr fun y hy => ?_
  obtain ⟨j, u, hj, huk, huc, -⟩ := activeRecord_listed (mem_activeRecords.mp hy)
  rw [h j u hj (by rw [huk]) (by rw [huk])] at huc
  cases huc

/-- Without trims and limits a composition is its start clamped to the window (R56). -/
theorem compose_bare {amin amax v : Int} {d : Disposition} {c : Cls} (htrims : t.activeRecords p .trim = [])
    (hlimits : t.activeRecords p .limit = []) :
    compose t p amin amax d v c =
      ⟨.au (clampInt amin amax v), d, [], [], decide (clampInt amin amax v ≠ v), decide (clampInt amin amax v ≠ v)⟩ := by
  unfold compose
  rw [htrims, hlimits]
  rfl

end Winner

/-- Settles O19: the record's content names the winner by the unique keys, and the record written is the composition from
it. -/
theorem recomputeFollowsTheHighestSetpoint : Obligations.RecomputeFollowsTheHighestSetpoint := by
  unfold Obligations.RecomputeFollowsTheHighestSetpoint
  intro p who rest i r target slew park ka s hlaw hwindow hasked hr hp hc hmax h
  obtain ⟨hcontents, hunique⟩ := hlaw
  have hkind : r.key.kind = .setpoint := ((hcontents i r hr).1 _ (.inl hc)).2.symm
  have hwinner := winner_of_record hunique hr hp hkind hc hmax
  have hd := takeRecompute_recomputed hasked
  have hresolver : (takeRecompute p s).resolver p =
      { s.resolver p with
        record := resolveWinner s.rt.slots p (s.resolver p).amin (s.resolver p).amax r.key.cls h target,
        asked := rest, notes := [], winnerClass := r.key.cls, winnerSlew := slew } :=
    (takeRecompute_resolver hasked).trans (next_winner hwinner)
  have hdisposition : ((takeRecompute p s).resolver p).record.disposition = .setpoint h := by
    rw [hresolver]
    cases target <;> rfl
  refine ⟨takeRecompute p s, rfl, hdisposition, hd.notes, hd.asked, by rw [hresolver], by rw [hresolver], hd.amin, hd.amax,
    hd.limited, fun hpark => ?_, fun v hv => ?_, hd.taken, hd.rt, hd.ad, hd.ec, hd.fp, hd.others⟩
  · rw [hresolver, hpark]
    rfl
  · have hrecord : ((takeRecompute p s).resolver p).record =
        compose s.rt.slots p (s.resolver p).amin (s.resolver p).amax (.setpoint h) v r.key.cls := by
      rw [hresolver, hv]
      rfl
    have hle := windowOk_le hwindow
    obtain ⟨w, hw, hlo, hhi⟩ := compose_target s.rt.slots p hle (.setpoint h) v r.key.cls
    refine ⟨hrecord, w, by rw [hrecord, hw], hlo, hhi, fun hbare => ?_⟩
    have hnone (kind : Kind) (hk : kind ≠ .setpoint) : s.rt.slots.activeRecords p kind = [] :=
      activeRecords_nil fun j u hj hup huk => hbare j u hj hup (huk ▸ hk)
    rw [compose_bare (hnone .trim (by decide)) (hnone .limit (by decide))] at hw hrecord
    obtain rfl : clampInt (s.resolver p).amin (s.resolver p).amax v = w := Target.au.inj hw
    rw [hrecord]
    exact ⟨clampInt_eq_max_min hle v, rfl, rfl, rfl, rfl⟩

/-! ### Without a winner (R53 to R55) -/

section NoWinner
variable {t : Slots} {p : Phaser} {r : Resolver} {driven : Bool} {ramp : Int}

theorem next_without (hw : t.winner p = none) :
    r.next t p driven ramp = { r with record := resolveNone t p r driven ramp, notes := [] } := by
  simp only [Resolver.next, hw]

theorem resolveNone_parkDefault (hd : r.record.disposition = .parkDefault) :
    resolveNone t p r driven ramp = parked .parkDefault := by
  simp only [resolveNone, hd]

theorem resolveNone_hold {v : Int} {c : Cls} (hd : r.record.disposition = .hold v c) :
    resolveNone t p r driven ramp = compose t p r.amin r.amax (.hold v c) v c := by
  simp only [resolveNone, hd]

theorem noteOf_find {notes : List Note} {h : Handle} {n : Note} (hn : notes.find? (fun n => n.handle == h) = some n) :
    noteOf notes h = some n.how := by
  unfold noteOf
  rw [hn]
  rfl

section Setpoint
variable {h : Handle} {n : Note} (hd : r.record.disposition = .setpoint h)
  (hn : r.notes.find? (fun n => n.handle == h) = some n)
include hd hn

/-- The rows of R53 that park: an expiry, a retire with park-on-retire, and a phaser that is not driven. -/
theorem resolveNone_parks (hrow : n.how = .expired ∨ n.how = .retired true ∨ driven = false) :
    resolveNone t p r driven ramp = parked .parkDefault := by
  simp only [resolveNone, hd, noteOf_find hn]
  rcases hrow with hrow | hrow | rfl
  · rw [hrow]
  · rw [hrow]
  · cases n.how with
    | expired => rfl
    | retired park => cases park <;> rfl

/-- The row of R54: a retire without park-on-retire of a driven phaser. -/
theorem resolveNone_holds (hhow : n.how = .retired false) (hdriven : driven = true) :
    resolveNone t p r driven ramp = compose t p r.amin r.amax (.hold ramp r.winnerClass) ramp r.winnerClass := by
  simp only [resolveNone, hd, noteOf_find hn, hhow, hdriven]

end Setpoint

/-- The state that the HOLD decision reads: a phaser whose fault time has been found reached counts as FAULTED (R54; log 9). -/
theorem drivenState_iff (x : PhaserRec) :
    drivenState (if x.state = .tracking ∧ x.faultDue = true then .faulted else x.state) = true ↔
      x.state = .releasing ∨ (x.state = .tracking ∧ x.faultDue = false) := by
  cases hs : x.state with
  | tracking => cases hf : x.faultDue <;> simp [drivenState]
  | stopped | parked | releasing | returning | latching | faulted | off => simp [drivenState]

end NoWinner

/-- Settles O20: without an active SETPOINT the record is decided by the previous disposition, and for a previous winner by its
note and the phaser's state. -/
theorem recomputeWithoutWinnerFollowsTheNote : Obligations.RecomputeWithoutWinnerFollowsTheNote := by
  unfold Obligations.RecomputeWithoutWinnerFollowsTheNote
  constructor
  · intro p s hnone
    have hleft : takeRecompute p s = s := by simp only [takeRecompute, hnone]
    exact congrArg Host.Outcome.next hleft
  · intro p who rest s hasked hno x driven held
    have hd := takeRecompute_recomputed hasked
    have hrecord : ((takeRecompute p s).resolver p).record =
        resolveNone s.rt.slots p { x with asked := rest } (drivenState (if (s.phaser p).state = .tracking ∧
          (s.phaser p).faultDue = true then .faulted else (s.phaser p).state)) (s.loop p).ramp := by
      rw [takeRecompute_resolver hasked, State.recomputed, next_without (winner_eq_none (activeRecords_nil hno))]
    have hdriven := drivenState_iff (s.phaser p)
    refine ⟨takeRecompute p s, rfl, hd.notes, hd.asked, hd.amin, hd.amax, hd.limited, fun hpark => ?_,
      fun h n hsetpoint hnote => ⟨fun hrow => ?_, fun hhow hdr => ?_⟩, fun v c hhold => ?_, hd.taken, hd.rt, hd.ad, hd.ec,
      hd.fp, hd.others⟩
    · rw [hrecord]
      exact resolveNone_parkDefault hpark
    · rw [hrecord]
      refine resolveNone_parks (n := n) hsetpoint hnote (hrow.imp_right (Or.imp_right fun hnd => ?_))
      exact Bool.eq_false_iff.mpr fun hd' => hnd (hdriven.mp hd')
    · rw [hrecord]
      exact resolveNone_holds (n := n) hsetpoint hnote hhow (hdriven.mpr hdr)
    · rw [hrecord]
      exact resolveNone_hold hhold

end Sys2Proof.Machine
end

section
/-! ## A write of an authority window bound (R57 to R61, R98) -/

namespace Sys2Proof.Machine

open Sys2Proof

/-! ### The checks of a bound (R57, R99) -/

/-- The spacing check asks for more than the width both ways round, between every two teeth (R99). -/
theorem spaced_iff (w : Int) (l : List Nat) :
    spaced w l = true ↔ l.Pairwise fun (y z : Nat) => w < ((y : Int) - z) % 11520 ∧ w < ((z : Int) - y) % 11520 := by
  induction l with
  | nil => simp [spaced]
  | cons a l ih =>
    have hdistance (z : Nat) :
        w < (cyclicDistance a z : Int) ↔ w < ((a : Int) - z) % 11520 ∧ w < ((z : Int) - a) % 11520 := by
      unfold cyclicDistance
      rw [Nat.cast_min, cyc_int, cyc_int, lt_min_iff]
    simp only [spaced, Bool.and_eq_true, List.all_eq_true, decide_eq_true_iff, hdistance, ih, List.pairwise_cons]

/-- The same of the angles taken as integers, in the order of the list. -/
theorem spaced_iff_int (w : Int) (l : List Nat) :
    spaced w l = true ↔
      (do let a ← l; pure (a : Int)).Pairwise fun y z => w < (y - z) % 11520 ∧ w < (z - y) % 11520 := by
  have hmap : (do let a ← l; pure (a : Int)) = l.map Nat.cast := List.flatMap_pure_eq_map _ l
  rw [spaced_iff, hmap, List.pairwise_map]

/-- A bound of the right sign, taken into its range. -/
theorem readBound_lower (v : Int) : readBound .lower v = if max (-5760) v < 0 then some (max (-5760) v) else none :=
  if_congr (by omega) rfl rfl

theorem readBound_upper (v : Int) : readBound .upper v = if 0 < min 5759 v then some (min 5759 v) else none :=
  if_congr (by omega) rfl rfl

section Write
variable {p : Phaser} {b : Bound} {v : Half} {s : State}

theorem writeAuthority_wrongSign (h : readBound b v.toInt = none) : writeAuthority p b v s = .error .badValue := by
  simp only [writeAuthority, h]

theorem writeAuthority_spaced {w lo hi : Int} (hw : readBound b v.toInt = some w)
    (hbound : (s.resolver p).withBound b w = { s.resolver p with amin := lo, amax := hi }) :
    writeAuthority p b v s =
      if spaced (windowWidth lo hi s.ec.margin) (s.cam p).teeth then .ok (recomputePhaser p (s.boundStored p b w))
      else .error .badValue := by
  simp only [writeAuthority, State.boundStored, hw, hbound]
  rfl

end Write

/-! ### The ramp target and the output through a recompute (R59, R118) -/

/-- The ramp target and the output duty of a phaser are as they were. -/
def rampKept (p : Phaser) (s t : State) : Prop :=
  (t.loop p).ramp = (s.loop p).ramp ∧ (t.loop p).output = (s.loop p).output

section Ramp
variable {p : Phaser} {s : State}

theorem rampKept.trans {t u : State} (a : rampKept p s t) (b : rampKept p t u) : rampKept p s u :=
  ⟨b.1.trans a.1, b.2.trans a.2⟩

theorem rampKept_departed {t : State} {c : Prop} [Decidable c]
    (h : t.loop p = if c then (s.loop p).departed else s.loop p) : rampKept p s t := by
  unfold rampKept
  rw [h]
  split
  · exact ⟨rfl, rfl⟩
  · exact ⟨rfl, rfl⟩

theorem rampKept_moveTo (p : Phaser) (st : PhaserState) (timer : Option Nat) (s : State) :
    rampKept p s (moveTo p st timer s) := rampKept_departed (moveTo_loop p st timer s)

theorem rampKept_faultStanding (p : Phaser) (s : State) : rampKept p s (faultStanding p s) := by
  have entered : rampKept p s (faultEntry p CauseSet.empty s) := by
    unfold rampKept
    rw [faultEntry_loop]
    exact rampKept_moveTo p .faulted none s
  unfold faultStanding
  split
  · exact ⟨rfl, rfl⟩
  · exact ⟨rfl, rfl⟩
  · split
    · exact ⟨rfl, rfl⟩
    · exact entered

theorem rampKept_enter (p : Phaser) (st : PhaserState) (timer : Option Nat) (s : State) :
    rampKept p s (faultStanding p (moveTo p st timer s)) :=
  (rampKept_moveTo p st timer s).trans (rampKept_faultStanding p _)

/-- On its way home a phaser without a numeric target does not enter TRACKING. -/
theorem rampKept_enterReturning (hn : s.numeric p = false) : rampKept p s (enterReturning p s) := by
  have hf := ((local_moveTo p .returning (some s.ps.params.returnTimeout) s).trans (local_faultStanding p _)).frame
  unfold enterReturning checkReturning
  rw [hf.numeric, hn, if_neg (by simp)]
  exact rampKept_enter p _ _ s

/-- Of the waiting phasers only a RETURNING one can enter TRACKING at once. -/
theorem rampKept_evaluateNow (hd : ¬ s.driven p) (hr : (s.phaser p).state ≠ .returning) : rampKept p s (evaluateNow p s) := by
  have parked : rampKept p s (checkParked p s) := by
    unfold checkParked
    split
    · exact rampKept_enter p _ _ s
    · exact ⟨rfl, rfl⟩
  cases h : (s.phaser p).state with
  | parked =>
    rw [evaluateNow_parked h]
    exact parked
  | returning => exact absurd h hr
  | releasing => exact absurd (.inl h) hd
  | tracking => exact absurd (.inr h) hd
  | latching =>
    rw [evaluateNow_latching h]
    exact ⟨rfl, rfl⟩
  | stopped | faulted | off =>
    rw [evaluateNow_idle (by simp [h])]
    exact ⟨rfl, rfl⟩

theorem rampKept_targetHandled (was : Target) (hr : (s.phaser p).state ≠ .returning) :
    rampKept p s (targetHandled p was s) := by
  by_cases hd : s.driven p
  · cases hn : s.numeric p
    · rw [targetHandled_home hd hn]
      exact rampKept_enterReturning hn
    · rw [targetHandled_kept hd hn]
      exact ⟨rfl, rfl⟩
  · rw [targetHandled_undriven hd]
    split
    · exact ⟨rfl, rfl⟩
    · split
      · exact rampKept_evaluateNow hd hr
      · exact ⟨rfl, rfl⟩

theorem rampKept_record (p : Phaser) (r : Resolver) (b : Bool) (s : State) :
    rampKept p s ((s.setResolver p r).drive p .limited b) := ⟨rfl, rfl⟩

theorem rampKept_recomputePhaser (hr : (s.phaser p).state ≠ .returning) : rampKept p s (recomputePhaser p s) := by
  have hover : rampKept p s (overBandEvent p s) := rampKept_departed (overBandEvent_loop p s)
  have hstate : ((overBandEvent p s).phaser p).state ≠ .returning := by
    rw [overBandEvent_state]
    split
    · decide
    · exact hr
  exact (hover.trans (rampKept_record p _ _ _)).trans (rampKept_targetHandled _ hstate)

end Ramp

/-! ### The write and its recompute -/

/-- A recompute asked for by any asker, and then taken, is the recompute (R48). -/
theorem takeRecompute_asked (p : Phaser) (who : Asker) (s : State) :
    takeRecompute p (s.setResolver p { s.resolver p with asked := who :: (s.resolver p).asked }) = recomputePhaser p s := by
  have hset (x : Resolver) : (s.setResolver p x).setResolver p (s.resolver p) = s := by
    simp only [State.setResolver, State.resolver, quad_set_set, quad_set_get]
  unfold takeRecompute
  rw [setResolver_resolver_self]
  exact congrArg (recomputePhaser p) (hset _)

/-- Settles O50: the two checks are those of the write, and the write's state is that of a recompute taken from the state with
the bound stored. -/
theorem authorityWindowIsCheckedStoredAndRecomputed : Obligations.AuthorityWindowIsCheckedStoredAndRecomputed := by
  unfold Obligations.AuthorityWindowIsCheckedStoredAndRecomputed
  intro snd p b v s htaken x w lo hi signed apart
  have hbound : x.withBound b w = { x with amin := lo, amax := hi } := by cases b <;> rfl
  have hwrong : ¬ signed → readBound b v.toInt = none := by
    cases b
    · exact fun h => (readBound_lower _).trans (if_neg h)
    · exact fun h => (readBound_upper _).trans (if_neg h)
  have hsigned : signed → readBound b v.toInt = some w := by
    cases b
    · exact fun h => (readBound_lower _).trans (if_pos h)
    · exact fun h => (readBound_upper _).trans (if_pos h)
  have hapart : spaced (windowWidth lo hi s.ec.margin) (s.cam p).teeth = true ↔ apart := spaced_iff_int _ _
  refine ⟨fun hno => ?_, fun hs ha => ?_⟩
  · refine next_of_taken htaken (ownWrite_refused ?_)
    by_cases hs : signed
    · rw [writeAuthority_spaced (hsigned hs) hbound, if_neg fun hsp => hno ⟨hs, hapart.mp hsp⟩]
    · exact writeAuthority_wrongSign (hwrong hs)
  · have hstored : writeAuthority p b v s = .ok (recomputePhaser p (s.boundStored p b w)) := by
      rw [writeAuthority_spaced (hsigned hs) hbound, if_pos (hapart.mpr ha)]
    refine ⟨recomputePhaser p (s.boundStored p b w), ?_⟩
    intro r bounded u
    have hu : s.boundStored p b w = u := by
      unfold State.boundStored
      dsimp only
      rw [hbound]
      rfl
    rw [hu] at hstored ⊢
    have hur : u.resolver p = bounded := setResolver_resolver_self _ _ _
    have hf := frame_recomputePhaser p u
    have hresolver := recomputePhaser_resolver p u
    obtain ⟨hamin, hamax, hasked, hnotes⟩ := next_fixed (u.resolver p) u.rt.slots p
      (drivenState (if (u.phaser p).state = .tracking ∧ (u.phaser p).faultDue = true then .faulted
        else (u.phaser p).state)) (u.loop p).ramp
    rw [hur] at hamin hamax hasked hnotes hresolver
    have hmin : ((recomputePhaser p u).resolver p).amin = lo := by rw [hresolver]; exact hamin
    have hmax : ((recomputePhaser p u).resolver p).amax = hi := by rw [hresolver]; exact hamax
    refine ⟨?_, fun who => ?_, recomputePhaser_targetTaken p u, hmin, hmax, by rw [hresolver]; exact hnotes,
      by rw [hresolver]; exact hasked, recomputePhaser_limited p u, fun hx => ?_, fun hr => ?_, hf.event.rt, hf.ad, hf.ec,
      hf.event.fp⟩
    · have hvalue : readParam (.authority b p) (recomputePhaser p u) = .ofHalf (BitVec.ofInt 16 w) := by
        cases b
        · exact congrArg intValue hmin
        · exact congrArg intValue hmax
      rw [← hvalue]
      exact next_of_taken htaken (ownWrite_stored hstored)
    · refine congrArg Host.Outcome.next ?_
      rw [← takeRecompute_asked p who u, hur]
    · refine recomputePhaser_targetOk p ?_
      have hwindow := withBound_windowOk hx (hsigned hs)
      rw [hbound] at hwindow
      rw [hur]
      exact windowOk_le hwindow
    · obtain ⟨hramp, houtput⟩ := rampKept_recomputePhaser (p := p) (s := u) hr
      have hloop : u.loop p = { s.loop p with ramp := if r < lo then lo else if hi < r then hi else r } :=
        setLoop_loop_self _ p _
      exact ⟨hramp, by rw [houtput, hloop]⟩

end Sys2Proof.Machine
end

section
/-! ## The readouts READ_PHASER, RESOLVE and READ_ENGINE (R62, R81, R101, R127, R146, R160, R182, 10.8) -/

namespace Sys2Proof.Machine

open Sys2Proof

/-! ### A readout as its fields one after another -/

section Fields
variable {l : List (List Byte)} {lens : List Nat} {i k n : Nat}

/-- Bytes k to k + n − 1 of a readout are its field i, where the fields before it have k bytes. -/
theorem field_slice (h : l.map List.length = lens) (hk : (lens.take i).sum = k) (hn : lens[i]? = some n) {x : List Byte}
    (hx : l[i]? = some x) : (l.flatten.drop k).take n = x := by
  obtain ⟨hi, rfl⟩ := List.getElem?_eq_some_iff.mp hx
  have hlen : (l.take i).flatten.length = k := by
    rw [List.length_flatten, List.map_take, h, hk]
  have hfield : l[i].length = n := by
    rw [← h, List.getElem?_map, hx] at hn
    exact Option.some.inj hn
  have hl : l.flatten = (l.take i).flatten ++ (l[i] ++ (l.drop (i + 1)).flatten) := by
    rw [← List.flatten_cons, ← List.drop_eq_getElem_cons hi, ← List.flatten_append, List.take_append_drop]
  rw [hl, List.drop_left' hlen, List.take_left' hfield]

/-- A field of one byte. -/
theorem field_byte (h : l.map List.length = lens) (hk : (lens.take i).sum = k) (hn : lens[i]? = some 1) {b : Byte}
    (hx : l[i]? = some [b]) : l.flatten.getD k 0#8 = b := by
  have hslice := field_slice h hk hn hx
  have hhead := congrArg (fun m => m[0]?) hslice
  simp only [List.getElem?_take, List.getElem?_drop, Nat.lt_one_iff, if_true, Nat.add_zero, List.getElem?_cons_zero] at hhead
  rw [List.getD_eq_getElem?_getD, hhead]
  rfl

/-- The bytes of the fields from the last one on. -/
theorem field_last (h : l.map List.length = lens) (hk : (lens.take i).sum = k) {x : List Byte} (hx : l.drop i = [x]) :
    l.flatten.drop k = x := by
  have hlen : (l.take i).flatten.length = k := by
    rw [List.length_flatten, List.map_take, h, hk]
  conv_lhs => rw [← List.take_append_drop i l, hx]
  rw [List.flatten_append, List.drop_left' hlen, List.flatten_singleton]

theorem fields_length (h : l.map List.length = lens) : l.flatten.length = lens.sum := by
  rw [List.length_flatten, h]

end Fields

/-! ### The encodings of single fields (10.8) -/

theorem byteOfFlags_eq (flags : List Bool) : byteOfFlags flags = BitVec.ofNat 8 (flagNumber flags) := rfl

theorem byteOfFlags_bit (flags : List Bool) {k : Nat} (hk : k < 8) : (byteOfFlags flags).getLsbD k = flags.getD k false := by
  rw [byteOfFlags_eq, BitVec.getLsbD_ofNat, flagNumber_testBit, decide_eq_true hk, Bool.true_and]

theorem byteOfFlags_lt (flags : List Bool) : (byteOfFlags flags).toNat < 2 ^ flags.length := by
  rw [byteOfFlags_eq, BitVec.toNat_ofNat]
  exact Nat.lt_of_le_of_lt (Nat.mod_le _ _) (flagNumber_lt flags)

theorem handleBytes_length (h : Option Handle) : (handleBytes h).length = 2 := by
  cases h <;> rfl

theorem measurementBytes_length (m : Option Measurement) : (measurementBytes m).length = 4 := by
  cases m <;> rfl

theorem held_length (r : Resolution) : r.held.length = 3 := by
  unfold Resolution.held
  split <;> rfl

theorem handles_length (l : List Handle) : (l.flatMap Handle.bytes).length = 2 * l.length := by
  induction l with
  | nil => rfl
  | cons h l ih =>
    rw [List.flatMap_cons, List.length_append, ih, List.length_cons]
    simp only [Handle.bytes, List.length_cons, List.length_nil]
    omega

/-- A byte of a 24-bit count. -/
theorem byteOfCount (n k : Nat) (hk : k ≤ 16) : (BitVec.ofNat 24 n).extractLsb' k 8 = BitVec.ofNat 8 (n / 2 ^ k) := by
  refine BitVec.eq_of_getLsbD_eq fun j hj => ?_
  rw [BitVec.getLsbD_extractLsb', BitVec.getLsbD_ofNat, BitVec.getLsbD_ofNat, Nat.testBit_div_two_pow,
    decide_eq_true hj, decide_eq_true (by omega : k + j < 24), Nat.add_comm, Bool.true_and]

/-! ### The three readouts by their fields -/

/-- The fields of a phaser readout. -/
def State.phaserFields (s : State) (p : Phaser) : List (List Byte) :=
  [[(s.phaser p).state.byte], halfBytes (shownTimer (s.phaser p).timer), halfBytes (optionHalf (s.phaser p).overBand),
   halfBytes (s.resolver p).record.target.half,
   (s.resolver p).record.disposition.byte :: handleBytes (s.resolver p).record.winner,
   halfBytes (BitVec.ofInt 16 (s.loop p).ramp), measurementBytes (s.cam p).last,
   halfBytes (BitVec.ofInt 16 (roundDiv (s.loop p).integrator 256)) ++ halfBytes (BitVec.ofNat 16 (s.loop p).output),
   [(s.loop p).sat.byte],
   halfBytes (BitVec.ofNat 16 (s.channel p).commanded) ++ halfBytes (BitVec.ofNat 16 (s.channel p).active),
   [(s.phGroup p).conds.statusByte], [(s.phaser p).held.byte], [(s.phaser p).causes.byte],
   [BitVec.ofNat 8 (s.cam p).rejects], [flagByte (s.phaser p).enable]]

theorem phaserReadout_eq (s : State) (p : Phaser) : s.phaserReadout p = (s.phaserFields p).flatten := by
  simp [State.phaserReadout, State.phaserFields, Loop.bytes]

theorem phaserFields_lengths (s : State) (p : Phaser) :
    (s.phaserFields p).map List.length = [1, 2, 2, 2, 3, 2, 4, 4, 1, 4, 1, 1, 1, 1, 1] := by
  simp [State.phaserFields, halfBytes, handleBytes_length, measurementBytes_length]

/-- The fields of a resolution readout. -/
def Resolution.fields (r : Resolution) : List (List Byte) :=
  [halfBytes r.target.half, r.disposition.byte :: handleBytes r.winner, r.held, [byteOfFlags [r.authClamp, r.limited]],
   [BitVec.ofNat 8 r.trims.length], r.trims.flatMap Handle.bytes, [BitVec.ofNat 8 r.limits.length],
   r.limits.flatMap Handle.bytes]

theorem resolutionReadout_eq (r : Resolution) : r.readout = r.fields.flatten := by
  simp [Resolution.readout, Resolution.fields]

theorem resolutionFields_lengths (r : Resolution) :
    r.fields.map List.length = [2, 3, 3, 1, 1, 2 * r.trims.length, 1, 2 * r.limits.length] := by
  simp only [Resolution.fields, List.map_cons, List.map_nil, handles_length, held_length, List.length_cons,
    handleBytes_length]
  rfl

/-- The fields of an engine readout. -/
def State.engineFields (s : State) : List (List Byte) :=
  [[s.ad.sync.byte], [s.ad.indexByte], halfBytes (optionHalf s.ad.shownAngle) ++ halfBytes (optionHalf s.ad.rearAngle),
   halfBytes (BitVec.ofNat 16 s.ad.speed), s.ad.periodBytes, [BitVec.ofNat 8 s.ad.doubt], reportPayload s,
   [flagByte s.ps.cond.fresh], halfBytes (shownTimer s.ps.cond.timer)]

theorem engineReadout_eq (s : State) : s.engineReadout = s.engineFields.flatten := by
  simp [State.engineReadout, State.engineFields]

theorem engineFields_lengths (s : State) : s.engineFields.map List.length = [1, 1, 4, 2, 3, 1, 5, 1, 2] := rfl

/-! ### What the clauses read of each field -/

/-- The condition status byte bit by bit. -/
theorem statusByte_bit (c : PhConds) {e : PhCond} {k : Nat}
    (h : (e, k) ∈ [(PhCond.camLost, 0), (.trackErr, 1), (.releaseHeld, 2), (.limited, 3), (.faulted, 4), (.drvOpen, 5),
      (.drvShort, 6), (.drvHot, 7)]) : c.statusByte.getLsbD k = (c.get e).declared := by
  simp only [List.mem_cons, Prod.mk.injEq, List.not_mem_nil, or_false] at h
  rcases h with ⟨rfl, rfl⟩ | ⟨rfl, rfl⟩ | ⟨rfl, rfl⟩ | ⟨rfl, rfl⟩ | ⟨rfl, rfl⟩ | ⟨rfl, rfl⟩ | ⟨rfl, rfl⟩ | ⟨rfl, rfl⟩ <;>
    exact byteOfFlags_bit _ (by decide)

theorem heldByte_bits (h : HeldCauses) :
    h.byte.getLsbD 0 = h.stale ∧ h.byte.getLsbD 1 = h.oilLow ∧ h.byte.getLsbD 2 = h.oilCold ∧
      h.byte.getLsbD 3 = h.speedLow ∧ h.byte.toNat < 16 :=
  ⟨byteOfFlags_bit _ (by decide), byteOfFlags_bit _ (by decide), byteOfFlags_bit _ (by decide),
    byteOfFlags_bit _ (by decide), byteOfFlags_lt _⟩

theorem causeByte_bits (c : CauseSet) :
    c.byte.getLsbD 0 = c.drvOpen ∧ c.byte.getLsbD 1 = c.drvShort ∧ c.byte.getLsbD 2 = c.drvHot ∧
      c.byte.getLsbD 3 = c.camLost ∧ c.byte.getLsbD 4 = c.trackErr ∧ c.byte.getLsbD 5 = c.latchFail ∧
      c.byte.toNat < 64 :=
  ⟨byteOfFlags_bit _ (by decide), byteOfFlags_bit _ (by decide), byteOfFlags_bit _ (by decide),
    byteOfFlags_bit _ (by decide), byteOfFlags_bit _ (by decide), byteOfFlags_bit _ (by decide), byteOfFlags_lt _⟩

theorem periodBytes_some {d : Decoder} {n : Nat} (h : d.lastNormal = some n) :
    d.periodBytes = [BitVec.ofNat 8 (n / 65536), BitVec.ofNat 8 (n / 256), BitVec.ofNat 8 n] := by
  simp only [Decoder.periodBytes, h]
  rw [byteOfCount n 16 (by omega), byteOfCount n 8 (by omega), byteOfCount n 0 (by omega), Nat.pow_zero, Nat.div_one]
  rfl

theorem periodBytes_none {d : Decoder} (h : d.lastNormal = none) : d.periodBytes = [0xFF#8, 0xFF#8, 0xFF#8] := by
  simp only [Decoder.periodBytes, h]
  rfl

/-- The four bytes of the two angles: absent, the crank angle alone, or both (R81). -/
theorem angleBytes_absent {d : Decoder} (h : d.sync = .stopped ∨ d.sync = .seeking) :
    halfBytes (optionHalf d.shownAngle) ++ halfBytes (optionHalf d.rearAngle) = [0xFF#8, 0xFF#8, 0xFF#8, 0xFF#8] := by
  rcases h with h | h <;> simp only [Decoder.shownAngle, Decoder.rearAngle, h] <;> rfl

theorem angleBytes_crank {d : Decoder} {k : Nat} (h : d.sync = .crankSync) (hk : d.toothIndex = some k) :
    halfBytes (optionHalf d.shownAngle) ++ halfBytes (optionHalf d.rearAngle) =
      halfBytes (BitVec.ofNat 16 (k * (5760 / d.teeth))) ++ [0xFF#8, 0xFF#8] := by
  simp only [Decoder.shownAngle, Decoder.rearAngle, h, hk]
  rfl

theorem angleBytes_cycle {d : Decoder} {k : Nat} {half : Half2} (h : d.sync = .cycleSync) (hk : d.toothIndex = some k)
    (hh : d.half = some half) :
    halfBytes (optionHalf d.shownAngle) ++ halfBytes (optionHalf d.rearAngle) =
      halfBytes (BitVec.ofNat 16 (k * (5760 / d.teeth) + (if half = .second then 5760 else 0))) ++
        halfBytes (BitVec.ofNat 16
          (((k * (5760 / d.teeth) + (if half = .second then 5760 else 0) : Nat) - (d.firingOffset : Int)) % 11520).toNat) := by
  have hangle : d.angle = k * (5760 / d.teeth) + (if half = .second then 5760 else 0) := by
    simp only [Decoder.angle, hk, hh, Option.some.injEq, Option.getD_some]
    rfl
  simp only [Decoder.shownAngle, Decoder.rearAngle, h, hangle]
  rfl

/-! ### The three commands -/

theorem ownReadPhaser_named (p : Phaser) (s : State) :
    ownReadPhaser (BitVec.ofNat 8 p.index) s = (s, ⟨.ok, (s.phaserFields p).flatten⟩) := by
  simp only [ownReadPhaser, phaserOfByte_index, Reply.yes, phaserReadout_eq]

theorem ownResolve_named (p : Phaser) (s : State) :
    ownResolve (BitVec.ofNat 8 p.index) s = (s, ⟨.ok, (s.resolver p).record.fields.flatten⟩) := by
  simp only [ownResolve, phaserOfByte_index, Reply.yes, resolutionReadout_eq]

/-- Settles O51: each readout is the list of its fields, and each clause reads one of them. -/
theorem readoutsShowTheStateAndChangeNothing : Obligations.ReadoutsShowTheStateAndChangeNothing := by
  unfold Obligations.ReadoutsShowTheStateAndChangeNothing
  intro timer target disposition snd s
  have htarget (t : Target) : halfBytes t.half = target t := by cases t <;> rfl
  have htimer (n : Option Nat) : halfBytes (shownTimer n) = timer n := by cases n <;> rfl
  have hdisposition (r : Resolution) : r.disposition.byte :: handleBytes r.winner = disposition r.disposition := by
    unfold Resolution.winner
    cases r.disposition <;> rfl
  refine ⟨fun b hb => ?_, ?_, ?_, ?_⟩
  · have hnone := (phaserOfByte_none b).mpr hb
    exact ⟨fun ht => next_of_taken ht (by simp only [ownReadPhaser, hnone, Reply.no]),
      fun ht => next_of_taken ht (by simp only [ownResolve, hnone, Reply.no])⟩
  · intro p b x ht
    have hl := phaserFields_lengths s p
    have hband : (((s.phaserFields p).flatten.drop 3).take 2) = halfBytes (optionHalf x.overBand) :=
      field_slice hl (i := 2) rfl rfl rfl
    have hlast : (((s.phaserFields p).flatten.drop 12).take 4) = measurementBytes (s.cam p).last :=
      field_slice hl (i := 6) rfl rfl rfl
    have hstatus : (s.phaserFields p).flatten.getD 25 0#8 = (s.phGroup p).conds.statusByte :=
      field_byte hl (i := 10) rfl rfl rfl
    have hheld : (s.phaserFields p).flatten.getD 26 0#8 = x.held.byte := field_byte hl (i := 11) rfl rfl rfl
    have hcauses : (s.phaserFields p).flatten.getD 27 0#8 = x.causes.byte := field_byte hl (i := 12) rfl rfl rfl
    refine ⟨_, next_of_taken ht (ownReadPhaser_named p s), fields_length hl, ?_, ?_, fun hn => ?_, fun n hn => ?_, ?_, ?_,
      field_slice hl (i := 5) rfl rfl rfl, fun m hm => ?_, fun hm => ?_, field_slice hl (i := 7) rfl rfl rfl, ?_,
      field_slice hl (i := 9) rfl rfl rfl, fun e k he => ?_, ?_, ?_, field_byte hl (i := 13) rfl rfl rfl,
      field_byte hl (i := 14) rfl rfl rfl⟩
    · rw [field_byte hl (i := 0) (k := 0) rfl rfl rfl]
      cases x.state <;> rfl
    · rw [field_slice hl (i := 1) (k := 1) rfl rfl rfl]
      exact htimer _
    · rw [hband, hn]
      rfl
    · rw [hband, hn]
      rfl
    · rw [field_slice hl (i := 3) (k := 5) rfl rfl rfl]
      exact htarget _
    · rw [field_slice hl (i := 4) (k := 7) rfl rfl rfl]
      exact hdisposition _
    · rw [hlast, hm]
      rfl
    · rw [hlast, hm]
      rfl
    · rw [field_byte hl (i := 8) (k := 20) rfl rfl rfl]
      cases (s.loop p).sat <;> rfl
    · rw [hstatus]
      exact statusByte_bit _ he
    · rw [hheld]
      exact heldByte_bits _
    · rw [hcauses]
      exact causeByte_bits _
  · intro p b r ht
    have hl := resolutionFields_lengths r
    have hheld : ((r.fields.flatten.drop 5).take 3) = r.held := field_slice hl (i := 2) rfl rfl rfl
    refine ⟨_, next_of_taken ht (ownResolve_named p s), ?_, ?_, ?_, fun v c hd => ?_, fun hd => ?_,
      field_byte hl (i := 3) rfl rfl rfl, field_byte hl (i := 4) rfl rfl rfl, field_slice hl (i := 5) rfl rfl rfl,
      field_byte hl (i := 6) ?_ rfl rfl, field_last hl (i := 7) ?_ rfl⟩
    · rw [fields_length hl]
      simp only [List.sum_cons, List.sum_nil]
      omega
    · exact (field_slice hl (i := 0) (k := 0) rfl rfl rfl).trans (htarget _)
    · exact (field_slice hl (i := 1) (k := 2) rfl rfl rfl).trans (hdisposition _)
    · rw [hheld, Resolution.held, hd]
    · rw [hheld]
      unfold Resolution.held
      split
      · rename_i v c hhold
        exact absurd hhold (hd v c)
      · rfl
    · simp only [List.take_succ_cons, List.take_zero, List.sum_cons, List.sum_nil]
      omega
    · simp only [List.take_succ_cons, List.take_zero, List.sum_cons, List.sum_nil]
      omega
  · intro d ht
    have hl := engineFields_lengths s
    have hindex : s.engineFields.flatten.getD 1 0#8 = d.indexByte := field_byte hl (i := 1) rfl rfl rfl
    have hangles : ((s.engineFields.flatten.drop 2).take 4) =
        halfBytes (optionHalf d.shownAngle) ++ halfBytes (optionHalf d.rearAngle) := field_slice hl (i := 2) rfl rfl rfl
    have hperiod : ((s.engineFields.flatten.drop 8).take 3) = d.periodBytes := field_slice hl (i := 4) rfl rfl rfl
    refine ⟨_, next_of_taken ht (congrArg (fun a => (s, Reply.yes a)) (engineReadout_eq s)), fields_length hl, ?_,
      fun k hk => ?_, fun hk => ?_, fun hs => ?_, fun k hs hk => ?_, fun k half hs hk hh => ?_,
      field_slice hl (i := 3) rfl rfl rfl, fun hn => ?_, fun n hn => ?_, field_byte hl (i := 5) rfl rfl rfl,
      field_slice hl (i := 6) rfl rfl rfl, field_byte hl (i := 7) rfl rfl rfl, ?_⟩
    · rw [field_byte hl (i := 0) (k := 0) rfl rfl rfl]
      cases d.sync <;> rfl
    · rw [hindex, Decoder.indexByte, hk]
    · rw [hindex, Decoder.indexByte, hk]
    · rw [hangles, angleBytes_absent hs]
    · rw [hangles, angleBytes_crank hs hk]
    · exact hangles.trans (angleBytes_cycle hs hk hh)
    · rw [hperiod, periodBytes_none hn]
    · rw [hperiod, periodBytes_some hn]
    · rw [field_slice hl (i := 8) (k := 18) rfl rfl rfl]
      exact htimer _

end Sys2Proof.Machine
end

section
/-! ## The input filter, the sync cam's count and the cam edge queues (R66, R74, R87, R88) -/

namespace Sys2Proof.Machine

open Sys2Proof

/-! ### What the filter does with a transition (R66) -/

theorem filterInput_open (held : Nat) : filterInput true held = (false, false) := rfl

theorem filterInput_short {held : Nat} (h : held < 16) : filterInput false held = (false, true) := if_pos h

theorem filterInput_accepted {held : Nat} (h : 16 ≤ held) : filterInput false held = (true, false) :=
  if_neg (Nat.not_lt.mpr h)

/-! ### A transition on the CRANK input -/

section Crank
variable {s : State} {held : Nat} {rising : Bool}

theorem setDecoder_filtered (h : s.ad.pulseOpen = false) : s.setDecoder { s.ad with pulseOpen := false } = s := by
  rw [← h]
  rfl

/-- An ignored transition changes the filter alone. -/
theorem crankTransition_ignored {b : Bool} (h : filterInput s.ad.pulseOpen held = (false, b)) (t : Tick) (o : ToothOrder) :
    crankTransition rising held t o s = s.setDecoder { s.ad with pulseOpen := b } := by
  unfold crankTransition
  rw [h]
  exact if_neg fun ha => Bool.false_ne_true ha.1

theorem crankTransition_otherPolarity (hp : s.ad.pulseOpen = false) (hh : 16 ≤ held) (hr : rising ≠ s.ad.crankRises)
    (t : Tick) (o : ToothOrder) : crankTransition rising held t o s = s := by
  unfold crankTransition
  rw [hp, filterInput_accepted hh]
  dsimp only
  rw [setDecoder_filtered hp]
  exact if_neg fun ha => hr ha.2

end Crank

/-! ### A transition on a cam input -/

section Cam
variable {s : State} {c : Phaser} {held : Nat} {rising : Bool}

theorem setCam_filtered (h : (s.cam c).pulseOpen = false) : s.setCam c { s.cam c with pulseOpen := false } = s := by
  have hsame : { s.cam c with pulseOpen := false } = s.cam c := by rw [← h]
  rw [hsame, State.setCam, State.cam, quad_set_get]

/-- An ignored transition changes the filter alone. -/
theorem camTransition_ignored {b : Bool} (h : filterInput (s.cam c).pulseOpen held = (false, b)) (t : Tick) :
    camTransition c rising held t s = s.setCam c { s.cam c with pulseOpen := b } := by
  unfold camTransition
  rw [h]
  exact if_neg fun ha => Bool.false_ne_true ha.1

/-- An accepted transition is a cam edge where it has the cam's polarity, and nothing otherwise. -/
theorem camTransition_accepted (hp : (s.cam c).pulseOpen = false) (hh : 16 ≤ held) (t : Tick) :
    camTransition c rising held t s = if rising = (s.cam c).rises then takeEdge c t s else s := by
  unfold camTransition
  rw [hp, filterInput_accepted hh]
  dsimp only
  rw [setCam_filtered hp]
  exact if_congr (and_iff_right rfl) rfl rfl

end Cam

/-! ### A cam edge taken (R74, R87, R88) -/

section Edge
variable {s : State} {c : Phaser}

theorem countEdge_sync (d : Decoder) (c : Phaser) : (d.countEdge c).sync = d.sync := (countEdge_fields d c).1

/-- Outside CYCLE_SYNC an edge is at most counted. -/
theorem takeEdge_outside (h : s.ad.sync ≠ .cycleSync) (t : Tick) : takeEdge c t s = s.setDecoder (s.ad.countEdge c) :=
  if_neg fun hs => h ((countEdge_sync s.ad c).symm.trans hs)

theorem takeEdge_within (h : s.ad.sync = .cycleSync) (t : Tick) :
    takeEdge c t s = queueEdge c t (s.setDecoder (s.ad.countEdge c)) :=
  if_pos ((countEdge_sync s.ad c).trans h)

theorem queueEdge_joins (h : (s.cam c).queue.length < 2) (t : Tick) :
    queueEdge c t s = s.setCam c { s.cam c with queue := (s.cam c).queue ++ [t] } := if_pos h

theorem queueEdge_overruns (h : 2 ≤ (s.cam c).queue.length) (t : Tick) : queueEdge c t s = s.latchOverrun c :=
  if_neg (Nat.not_lt.mpr h)

/-- EDGE_OVERRUN counted, saturating (R88, R165). -/
theorem latchOverrun_eq (s : State) (c : Phaser) :
    s.latchOverrun c = s.setPhGroup c { s.phGroup c with
      overrun := match (s.phGroup c).overrun with
        | none => some ⟨1, ()⟩
        | some l => some ⟨min 255 (l.count + 1), ()⟩ } := by
  unfold State.latchOverrun
  cases (s.phGroup c).overrun <;> rfl

end Edge

/-- Settles O22: the filter's three outcomes at each input, then an accepted edge by the sync state and the room in its queue. -/
theorem inputsAreFilteredAndCamEdgesQueued : Obligations.InputsAreFilteredAndCamEdgesQueued := by
  refine ⟨fun rising held t o c s => ⟨fun hp hh => ?_, fun hp => ?_, fun hp hh hr => ?_, fun hp hh => ?_, fun hp => ?_,
    fun hp hh hr => ?_⟩, fun c held t s hp hh => ?_⟩
  · exact congrArg Host.Outcome.next (crankTransition_ignored (by rw [hp, filterInput_short hh]) t o)
  · exact congrArg Host.Outcome.next (crankTransition_ignored (by rw [hp, filterInput_open]) t o)
  · exact congrArg Host.Outcome.next (crankTransition_otherPolarity hp hh hr t o)
  · exact congrArg Host.Outcome.next (camTransition_ignored (by rw [hp, filterInput_short hh]) t)
  · exact congrArg Host.Outcome.next (camTransition_ignored (by rw [hp, filterInput_open]) t)
  · exact congrArg Host.Outcome.next ((camTransition_accepted hp hh t).trans (if_neg hr))
  · intro counted d
    have hd : s.ad.countEdge c = d := rfl
    have hedge : camTransition c (s.cam c).rises held t s = takeEdge c t s :=
      (camTransition_accepted hp hh t).trans (if_pos rfl)
    refine ⟨fun hs => ?_, fun hs hq => ?_, fun hs hq => ?_⟩
    · exact congrArg Host.Outcome.next (hedge.trans (takeEdge_outside hs t))
    · have hjoins := queueEdge_joins (s := s.setDecoder d) hq t
      exact congrArg Host.Outcome.next (hedge.trans ((takeEdge_within hs t).trans hjoins))
    · have hoverruns := (queueEdge_overruns (s := s.setDecoder d) hq t).trans (latchOverrun_eq _ c)
      exact congrArg Host.Outcome.next (hedge.trans ((takeEdge_within hs t).trans hoverruns))

end Sys2Proof.Machine
end

section
/-! ## The decoder at a tooth: its timing, the gap test and the judgements (R70 to R78) -/

namespace Sys2Proof.Machine

open Sys2Proof

section Tooth
variable {d : Decoder} {t : Tick}

/-! ### The gap test and the timing (R70, R78) -/

theorem candidate_iff {t0 : Tick} (h : d.prevTooth = some t0) : d.candidate t = true ↔
    ∃ prev, d.lastNormal = some prev ∧ (2 * d.missing + 1) * prev ≤ 2 * (t - t0).toNat := by
  have hperiod : d.period t = (t - t0).toNat := by simp only [Decoder.period, h, tickDiff]
  cases hn : d.lastNormal with
  | none => simp [Decoder.candidate, hn]
  | some prev => simp [Decoder.candidate, hn, hperiod]

/-- The timing keeps what the judgement reads. -/
theorem timed_counts (d : Decoder) (t : Tick) :
    (d.timed t).edgeCount = d.edgeCount ∧ (d.timed t).doubt = d.doubt ∧ (d.timed t).lastIndex = d.lastIndex := by
  unfold Decoder.timed
  dsimp only
  split <;> exact ⟨rfl, rfl, rfl⟩

/-- A gap candidate leaves the last normal period and the speed. -/
theorem timed_candidate (h : d.candidate t = true) :
    (d.timed t).lastNormal = d.lastNormal ∧ (d.timed t).speed = d.speed := by
  unfold Decoder.timed
  rw [h]
  exact ⟨rfl, rfl⟩

theorem timed_normal (h : d.candidate t = false) :
    (d.timed t).lastNormal = some (d.period t) ∧ (d.timed t).speed = speedOf d.teeth (d.period t) := by
  unfold Decoder.timed
  rw [h]
  exact ⟨rfl, rfl⟩

theorem speedOf_pos {period : Nat} (h : 0 < period) (teeth : Nat) :
    speedOf teeth period = min 65535 (480000000 / (teeth * period)) := if_neg h.ne'

/-! ### The judgement (R72 to R76) -/

/-- The fields that the timing sets are the same in two records. -/
structure TimingKept (d e : Decoder) : Prop where
  prevTooth : e.prevTooth = d.prevTooth
  stopTimer : e.stopTimer = d.stopTimer
  lastNormal : e.lastNormal = d.lastNormal
  speed : e.speed = d.speed

/-- No judgement touches the timing. -/
theorem timing_judge (d : Decoder) (candidate : Bool) (n1 n2 : Nat) : TimingKept d (d.judge candidate n1 n2) := by
  have hcrank : TimingKept d (d.judgeCrank n1 n2) := by
    unfold Decoder.judgeCrank
    dsimp only
    repeat' split
    all_goals exact ⟨rfl, rfl, rfl, rfl⟩
  have hcycle : TimingKept d (d.judgeCycle n1 n2) := by
    unfold Decoder.judgeCycle
    dsimp only
    repeat' split
    all_goals exact ⟨rfl, rfl, rfl, rfl⟩
  have hlose : TimingKept d d.lose := ⟨rfl, rfl, rfl, rfl⟩
  unfold Decoder.judge
  dsimp only
  split
  · split
    · exact hlose
    · exact ⟨rfl, rfl, rfl, rfl⟩
  · split
    · split
      · exact hcycle
      · exact hcrank
    · exact hlose

section Judge
variable {k n1 n2 : Nat} {candidate : Bool}

/-- A tooth below the last of the revolution that is no candidate is counted (R72). -/
theorem judge_counts (hi : d.toothIndex = some k) (hk : k < d.lastIndex) :
    d.judge false n1 n2 = { d with toothIndex := some (k + 1) } := by
  unfold Decoder.judge
  rw [hi]
  exact if_pos hk

/-- An early or a late gap loses sync (R73). -/
theorem judge_loses (hi : d.toothIndex = some k)
    (h : k < d.lastIndex ∧ candidate = true ∨ d.lastIndex ≤ k ∧ candidate = false) :
    d.judge candidate n1 n2 = d.lose := by
  unfold Decoder.judge
  rw [hi]
  rcases h with ⟨hk, rfl⟩ | ⟨hk, rfl⟩
  · exact if_pos hk
  · exact if_neg (Nat.not_lt.mpr hk)

/-- A gap at its place is judged by the sync state (R75, R76). -/
theorem judge_gap (hi : d.toothIndex = some k) (hk : d.lastIndex ≤ k) :
    d.judge true n1 n2 = if d.sync = .cycleSync then d.judgeCycle n1 n2 else d.judgeCrank n1 n2 := by
  unfold Decoder.judge
  rw [hi]
  exact if_neg (Nat.not_lt.mpr hk)

/-- The table of CRANK_SYNC (R75). -/
theorem judgeCrank_table (hs : d.sync = .crankSync) (n1 n2 : Nat) :
    let e := d.judgeCrank n1 n2
    e.toothIndex = some 0 ∧ e.edgeCount = 0 ∧
    (d.edgeCount = n1 → e.sync = .cycleSync ∧ e.half = some .second ∧ e.doubt = 0) ∧
    (d.edgeCount ≠ n1 → d.edgeCount = n2 → e.sync = .cycleSync ∧ e.half = some .first ∧ e.doubt = 0) ∧
    (d.edgeCount ≠ n1 → d.edgeCount ≠ n2 → e.sync = .crankSync ∧ e.half = d.half ∧ e.doubt = d.doubt) := by
  unfold Decoder.judgeCrank
  dsimp only
  split
  · rename_i h1
    exact ⟨rfl, rfl, fun _ => ⟨rfl, rfl, rfl⟩, fun hn => absurd h1 hn, fun hn => absurd h1 hn⟩
  · rename_i h1
    split
    · rename_i h2
      exact ⟨rfl, rfl, fun h => absurd h h1, fun _ _ => ⟨rfl, rfl, rfl⟩, fun _ hn => absurd h2 hn⟩
    · rename_i h2
      exact ⟨rfl, rfl, fun h => absurd h h1, fun _ h => absurd h h2, fun _ _ => ⟨hs, rfl, rfl⟩⟩

theorem otherHalf_some (h : Half2) : otherHalf (some h) = some (if h = .first then .second else .first) := by
  cases h <;> rfl

/-- The table of CYCLE_SYNC (R76). -/
theorem judgeCycle_table (hs : d.sync = .cycleSync) (n1 n2 : Nat) :
    let e := d.judgeCycle n1 n2
    e.toothIndex = some 0 ∧ e.edgeCount = 0 ∧ ∀ h, d.half = some h →
      let expected := if h = .first then n1 else n2
      let other := if h = .first then Half2.second else Half2.first
      (d.edgeCount = expected → e.sync = .cycleSync ∧ e.half = some other ∧ e.doubt = 0) ∧
      (d.edgeCount ≠ expected → d.doubt = 0 → e.sync = .cycleSync ∧ e.half = some other ∧ e.doubt = 1) ∧
      (d.edgeCount ≠ expected → d.doubt = 1 → e.sync = .crankSync ∧ e.half = none ∧ e.doubt = 2) := by
  have hexpected (h : Half2) (hh : d.half = some h) : d.expected n1 n2 = if h = .first then n1 else n2 := by
    unfold Decoder.expected
    rw [hh]
    exact if_congr Option.some_inj rfl rfl
  have hother (h : Half2) (hh : d.half = some h) :
      otherHalf d.half = some (if h = .first then .second else .first) := by rw [hh, otherHalf_some]
  unfold Decoder.judgeCycle
  dsimp only
  split
  · rename_i h1
    refine ⟨rfl, rfl, fun h hh => ?_⟩
    rw [hexpected h hh] at h1
    exact ⟨fun _ => ⟨hs, hother h hh, rfl⟩, fun hn => absurd h1 hn, fun hn => absurd h1 hn⟩
  · rename_i h1
    split
    · rename_i h0
      refine ⟨rfl, rfl, fun h hh => ?_⟩
      rw [hexpected h hh] at h1
      exact ⟨fun he => absurd he h1, fun _ _ => ⟨hs, hother h hh, rfl⟩, fun _ hd => by omega⟩
    · rename_i h0
      refine ⟨rfl, rfl, fun h hh => ?_⟩
      rw [hexpected h hh] at h1
      exact ⟨fun he => absurd he h1, fun _ hd => absurd hd h0, fun _ _ => ⟨rfl, rfl, rfl⟩⟩

end Judge

/-! ### A tooth, by the sync state (R69 to R72) -/

section States
variable (n1 n2 : Nat)

theorem tooth_seeking (hs : d.sync = .seeking) : d.tooth t n1 n2 =
    if d.candidate t then { d.timed t with sync := .crankSync, toothIndex := some 0, edgeCount := 0 } else d.timed t := by
  simp only [Decoder.tooth, hs]

theorem tooth_synced (hs : d.sync = .crankSync ∨ d.sync = .cycleSync) :
    d.tooth t n1 n2 = (d.timed t).judge (d.candidate t) n1 n2 := by
  rcases hs with hs | hs <;> simp only [Decoder.tooth, hs]

/-- Outside STOPPED the timing of a tooth is that of the timing part. -/
theorem tooth_timing (hs : d.sync ≠ .stopped) : TimingKept (d.timed t) (d.tooth t n1 n2) := by
  cases h : d.sync with
  | stopped => exact absurd h hs
  | seeking =>
    rw [tooth_seeking n1 n2 h]
    split <;> exact ⟨rfl, rfl, rfl, rfl⟩
  | crankSync =>
    rw [tooth_synced n1 n2 (.inl h)]
    exact timing_judge _ _ _ _
  | cycleSync =>
    rw [tooth_synced n1 n2 (.inr h)]
    exact timing_judge _ _ _ _

end States

end Tooth

/-- Settles O24: the timing part and SEEKING from the record with its timing set, then the judgement of that record. -/
theorem decoderJudgesEveryTooth : Obligations.DecoderJudgesEveryTooth := by
  refine ⟨fun d t t0 n1 n2 hs ht0 => ?_, fun d t n1 n2 k hs hk => ?_⟩
  · obtain ⟨hsync, hindex, hhalf, hprev, htimer⟩ := timed_fields d t
    obtain ⟨hcount, -, -⟩ := timed_counts d t
    have hkept := tooth_timing (t := t) n1 n2 hs
    refine ⟨candidate_iff ht0, hkept.prevTooth.trans hprev, hkept.stopTimer.trans htimer, fun hc => ?_, fun hc => ?_,
      fun hseek hc => ?_, fun hseek hc => ?_⟩
    · obtain ⟨hnormal, hspeed⟩ := timed_candidate hc
      exact ⟨hkept.lastNormal.trans hnormal, hkept.speed.trans hspeed⟩
    · obtain ⟨hnormal, hspeed⟩ := timed_normal hc
      have hperiod : d.period t = (t - t0).toNat := by simp only [Decoder.period, ht0, tickDiff]
      rw [hperiod] at hnormal hspeed
      exact ⟨hkept.lastNormal.trans hnormal, fun hpos => hkept.speed.trans (hspeed.trans (speedOf_pos hpos d.teeth))⟩
    · rw [tooth_seeking n1 n2 hseek, hc]
      exact ⟨hsync.trans hseek, hindex, hhalf, hcount⟩
    · rw [tooth_seeking n1 n2 hseek, hc]
      exact ⟨rfl, rfl, hhalf, rfl⟩
  · obtain ⟨hsync, hindex, hhalf, -, -⟩ := timed_fields d t
    obtain ⟨hcount, hdoubt, hlast⟩ := timed_counts d t
    have hk' : (d.timed t).toothIndex = some k := hindex.trans hk
    dsimp only
    rw [tooth_synced n1 n2 hs, ← hsync, ← hhalf, ← hcount, ← hdoubt]
    have hlast' : d.teeth - d.missing - 1 = (d.timed t).lastIndex := hlast.symm
    rw [hlast']
    refine ⟨fun hlt hc => ?_, fun h => ?_, fun hle hc => ?_⟩
    · rw [hc, judge_counts hk' hlt]
      exact ⟨rfl, rfl, rfl, rfl, rfl⟩
    · rw [judge_loses hk' h]
      exact ⟨rfl, rfl, rfl, rfl, rfl⟩
    · rw [hc, judge_gap hk' hle]
      by_cases hcycle : (d.timed t).sync = .cycleSync
      · obtain ⟨h0, hzero, htable⟩ := judgeCycle_table hcycle n1 n2
        rw [if_pos hcycle]
        have hne : (d.timed t).sync ≠ .crankSync := by rw [hcycle]; decide
        exact ⟨h0, hzero, fun h => absurd h hne, fun _ => htable⟩
      · obtain ⟨h0, hzero, htable⟩ := judgeCrank_table ((hsync ▸ hs).resolve_right hcycle) n1 n2
        rw [if_neg hcycle]
        exact ⟨h0, hzero, fun _ => htable, fun h => absurd h hcycle⟩

end Sys2Proof.Machine
end

section
/-! ## The first tooth in STOPPED and the stop timer's expiry (R68, R69, R77, R80, R91) -/

namespace Sys2Proof.Machine

open Sys2Proof

/-! ### The first tooth (R69) -/

/-- A condition that stands as its owner's record does is left as it is. -/
theorem cond_drive_same {c : Cond} {b : Bool} (h : c.declared = b) : c.drive b = c := if_pos h

theorem cond_drive_change {c : Cond} {b : Bool} (h : c.declared ≠ b) : c.drive b = c.transition b := if_neg h

/-- The decoder's record after the first tooth. -/
theorem nextDecoder_stopped {s : State} (h : s.ad.sync = .stopped) (t : Tick) :
    s.nextDecoder t = { s.ad with sync := .seeking, prevTooth := some t, stopTimer := some s.ad.stopTime } := by
  simp only [State.nextDecoder, Decoder.tooth, h]

/-- The first tooth clears ENGINE_STOPPED and touches no other condition of DEV. -/
theorem toothDev_stopped {s : State} (h : s.ad.sync = .stopped) (hdev : s.devOk) (t : Tick) :
    s.toothDev t = { s.cm.dev with engineStopped := s.cm.dev.engineStopped.transition false } := by
  obtain ⟨hcycle, hstopped⟩ := hdev
  have hcleared : s.cm.dev.cycleSync.declared = false := by
    rw [← Bool.not_eq_true, hcycle, h]
    decide
  have hdeclared : s.cm.dev.engineStopped.declared ≠ false := by
    rw [hstopped.mpr h]
    decide
  have hdoubt : s.doubted t = false := decide_eq_false fun hd => by
    rw [h] at hd
    cases hd.1
  unfold State.toothDev
  rw [nextDecoder_stopped h, hdoubt]
  dsimp only
  have e1 : decide (Sync.seeking = Sync.cycleSync) = false := rfl
  have e2 : decide (Sync.seeking = Sync.stopped) = false := rfl
  rw [e1, e2, cond_drive_same hcleared, cond_drive_change hdeclared]
  rfl

/-- Settles O23: the tooth stays outside CYCLE_SYNC, and no speed changes, so it only stores the decoder's record and DEV. -/
theorem firstToothMovesTheDecoderToSeeking : Obligations.FirstToothMovesTheDecoderToSeeking := by
  intro held t o s hs hp hd hh law
  obtain ⟨hdev, -, -⟩ := (statusLaw_iff s).mp law
  have hnext := nextDecoder_stopped hs t
  have hspeed : s.speedChanges t = false := by
    unfold State.speedChanges
    rw [hnext]
    exact decide_eq_false fun hn => hn rfl
  have hout : crankTooth t o s = s.stored t := by
    rw [crankTooth_outside o (by rw [hs]; decide) (by rw [hnext]; exact nofun), hspeed]
    rfl
  refine congrArg Host.Outcome.next ((crankTransition_accepted hp hh t o).trans (hout.trans ?_))
  rw [stored_undeparted hd, hnext, toothDev_stopped hs hdev]

/-! ### The stop timer's expiry (R68, R77, R91) -/

theorem stopEngine_runOut {s : State} (h : s.ad.stopTimer = some 0) : stopEngine s =
    if s.ad.sync = .cycleSync then captureDeparture (storeTooth s.ad.stop false s) else storeTooth s.ad.stop false s :=
  if_pos ((runOut_iff _).mpr h)

/-- Settles O26: the stopped record is stored and declared, and in CYCLE_SYNC the departure is handed on. -/
theorem stopTimerExpiryStopsTheDecoder : Obligations.StopTimerExpiryStopsTheDecoder := by
  intro s
  refine ⟨fun h => congrArg Host.Outcome.next (stopEngine_idle h), fun h => ?_⟩
  by_cases hs : s.ad.sync = .cycleSync
  · have hstop : stopEngine s = captureDeparture (storeTooth s.ad.stop false s) := (stopEngine_runOut h).trans (if_pos hs)
    exact ⟨_, congrArg Host.Outcome.next hstop, rfl, rfl, rfl, rfl,
      fun _ => ⟨rfl, rfl, captureDeparture_cam (storeTooth s.ad.stop false s)⟩, fun hn => absurd hs hn,
      rfl, rfl, rfl, rfl, rfl⟩
  · have hstop : stopEngine s = storeTooth s.ad.stop false s := (stopEngine_runOut h).trans (if_neg hs)
    exact ⟨_, congrArg Host.Outcome.next hstop, rfl, rfl, rfl, rfl, fun hc => absurd hc hs, fun _ => ⟨rfl, rfl⟩,
      rfl, rfl, rfl, rfl, rfl⟩

end Sys2Proof.Machine
end

section
/-! ## The identifiers, GET_PARAM, and SET_PARAM for the parameters without a row of their own (R82, R126, R144, R181) -/

namespace Sys2Proof.Machine

open Sys2Proof

/-! ### The identifiers (10.8) -/

theorem param_listed (q : Param) : q ∈ Param.all := by
  cases q with
  | applyMode g | markAngle g => cases g <;> decide
  | authority b p | dutyLimit b p => cases b <;> cases p <;> decide
  | toothList p | camPolarity p | kp p | ki p | ilim p | nd p => cases p <;> decide
  | crank w | threshold w | time w => cases w <;> decide
  | _ => decide

theorem idents_nodup : (Param.all.map Param.ident).Nodup := by decide +kernel

theorem ident_injective {q r : Param} (h : q.ident = r.ident) : q = r :=
  List.inj_on_of_nodup_map idents_nodup (param_listed q) (param_listed r) h

theorem ident_of_ofIdent {b : Byte} {q : Param} (h : Param.ofIdent b = some q) : q.ident = b := by
  simpa using List.find?_some h

/-- The identifier of a parameter finds it. -/
theorem ofIdent_ident (q : Param) : Param.ofIdent q.ident = some q := by
  cases h : Param.ofIdent q.ident with
  | none => exact absurd (List.find?_eq_none.mp h q (param_listed q)) (by simp)
  | some r => rw [ident_injective (ident_of_ofIdent h)]

theorem ofIdent_unlisted {b : Byte} (h : ∀ q : Param, q.ident ≠ b) : Param.ofIdent b = none := by
  cases hb : Param.ofIdent b with
  | none => rfl
  | some q => exact absurd (ident_of_ofIdent hb) (h q)

/-! ### GET_PARAM and SET_PARAM (R181) -/

theorem ownGetParam_listed (q : Param) (s : State) :
    ownGetParam q.ident s = (s, ⟨.ok, q.ident :: (readParam q s).bytes⟩) := by
  unfold ownGetParam
  rw [ofIdent_ident]
  rfl

theorem ownGetParam_unlisted {b : Byte} (h : ∀ q : Param, q.ident ≠ b) (s : State) :
    ownGetParam b s = (s, ⟨.badField, []⟩) := by
  unfold ownGetParam
  rw [ofIdent_unlisted h]
  rfl

theorem ownSetParam_listed (q : Param) (v : ValueField) (s : State) :
    ownSetParam q.ident v s = ownWrite q (writeParam q v) s := by
  unfold ownSetParam
  rw [ofIdent_ident]

theorem ownSetParam_unlisted {b : Byte} (h : ∀ q : Param, q.ident ≠ b) (v : ValueField) (s : State) :
    ownSetParam b v s = (s, ⟨.badField, []⟩) := by
  unfold ownSetParam
  rw [ofIdent_unlisted h]
  rfl

/-- A write by SET_PARAM that is stored answers the stored number. -/
theorem setParam_stored {q : Param} {snd : Sender} {v : ValueField} {s t : State} {x : Nat}
    (hw : writeParam q v s = .ok t) (hr : readParam q t = natValue x) (h : taken (.setParam snd q.ident v) snd s) :
    exec (.setParam snd q.ident v) s =
      .next (t.respond .setParam snd ⟨.ok, q.ident :: (ValueField.ofHalf (BitVec.ofNat 16 x)).bytes⟩) := by
  refine next_of_taken h ((ownSetParam_listed q v s).trans ((ownWrite_stored hw).trans ?_))
  rw [hr, natValue]

/-! ### The ranges (00_scope.md) -/

theorem clampNat_eq_max_min {lo hi : Nat} (h : lo ≤ hi) (n : Nat) : clampNat lo hi n = max lo (min hi n) := by
  unfold clampNat
  split
  · omega
  · split <;> omega

/-- A write by SET_PARAM that clamps its number into a range stores and answers the clamped number. -/
theorem setParam_clamped {q : Param} {snd : Sender} {v : ValueField} {s : State} {lo hi : Nat} (store : Nat → State)
    (hw : writeParam q v s = .ok (store (clampNat lo hi v.half.toNat))) (hle : lo ≤ hi)
    (hr : ∀ x, readParam q (store x) = natValue x) (h : taken (.setParam snd q.ident v) snd s) :
    let x := max lo (min hi v.half.toNat)
    exec (.setParam snd q.ident v) s =
      .next ((store x).respond .setParam snd ⟨.ok, q.ident :: (ValueField.ofHalf (BitVec.ofNat 16 x)).bytes⟩) := by
  rw [clampNat_eq_max_min hle] at hw
  exact setParam_stored hw (hr _) h

@[simp] theorem setLoopParams_params (s : State) (p : Phaser) (x : LoopParams) :
    ((s.setLoopParams p x).loop p).params = x := by
  rw [setLoopParams_loop, if_pos rfl]

/-- Settles O46: the identifiers, the reads, the refusals of an unlisted identifier, then each clamped write. -/
theorem parametersAreNamedReadAndClamped : Obligations.ParametersAreNamedReadAndClamped := by
  refine ⟨⟨fun q r => ident_injective, fun q n h => ?_, fun p q n h => ?_, fun snd s => ⟨fun q ht => ?_, fun b v hb =>
    ⟨fun ht => ?_, fun ht => ?_⟩⟩⟩, fun snd v s => ?_⟩
  · fin_cases h <;> rfl
  · fin_cases h <;> rfl
  · exact next_of_taken ht (ownGetParam_listed q s)
  · exact next_of_taken ht (ownGetParam_unlisted hb s)
  · exact next_of_taken ht (ownSetParam_unlisted hb v s)
  · refine ⟨setParam_clamped (fun x => s.setDecoder { s.ad with stopTime := x }) rfl (by decide) fun _ => rfl,
      setParam_stored (q := .firingOffset) rfl rfl,
      setParam_clamped (fun x => s.setSeqParams { s.ps.params with homeBand := x }) rfl (by decide) fun _ => rfl,
      setParam_clamped (fun x => s.setSeqParams { s.ps.params with releaseInterval := x }) rfl (by decide) fun _ => rfl,
      setParam_clamped (fun x => s.setSeqParams { s.ps.params with returnTimeout := x }) rfl (by decide) fun _ => rfl,
      setParam_clamped (fun x => s.setSeqParams { s.ps.params with latchInterval := x }) rfl (by decide) fun _ => rfl,
      setParam_clamped (fun x => s.setSeqParams { s.ps.params with trackBand := x }) rfl (by decide) fun _ => rfl,
      setParam_clamped (fun x => s.setSeqParams { s.ps.params with freshnessTime := x }) rfl (by decide) fun _ => rfl,
      fun p => ⟨setParam_stored (q := .kp p) rfl ?_, setParam_stored (q := .ki p) rfl ?_,
        setParam_clamped (fun x => s.setLoopParams p { (s.loop p).params with nd := x }) rfl (by decide) fun x => ?_⟩⟩
    all_goals rw [readParam, setLoopParams_params]

end Sys2Proof.Machine
end

section
/-! ## Edge Capture's parameters (R83, R99, R100, R181) -/

namespace Sys2Proof.Machine

open Sys2Proof

/-! ### The tooth list (R83, R99) -/

/-- The checks of a tooth list in STOPPED: count and angles, spacing, and the halves of the sync cam (R83, R99). -/
def State.acceptsTeeth (s : State) (c : Phaser) (n : Byte) (a : AngleField) : Prop :=
  (1 ≤ n.toNat ∧ n.toNat ≤ 4 ∧ ∀ x ∈ angleList n.toNat a, x ≤ 11519) ∧
  s.spacedWith c (angleList n.toNat a) s.ec.margin = true ∧
  (c = s.ad.syncCam → tellsHalves (angleList n.toNat a) = true)

section ToothList
variable {s : State} {c : Phaser} {n : Byte} {a : AngleField}

theorem countAndAngles_iff : 1 ≤ n.toNat ∧ n.toNat ≤ 4 ∧ (angleList n.toNat a).all (fun x => decide (x ≤ 11519)) = true ↔
    1 ≤ n.toNat ∧ n.toNat ≤ 4 ∧ ∀ x ∈ angleList n.toNat a, x ≤ 11519 := by
  simp only [List.all_eq_true, decide_eq_true_iff]

theorem writeToothList_stored (hs : s.ad.sync = .stopped) (h : s.acceptsTeeth c n a) :
    writeToothList c n a s = .ok (s.setCam c { s.cam c with
      teeth := angleList n.toNat a, marks := (angleList n.toNat a).map fun _ => true }) := by
  obtain ⟨hcounted, hspaced, hhalves⟩ := h
  unfold writeToothList
  rw [whenStopped_stopped hs]
  dsimp only
  rw [if_pos (countAndAngles_iff.mpr hcounted), if_pos hspaced]
  refine if_neg ?_
  rintro ⟨hc, hf⟩
  rw [hhalves hc] at hf
  cases hf

theorem writeToothList_refused (hs : s.ad.sync = .stopped) (h : ¬ s.acceptsTeeth c n a) :
    writeToothList c n a s = .error .badValue := by
  unfold writeToothList
  rw [whenStopped_stopped hs]
  dsimp only
  split
  · rename_i hcounted
    split
    · rename_i hspaced
      refine if_pos (Classical.byContradiction fun hn => h ⟨countAndAngles_iff.mp hcounted, hspaced, fun hc => ?_⟩)
      exact Bool.eq_true_of_not_eq_false fun hf => hn ⟨hc, hf⟩
    · rfl
  · rfl

/-- A stored tooth list reads back as it was written, the unused angles 0 (R181). -/
theorem teethValue_angleList (h1 : 1 ≤ n.toNat) (h4 : n.toNat ≤ 4) : teethValue (angleList n.toNat a) = .ofList n
    ⟨if 1 ≤ n.toNat then a.a0 else 0#16, if 2 ≤ n.toNat then a.a1 else 0#16, if 3 ≤ n.toNat then a.a2 else 0#16,
     if 4 ≤ n.toNat then a.a3 else 0#16⟩ := by
  have hn : n = 1#8 ∨ n = 2#8 ∨ n = 3#8 ∨ n = 4#8 := by bv_omega
  rcases hn with rfl | rfl | rfl | rfl <;> simp [teethValue, angleList]

end ToothList

/-! ### Polarity, margin and lost count (R100) -/

theorem writePolarity_stored {s : State} (hs : s.ad.sync = .stopped) {v : Byte} (h : v.toNat ≤ 1) (c : Phaser) :
    writePolarity c v s = .ok (s.setCam c { s.cam c with rises := v == 1#8 }) := by
  unfold writePolarity
  rw [whenStopped_stopped hs, readFlag_of_le_one h]

theorem writePolarity_refused {s : State} (hs : s.ad.sync = .stopped) {v : Byte} (h : 2 ≤ v.toNat) (c : Phaser) :
    writePolarity c v s = .error .badValue := by
  unfold writePolarity
  rw [whenStopped_stopped hs, (readFlag_none v).mpr h]

theorem allSpaced_iff (s : State) (m : Nat) :
    (Phaser.list.all fun c => s.spacedWith c (s.cam c).teeth m) = true ↔
      ∀ c, s.spacedWith c (s.cam c).teeth m = true := by
  rw [List.all_eq_true]
  exact ⟨fun h c => h c (by cases c <;> decide), fun h c _ => h c⟩

theorem writeLostCount_eq (v : Half) (s : State) :
    writeLostCount v s = .ok { s with ec := { s.ec with lostCount := max 2 (min 8 v.toNat) } } := by
  rw [writeLostCount, clampNat_eq_max_min (by decide)]

/-- Settles O48, parameter by parameter: the write is stored or refused by its checks, and the stored value is answered. -/
theorem captureParametersAreChecked : Obligations.CaptureParametersAreChecked := by
  intro snd s
  refine ⟨fun c n a ht => ?_, fun c v ht => ⟨fun hs => ?_, fun hs hv => ?_, fun hs hv => ?_⟩, fun v ht => ?_, fun v ht => ?_⟩
  · intro e teeth W apart halves counted
    have hspaced : s.spacedWith c teeth s.ec.margin = true ↔ apart := spaced_iff_int _ _
    have hhalves : tellsHalves teeth = true ↔ halves := tellsHalves_iff _
    refine ⟨fun hs => next_of_taken ht (ownWrite_refused (whenStopped_running hs _)), fun hs => ⟨fun hno => ?_,
      fun hcounted hapart hsync => ⟨teeth.map fun _ => true, List.length_map _, ?_⟩⟩⟩
    · refine next_of_taken ht (ownWrite_refused (writeToothList_refused hs ?_))
      rintro ⟨hcounted, hw, hc⟩
      rcases hno with hno | hno | ⟨hsync, hno⟩
      · exact hno hcounted
      · exact hno (hspaced.mp hw)
      · exact hno (hhalves.mp (hc hsync))
    · have haccepts : s.acceptsTeeth c n a := ⟨hcounted, hspaced.mpr hapart, fun hc => hhalves.mpr (hsync hc)⟩
      refine next_of_taken ht ((ownWrite_stored (writeToothList_stored hs haccepts)).trans ?_)
      obtain ⟨h1, h4, -⟩ := hcounted
      rw [readParam, setCam_cam_self, teethValue_angleList h1 h4]
      rfl
  · exact next_of_taken ht (ownWrite_refused (whenStopped_running hs _))
  · exact next_of_taken ht (ownWrite_refused (writePolarity_refused hs hv c))
  · refine next_of_taken ht ((ownWrite_stored (writePolarity_stored hs hv c)).trans ?_)
    rw [readParam, setCam_cam_self, flagValue, flagByte_of_le_one hv]
  · intro m passes
    have hpasses : (Phaser.list.all fun c => s.spacedWith c (s.cam c).teeth m) = true ↔ passes :=
      (allSpaced_iff s m).trans (forall_congr' fun c => spaced_iff_int _ _)
    exact ⟨fun h => next_of_taken ht (ownWrite_stored (if_pos (hpasses.mpr h))),
      fun h => next_of_taken ht (ownWrite_refused (if_neg fun hp => h (hpasses.mp hp)))⟩
  · exact next_of_taken ht (ownWrite_stored (writeLostCount_eq v s))

end Sys2Proof.Machine
end

section
/-! ## The place of a queued edge and the tooth it belongs to (R89, R92) -/

namespace Sys2Proof.Machine

open Sys2Proof

/-! ### The place (R89) -/

/-- Rounding a quotient of natural numbers (R130). -/
theorem roundDiv_toNat (x d : Nat) : (roundDiv x d).toNat = (2 * x + d) / (2 * d) := by
  have hcast : roundDiv x d = ((2 * x + d) / (2 * d) : Nat) := by
    unfold roundDiv
    push_cast
    rfl
  rw [hcast, Int.toNat_natCast]

section Place
variable {b : Bracket} {t1 te : Tick} {span : Nat}

/-- An edge stamped after the new tooth stands at the bracketing one. -/
theorem placeEdge_outside (h : (t1 - b.time).toNat < (te - b.time).toNat) : placeEdge b t1 span te = b.angle :=
  if_neg (Nat.not_le.mpr h)

/-- An edge within an interval of some length is placed by rounded interpolation. -/
theorem placeEdge_inside (h : (te - b.time).toNat ≤ (t1 - b.time).toNat) (hd : 0 < (t1 - b.time).toNat) :
    placeEdge b t1 span te = b.angle + min (span - 1)
      ((2 * ((te - b.time).toNat * span) + (t1 - b.time).toNat) / (2 * (t1 - b.time).toNat)) := by
  unfold placeEdge tickDiff
  dsimp only
  rw [if_pos h, if_neg hd.ne', roundDiv_toNat, min_comm]

/-- Whatever the offset, the place stays before the new tooth. -/
theorem placeEdge_bounds (b : Bracket) (t1 te : Tick) (h : 0 < span) :
    b.angle ≤ placeEdge b t1 span te ∧ placeEdge b t1 span te ≤ b.angle + span - 1 := by
  unfold placeEdge
  dsimp only
  split <;> omega

end Place

/-! ### The tooth (R92) -/

theorem edgePhase_eq (tooth edge : Nat) : edgePhase tooth edge = ((tooth : Int) - edge + 5760) % 11520 - 5760 := by
  rw [edgePhase, cyc_int]

/-- A phase lies within half a cycle on either side. -/
theorem edgePhase_bounds (tooth edge : Nat) : -5760 ≤ edgePhase tooth edge ∧ edgePhase tooth edge ≤ 5759 := by
  rw [edgePhase_eq]
  omega

section Associated
variable {teeth : List Nat} {edge : Nat} {lo hi : Int}

theorem mem_qualifying {x : Nat × Int} :
    x ∈ qualifying teeth edge lo hi ↔
      ∃ a, teeth[x.1]? = some a ∧ x.2 = edgePhase a edge ∧ lo ≤ x.2 ∧ x.2 ≤ hi := by
  unfold qualifying
  simp only [List.mem_filter, List.mem_map, List.mem_zipIdx_iff_getElem?, decide_eq_true_iff]
  constructor
  · rintro ⟨⟨y, hy, rfl⟩, hlo, hhi⟩
    exact ⟨y.1, hy, rfl, hlo, hhi⟩
  · rintro ⟨a, ha, hphase, hlo, hhi⟩
    exact ⟨⟨(a, x.1), ha, Prod.ext rfl hphase.symm⟩, hlo, hhi⟩

/-- The qualifying teeth stand in the order of the tooth list. -/
theorem qualifying_sorted (teeth : List Nat) (edge : Nat) (lo hi : Int) :
    (qualifying teeth edge lo hi).Pairwise fun x y => x.1 < y.1 := by
  have hplaces : (teeth.zipIdx.map Prod.snd).Pairwise (· < ·) := by
    rw [List.zipIdx_map_snd]
    exact List.pairwise_lt_range'
  unfold qualifying
  refine List.Pairwise.filter _ (List.pairwise_map.mpr ?_)
  exact List.pairwise_map.mp hplaces

/-- The association takes the first of the qualifying teeth whose phase has the smallest magnitude. -/
theorem associate_eq_argmin (teeth : List Nat) (edge : Nat) (lo hi : Int) :
    associate teeth edge lo hi = (qualifying teeth edge lo hi).argmin fun x => x.2.natAbs := by
  unfold associate List.argmin
  congr 1
  funext best x
  cases best <;> rfl

/-- In a list ordered by place, the earlier of two entries has the lower place. -/
theorem place_le_of_idxOf_le {α : Type} [DecidableEq α] {place : α → Nat} {l : List α}
    (hsorted : l.Pairwise fun x y => place x < place y) {x y : α} (hx : x ∈ l) (hy : y ∈ l)
    (h : l.idxOf x ≤ l.idxOf y) : place x ≤ place y := by
  have hix := List.idxOf_lt_length_of_mem hx
  have hiy := List.idxOf_lt_length_of_mem hy
  rcases h.lt_or_eq with hlt | heq
  · have hplace := List.pairwise_iff_getElem.mp hsorted _ _ hix hiy hlt
    rw [List.getElem_idxOf, List.getElem_idxOf] at hplace
    exact hplace.le
  · rw [(List.idxOf_inj hx).mp heq]

theorem associate_eq_none :
    associate teeth edge lo hi = none ↔ ∀ a ∈ teeth, ¬ (lo ≤ edgePhase a edge ∧ edgePhase a edge ≤ hi) := by
  rw [associate_eq_argmin, List.argmin_eq_none, List.eq_nil_iff_forall_not_mem]
  constructor
  · intro h a ha hwindow
    obtain ⟨k, hk⟩ := List.mem_iff_getElem?.mp ha
    exact h (k, edgePhase a edge) (mem_qualifying.mpr ⟨a, hk, rfl, hwindow⟩)
  · intro h x hx
    obtain ⟨a, ha, hphase, hwindow⟩ := mem_qualifying.mp hx
    rw [hphase] at hwindow
    exact h a (List.mem_of_getElem? ha) hwindow

/-- The tooth taken qualifies; every other qualifying one is as far or farther, and farther if it stands before. -/
theorem associate_eq_some {k : Nat} {v : Int} (h : associate teeth edge lo hi = some (k, v)) :
    (lo ≤ v ∧ v ≤ hi ∧ ∃ a, teeth[k]? = some a ∧ v = edgePhase a edge) ∧
    ∀ (j a : Nat), teeth[j]? = some a → lo ≤ edgePhase a edge → edgePhase a edge ≤ hi →
      v.natAbs ≤ (edgePhase a edge).natAbs ∧ (j < k → v.natAbs < (edgePhase a edge).natAbs) := by
  rw [associate_eq_argmin, List.argmin_eq_some_iff] at h
  obtain ⟨hmem, hleast, hfirst⟩ := h
  obtain ⟨a, ha, hphase, hlo, hhi⟩ := mem_qualifying.mp hmem
  refine ⟨⟨hlo, hhi, a, ha, hphase⟩, fun j a hj hlo hhi => ?_⟩
  have hother : (j, edgePhase a edge) ∈ qualifying teeth edge lo hi := mem_qualifying.mpr ⟨a, hj, rfl, hlo, hhi⟩
  refine ⟨hleast _ hother, fun hjk => Nat.lt_of_not_le fun htie => ?_⟩
  have hle : k ≤ j :=
    place_le_of_idxOf_le (qualifying_sorted teeth edge lo hi) hmem hother (hfirst _ hother htie)
  exact absurd hjk hle.not_gt

end Associated

/-- Settles O28: the place by its cases, the tooth as the first minimum of the phases' magnitudes. -/
theorem edgesArePlacedAndAssociated : Obligations.EdgesArePlacedAndAssociated := by
  refine ⟨fun b t1 te span hspan => ?_, fun teeth edge lo hi => ?_⟩
  · obtain ⟨hfrom, hto⟩ := placeEdge_bounds b t1 te hspan
    exact ⟨hfrom, hto, placeEdge_outside, placeEdge_inside⟩
  · dsimp only
    simp only [← edgePhase_eq]
    refine ⟨associate_eq_none, fun k v h => ?_⟩
    obtain ⟨⟨hlo, hhi, a, ha, hphase⟩, hbest⟩ := associate_eq_some h
    obtain ⟨hmin, hmax⟩ := edgePhase_bounds a edge
    rw [← hphase] at hmin hmax
    exact ⟨hlo, hhi, hmin, hmax, ⟨a, ha, hphase⟩, hbest⟩

end Sys2Proof.Machine
end

section
/-! ## What the Sequencer does with a measurement and with a miss (R93, R96, R97, R109 to R117, R119) -/

namespace Sys2Proof.Machine

open Sys2Proof

/-! ### Entries of a phaser on which no fault condition stands, by what holds permission back (R112, R114, R116, R117) -/

section Entries
variable {p : Phaser} {v : State}

theorem enterReleasing_unfaulted (hu : v.unfaulted p = true) :
    enterReleasing p v = moveTo p .releasing (some v.ps.params.releaseInterval) v :=
  faultStanding_unfaulted (by rw [moveTo_unfaulted, hu])

theorem enterTracking_unfaulted (hu : v.unfaulted p = true) : enterTracking p v = moveToTracking p v :=
  faultStanding_unfaulted (by rw [moveToTracking_unfaulted, hu])

theorem enterLatching_unfaulted (hu : v.unfaulted p = true) :
    enterLatching p v = moveTo p .latching (some v.ps.params.latchInterval) v :=
  faultStanding_unfaulted (by rw [moveTo_unfaulted, hu])

theorem enterParked_unfaulted (hu : v.unfaulted p = true) :
    enterParked p v =
      if v.numeric p ∧ v.permission then
        moveTo p .releasing (some v.ps.params.releaseInterval) (moveTo p .parked none v)
      else moveTo p .parked none v := by
  have hf := (local_moveTo p .parked none v).frame
  have hmoved : (moveTo p .parked none v).unfaulted p = true := by rw [moveTo_unfaulted, hu]
  obtain ⟨hstate, -⟩ := moveTo_phaser p .parked none v
  unfold enterParked
  rw [faultStanding_unfaulted hmoved, checkParked, hf.numeric, hf.permission, enterReleasing_unfaulted hmoved, hf.params]
  exact if_congr (and_iff_right hstate) rfl rfl

theorem enterReturning_unfaulted (hu : v.unfaulted p = true) :
    enterReturning p v =
      if v.numeric p ∧ v.permission then
        moveToTracking p (moveTo p .returning (some v.ps.params.returnTimeout) v)
      else moveTo p .returning (some v.ps.params.returnTimeout) v := by
  have hf := (local_moveTo p .returning (some v.ps.params.returnTimeout) v).frame
  have hmoved : (moveTo p .returning (some v.ps.params.returnTimeout) v).unfaulted p = true := by
    rw [moveTo_unfaulted, hu]
  obtain ⟨hstate, -⟩ := moveTo_phaser p .returning (some v.ps.params.returnTimeout) v
  unfold enterReturning
  rw [faultStanding_unfaulted hmoved, checkReturning, hf.numeric, hf.permission, enterTracking_unfaulted hmoved]
  exact if_congr (and_iff_right hstate) rfl rfl

/-- A move of a phaser that is not driven leaves its loop record (R118, R143). -/
theorem moveTo_loop_undriven (hd : ¬ v.driven p) (st : PhaserState) (timer : Option Nat) :
    (moveTo p st timer v).loop p = v.loop p := by
  rw [moveTo_loop, if_neg fun h => hd h.symm]

/-- The record of a phaser that enters TRACKING (R114). -/
theorem moveToTracking_phaser (p : Phaser) (v : State) :
    ((moveToTracking p v).phaser p).state = .tracking ∧ ((moveToTracking p v).phaser p).timer = none ∧
      ((moveToTracking p v).phaser p).overBand = none := by
  simp [moveToTracking, moveTo_phaser]

/-- The ramp target starts at the last measurement, within the authority window (R142). -/
theorem moveToTracking_ramp {m : Measurement} (hlast : (v.cam p).last = some m) :
    ((moveToTracking p v).loop p).ramp = clampInt (v.resolver p).amin (v.resolver p).amax m.phase := by
  have hf := (local_moveTo p .tracking none v).frame
  simp [moveToTracking, loopEntry, hf.resolver, hf.cam, hlast]

theorem moveToTracking_delivered (hd : ¬ v.driven p) :
    ((moveToTracking p v).loop p).delivered = (v.loop p).delivered := by
  simp [moveToTracking, loopEntry, moveTo_loop_undriven hd]

end Entries

/-! ### A measurement by the phaser's state (R93, R111, R114, R116, R117) -/

section Measured
variable {p : Phaser} {phase : Int} {v : State}

theorem measured_stopped (h : (v.phaser p).state = .stopped) :
    measured p phase v = updateHeld p (if inHomeBand v phase then enterParked p v else enterReturning p v) := by
  simp only [measured, h]

theorem measured_returning (h : (v.phaser p).state = .returning) :
    measured p phase v = updateHeld p
      (if v.numeric p ∧ v.permission then enterTracking p v
       else if inHomeBand v phase then enterLatching p v
       else v) := by
  simp only [measured, h]

theorem measured_other (hs : (v.phaser p).state ≠ .stopped) (hr : (v.phaser p).state ≠ .returning) :
    measured p phase v = v := by
  unfold measured
  split
  · rename_i h
    exact absurd h hs
  · rename_i h
    exact absurd h hr
  · rfl

/-- Outside TRACKING a measurement goes to the Sequencer alone. -/
theorem deliver_untracked (h : (v.phaser p).state ≠ .tracking) : deliver p phase v = measured p phase v := by
  rw [deliver, overBandEvent_other h, deliverLoop, if_neg h]

/-- In TRACKING, below the fault time, it goes to the loop, and the Sequencer does nothing with it. -/
theorem deliver_tracking (h : (v.phaser p).state = .tracking) (hf : (v.phaser p).faultDue = false) :
    ((deliver p phase v).phaser p).state = .tracking ∧
      (deliver p phase v).loop p = { v.loop p with delivered := (v.loop p).delivered ++ [phase] } ∧
      (deliver p phase v).channel p = v.channel p := by
  have hstate : ((declareTrackErr p v).phaser p).state = .tracking := by rw [declareTrackErr_phaser, h]
  rw [deliver, overBandEvent_track h hf, deliverLoop, if_pos hstate, declareTrackErr_loop,
    measured_other (by rw [setLoop_phaser_frame, hstate]; decide) (by rw [setLoop_phaser_frame, hstate]; decide)]
  exact ⟨hstate, setLoop_loop_self _ p _, declareTrackErr_channel p p v⟩

/-- At the fault time the phaser is FAULTED first, and the measurement finds it so (R115; log 9). -/
theorem deliver_faultDue (h : (v.phaser p).state = .tracking) (hf : (v.phaser p).faultDue = true) :
    ((deliver p phase v).phaser p).state = .faulted ∧ ((deliver p phase v).loop p).atRest := by
  have hstate : ((overBandEvent p v).phaser p).state = .faulted := by rw [overBandEvent_state, if_pos ⟨h, hf⟩]
  rw [deliver, deliverLoop, if_neg (by rw [hstate]; decide),
    measured_other (by rw [hstate]; decide) (by rw [hstate]; decide), overBandEvent_loop, if_pos ⟨h, hf⟩]
  exact ⟨hstate, rfl, rfl, rfl, rfl⟩

/-- In the five states that no measurement moves, nothing more happens (R93). -/
theorem deliver_moves_none
    (h : (v.phaser p).state = .parked ∨ (v.phaser p).state = .releasing ∨ (v.phaser p).state = .latching ∨
      (v.phaser p).state = .faulted ∨ (v.phaser p).state = .off) : deliver p phase v = v := by
  have hother (st : PhaserState) (hst : st = .tracking ∨ st = .stopped ∨ st = .returning) : (v.phaser p).state ≠ st := by
    rcases h with h | h | h | h | h <;> rcases hst with rfl | rfl | rfl <;> rw [h] <;> decide
  rw [deliver_untracked (hother _ (.inl rfl)), measured_other (hother _ (.inr (.inl rfl))) (hother _ (.inr (.inr rfl)))]

theorem not_driven_of_resting (h : (v.phaser p).state = .stopped ∨ (v.phaser p).state = .returning) : ¬ v.driven p := by
  rcases h with h | h <;> simp [State.driven, h]

/-- The seven outcomes of a measurement in STOPPED and RETURNING where no fault condition stands, up to RELEASE_HELD. -/
def measuredTo (p : Phaser) (phase : Int) (v : State) : State :=
  if (v.phaser p).state = .stopped then
    if inHomeBand v phase then
      if v.numeric p ∧ v.permission then
        moveTo p .releasing (some v.ps.params.releaseInterval) (moveTo p .parked none v)
      else moveTo p .parked none v
    else if v.numeric p ∧ v.permission then
      moveToTracking p (moveTo p .returning (some v.ps.params.returnTimeout) v)
    else moveTo p .returning (some v.ps.params.returnTimeout) v
  else if v.numeric p ∧ v.permission then moveToTracking p v
  else if inHomeBand v phase then moveTo p .latching (some v.ps.params.latchInterval) v
  else v

/-- A phaser that a measurement can move, with no fault condition standing, ends in one of the seven. -/
theorem deliver_resting (hu : v.unfaulted p = true) (h : (v.phaser p).state = .stopped ∨ (v.phaser p).state = .returning) :
    deliver p phase v = updateHeld p (measuredTo p phase v) := by
  unfold measuredTo
  rcases h with h | h
  · rw [deliver_untracked (by rw [h]; decide), measured_stopped h, enterParked_unfaulted hu, enterReturning_unfaulted hu,
      if_pos h]
  · have hstate : (v.phaser p).state ≠ .stopped := by rw [h]; decide
    rw [deliver_untracked (by rw [h]; decide), measured_returning h, enterTracking_unfaulted hu,
      enterLatching_unfaulted hu, if_neg hstate]

/-- Each outcome changes records of its own phaser alone. -/
theorem local_measuredTo (p : Phaser) (phase : Int) (v : State) : SeqLocal p v (measuredTo p phase v) := by
  unfold measuredTo
  split
  · split
    · split
      · exact (local_moveTo p _ _ v).trans (local_moveTo p _ _ _)
      · exact local_moveTo p _ _ v
    · split
      · exact (local_moveTo p _ _ v).trans (local_moveToTracking p _)
      · exact local_moveTo p _ _ v
  · split
    · exact local_moveToTracking p v
    · split
      · exact local_moveTo p _ _ v
      · exact .refl p v

/-- None of them hands the measurement to the loop (R114, R142; log 34). -/
theorem measuredTo_delivered (hd : ¬ v.driven p) :
    ((measuredTo p phase v).loop p).delivered = (v.loop p).delivered := by
  have hmoved (st : PhaserState) (timer : Option Nat) (hst : st = .parked ∨ st = .returning) :
      ¬ (moveTo p st timer v).driven p := by
    rw [State.driven, (moveTo_phaser p st timer v).1]
    rcases hst with rfl | rfl <;> decide
  unfold measuredTo
  split
  · split
    · split
      · rw [moveTo_loop_undriven (hmoved _ _ (.inl rfl)), moveTo_loop_undriven hd]
      · rw [moveTo_loop_undriven hd]
    · split
      · rw [moveToTracking_delivered (hmoved _ _ (.inr rfl)), moveTo_loop_undriven hd]
      · rw [moveTo_loop_undriven hd]
  · split
    · exact moveToTracking_delivered hd
    · split
      · rw [moveTo_loop_undriven hd]
      · rfl

/-- Held back, the phaser ends in one of the three states in which RELEASE_HELD can hold. -/
theorem measuredTo_waiting (h : (v.phaser p).state = .stopped ∨ (v.phaser p).state = .returning)
    (hgo : ¬ (v.numeric p = true ∧ v.permission = true)) : (measuredTo p phase v).waiting p := by
  unfold measuredTo
  simp only [if_neg hgo]
  split
  · split
    · exact .inl (moveTo_phaser p _ _ v).1
    · exact .inr (.inl (moveTo_phaser p _ _ v).1)
  · rename_i hs
    split
    · exact .inr (.inr (moveTo_phaser p _ _ v).1)
    · exact .inr (.inl (h.resolve_left hs))

/-- RELEASE_HELD after a measurement that can move the phaser: with a numeric target it stands exactly where permission is
missing (R110). -/
theorem deliver_held (hu : v.unfaulted p = true) (h : (v.phaser p).state = .stopped ∨ (v.phaser p).state = .returning) :
    (¬ (v.numeric p = true ∧ v.permission = true) →
      (deliver p phase v).stands p .releaseHeld = v.numeric p) ∧
    (v.numeric p = true ∧ v.permission = true → (deliver p phase v).stands p .releaseHeld = false) := by
  have hf := (local_measuredTo p phase v).frame
  rw [deliver_resting hu h]
  refine ⟨fun hgo => ?_, fun ⟨_, hp⟩ => ?_⟩
  · rw [updateHeld_waiting (measuredTo_waiting h hgo), hf.numeric, hf.permission]
    cases hn : v.numeric p with
    | false => rfl
    | true =>
      rw [Bool.eq_false_iff.mpr fun hp => hgo ⟨hn, hp⟩]
      rfl
  · rw [updateHeld_stands, if_pos rfl, State.holds, hf.permission, hp]
    simp

theorem deliver_resting_delivered (hu : v.unfaulted p = true)
    (h : (v.phaser p).state = .stopped ∨ (v.phaser p).state = .returning) :
    ((deliver p phase v).loop p).delivered = (v.loop p).delivered := by
  rw [deliver_resting hu h, updateHeld_loop, measuredTo_delivered (not_driven_of_resting h)]

end Measured

/-! ### Each outcome of a measurement (R111, R112, R114, R116, R117) -/

section Outcomes
variable {p : Phaser} {phase : Int} {v : State}

/-- A STOPPED phaser within the home band is PARKED. -/
theorem deliver_parks (hu : v.unfaulted p = true) (h : (v.phaser p).state = .stopped) (hb : inHomeBand v phase = true)
    (hgo : ¬ (v.numeric p = true ∧ v.permission = true)) :
    ((deliver p phase v).phaser p).state = .parked ∧ ((deliver p phase v).phaser p).timer = none ∧
      ((deliver p phase v).channel p).commanded = 0 := by
  rw [deliver_resting hu (.inl h), measuredTo, if_pos h, if_pos hb, if_neg hgo, updateHeld_phaser, updateHeld_channel]
  obtain ⟨hstate, htimer⟩ := moveTo_phaser p .parked none v
  exact ⟨hstate, htimer, moveTo_commanded p _ _ v⟩

/-- It is released at once where a numeric target and permission hold. -/
theorem deliver_releases (hu : v.unfaulted p = true) (h : (v.phaser p).state = .stopped) (hb : inHomeBand v phase = true)
    (hgo : v.numeric p = true ∧ v.permission = true) : (deliver p phase v).released p := by
  rw [deliver_resting hu (.inl h), measuredTo, if_pos h, if_pos hb, if_pos hgo]
  have hmoved : (moveTo p .parked none v).unfaulted p = true := by rw [moveTo_unfaulted, hu]
  have hreleased := enterReleasing_released hmoved
  rw [enterReleasing_unfaulted hmoved, (local_moveTo p .parked none v).frame.params] at hreleased
  exact updateHeld_released hreleased

/-- A STOPPED phaser outside the home band is sent home. -/
theorem deliver_sendsHome (hu : v.unfaulted p = true) (h : (v.phaser p).state = .stopped)
    (hb : ¬ inHomeBand v phase = true) (hgo : ¬ (v.numeric p = true ∧ v.permission = true)) :
    (deliver p phase v).sentHome p := by
  rw [deliver_resting hu (.inl h), measuredTo, if_pos h, if_neg hb, if_neg hgo]
  exact updateHeld_sentHome (moveTo_sentHome p v)

/-- A phaser away from home, or on its way there, tracks where a numeric target and permission hold. -/
theorem deliver_tracks {m : Measurement} (hu : v.unfaulted p = true)
    (h : ((v.phaser p).state = .stopped ∧ ¬ inHomeBand v phase = true) ∨ (v.phaser p).state = .returning)
    (hgo : v.numeric p = true ∧ v.permission = true) (hlast : (v.cam p).last = some m) :
    ((deliver p phase v).phaser p).state = .tracking ∧ ((deliver p phase v).phaser p).timer = none ∧
      ((deliver p phase v).phaser p).overBand = none ∧
      ((deliver p phase v).loop p).ramp = clampInt (v.resolver p).amin (v.resolver p).amax m.phase := by
  have hentry : ∃ w, SeqFrame v w ∧ deliver p phase v = updateHeld p (moveToTracking p w) := by
    rcases h with ⟨h, hb⟩ | h
    · refine ⟨_, (local_moveTo p .returning (some v.ps.params.returnTimeout) v).frame, ?_⟩
      rw [deliver_resting hu (.inl h), measuredTo, if_pos h, if_neg hb, if_pos hgo]
    · refine ⟨v, .refl v, ?_⟩
      rw [deliver_resting hu (.inr h), measuredTo, if_neg (by rw [h]; decide), if_pos hgo]
  obtain ⟨w, hf, he⟩ := hentry
  obtain ⟨hstate, htimer, hover⟩ := moveToTracking_phaser p w
  rw [he, updateHeld_phaser, updateHeld_loop, moveToTracking_ramp (m := m) (by rw [hf.cam, hlast]), hf.resolver]
  exact ⟨hstate, htimer, hover, rfl⟩

/-- A RETURNING phaser within the home band latches. -/
theorem deliver_latches (hu : v.unfaulted p = true) (h : (v.phaser p).state = .returning)
    (hb : inHomeBand v phase = true) (hgo : ¬ (v.numeric p = true ∧ v.permission = true)) :
    ((deliver p phase v).phaser p).state = .latching ∧
      ((deliver p phase v).phaser p).timer = some v.ps.params.latchInterval ∧
      ((deliver p phase v).channel p).commanded = 0 := by
  rw [deliver_resting hu (.inr h), measuredTo, if_neg (by rw [h]; decide), if_neg hgo, if_pos hb, updateHeld_phaser,
    updateHeld_channel]
  obtain ⟨hstate, htimer⟩ := moveTo_phaser p .latching (some v.ps.params.latchInterval) v
  exact ⟨hstate, htimer, moveTo_commanded p _ _ v⟩

/-- Outside it, the phaser goes on RETURNING, whatever conditions stand. -/
theorem deliver_goesOn (h : (v.phaser p).state = .returning) (hb : ¬ inHomeBand v phase = true)
    (hgo : ¬ (v.numeric p = true ∧ v.permission = true)) :
    ((deliver p phase v).phaser p).state = .returning ∧ ((deliver p phase v).phaser p).timer = (v.phaser p).timer ∧
      (deliver p phase v).loop p = v.loop p ∧ (deliver p phase v).channel p = v.channel p := by
  rw [deliver_untracked (by rw [h]; decide), measured_returning h, if_neg hgo, if_neg hb, updateHeld_phaser]
  exact ⟨h, rfl, rfl, rfl⟩

end Outcomes

/-! ### The measurement noted in the cam's record (R93) -/

/-- A measurement in the cam's record, with CAM_LOST cleared: the state in which it is delivered. -/
def State.noted (c : Phaser) (k : Nat) (phase : Int) (s : State) : State :=
  (s.setCam c { s.cam c with last := some ⟨phase, 0⟩, miss := 0, marks := (s.cam c).marks.set k true }).drive c
    .camLost false

theorem takeMeasurement_eq (c : Phaser) (k : Nat) (phase : Int) (s : State) :
    takeMeasurement c k phase s = deliver c phase (s.noted c k phase) := rfl

section Noted
variable (c : Phaser) (k : Nat) (phase : Int) (s : State)

theorem noted_last : ((s.noted c k phase).cam c).last = some ⟨phase, 0⟩ := by
  simp [State.noted]

/-- With CAM_LOST cleared, only a driver condition can fault the phaser. -/
theorem noted_unfaulted (h : (s.stands c .drvOpen || s.stands c .drvShort || s.stands c .drvHot) = false) :
    (s.noted c k phase).unfaulted c = true := by
  simp only [Bool.or_eq_false_iff] at h
  obtain ⟨⟨ho, hs⟩, hh⟩ := h
  rw [unfaulted_iff]
  simp [State.noted, drive_stands, ho, hs, hh]

end Noted

/-! ### A miss and CAM_LOST (R96, R97, R119, R120) -/

/-- A miss counted in the cam's record. -/
def State.missed (c : Phaser) (s : State) : State := s.setCam c { s.cam c with miss := min 255 ((s.cam c).miss + 1) }

theorem missTooth_declared {c : Phaser} {s : State}
    (h : s.stands c .camLost = false ∧ s.ec.lostCount ≤ min 255 ((s.cam c).miss + 1)) :
    missTooth c s = camLostDeclared c (s.missed c) := by
  unfold missTooth
  dsimp only
  rw [if_pos]
  · rfl
  · rw [setCam_cam_self, setCam_stands, setCam_lostCount]
    exact h.symm

theorem missTooth_counted {c : Phaser} {s : State}
    (h : ¬ (s.stands c .camLost = false ∧ s.ec.lostCount ≤ min 255 ((s.cam c).miss + 1))) :
    missTooth c s = s.missed c := by
  unfold missTooth
  dsimp only
  rw [if_neg]
  · rfl
  · rw [setCam_cam_self, setCam_stands, setCam_lostCount]
    exact fun h' => h h'.symm

section Lost
variable {p : Phaser} {v : State}

/-- Where no fault time has been found reached, the over-band events change no more than TRACK_ERR. -/
theorem overBandEvent_kept (h : ¬ ((v.phaser p).state = .tracking ∧ (v.phaser p).faultDue = true)) :
    ((overBandEvent p v).phaser p).state = (v.phaser p).state ∧
      ∀ e, e ≠ .trackErr → (overBandEvent p v).stands p e = v.stands p e := by
  by_cases ht : (v.phaser p).state = .tracking
  · rw [overBandEvent_track ht (Bool.eq_false_iff.mpr fun hf => h ⟨ht, hf⟩)]
    exact ⟨by rw [declareTrackErr_phaser],
      fun e he => by rw [declareTrackErr_stands, if_neg fun hc => he hc.2]⟩
  · rw [overBandEvent_other ht]
    exact ⟨rfl, fun _ _ => rfl⟩

/-- CAM_LOST faults a phaser in one of the three states that R119 names. -/
theorem camLostDeclared_faults
    (h : (v.phaser p).state = .releasing ∨ (v.phaser p).state = .returning ∨
      ((v.phaser p).state = .tracking ∧ (v.phaser p).faultDue = false)) :
    let t := camLostDeclared p v
    (t.phaser p).state = .faulted ∧ (t.phaser p).timer = none ∧ (t.channel p).commanded = 0 ∧
      t.stands p .faulted = true ∧
      (t.phaser p).causes = ⟨v.stands p .drvOpen, v.stands p .drvShort, v.stands p .drvHot, true, false, false⟩ ∧
      ((v.phaser p).state ≠ .returning → (t.loop p).atRest) := by
  have hdue : ¬ ((v.phaser p).state = .tracking ∧ (v.phaser p).faultDue = true) := by
    rintro ⟨hs, hf⟩
    simp [hs, hf] at h
  obtain ⟨hstate, hstands⟩ := overBandEvent_kept hdue
  have hlost : camLostDeclared p v =
      updateHeld p (faultEntry p { CauseSet.empty with camLost := true } ((overBandEvent p v).drive p .camLost true)) := by
    unfold camLostDeclared
    dsimp only
    rw [drive_phaser_frame, hstate]
    rcases h with h | h | ⟨h, -⟩ <;> rw [h]
  obtain ⟨hfaulted, htimer⟩ := moveTo_phaser p .faulted none ((overBandEvent p v).drive p .camLost true)
  intro t
  have ht : t = _ := hlost
  rw [ht, updateHeld_phaser, updateHeld_channel, updateHeld_stands, faultEntry_phaser, faultEntry_channel,
    faultEntry_stands, updateHeld_loop, faultEntry_loop]
  refine ⟨hfaulted, htimer, rfl, rfl, ?_, fun hr => ?_⟩
  · simp [CauseSet.union, State.standing, CauseSet.empty, drive_stands, hstands]
  · refine moveTo_atRest ?_ _ _
    rw [State.driven, drive_phaser_frame, hstate]
    rcases h with h | h | ⟨h, -⟩
    · exact .inl h
    · exact absurd h hr
    · exact .inr h

/-- It adds a cause to a FAULTED phaser and moves nothing (R120). -/
theorem camLostDeclared_adds (h : (v.phaser p).state = .faulted) :
    (camLostDeclared p v).phaser p = { v.phaser p with causes := { (v.phaser p).causes with camLost := true } } ∧
      (camLostDeclared p v).loop p = v.loop p ∧ (camLostDeclared p v).channel p = v.channel p := by
  have hlost : camLostDeclared p v = addCause p { CauseSet.empty with camLost := true } (v.drive p .camLost true) := by
    unfold camLostDeclared
    simp only [overBandEvent_other (p := p) (s := v) (by rw [h]; decide), drive_phaser_frame, h]
  rw [hlost]
  simp [addCause, CauseSet.union, CauseSet.empty]

/-- In the other four states it moves nothing. -/
theorem camLostDeclared_moves_none
    (h : (v.phaser p).state = .stopped ∨ (v.phaser p).state = .parked ∨ (v.phaser p).state = .latching ∨
      (v.phaser p).state = .off) : camLostDeclared p v = v.drive p .camLost true := by
  unfold camLostDeclared
  rw [overBandEvent_other (by rcases h with h | h | h | h <;> rw [h] <;> decide)]
  simp only [drive_phaser_frame]
  rcases h with h | h | h | h <;> rw [h]

end Lost

/-! ### The statement -/

/-- A measurement leaves the other cams and phasers. -/
theorem takeMeasurement_others {c q : Phaser} (h : q ≠ c) (k : Nat) (phase : Int) (s : State) :
    (takeMeasurement c k phase s).cam q = s.cam q ∧ (takeMeasurement c k phase s).phaser q = s.phaser q := by
  refine ⟨congrArg CamView.cam ((takeMeasurement_camView c q k phase s).trans (if_neg h)), ?_⟩
  rw [takeMeasurement_eq]
  exact (local_deliver c phase (s.noted c k phase)).phaser q h

theorem missTooth_others {c q : Phaser} (h : q ≠ c) (s : State) :
    (missTooth c s).cam q = s.cam q ∧ (missTooth c s).phaser q = s.phaser q := by
  refine ⟨congrArg CamView.cam ((missTooth_camView c q s).trans (if_neg h)), ?_⟩
  by_cases hd : s.stands c .camLost = false ∧ s.ec.lostCount ≤ min 255 ((s.cam c).miss + 1)
  · rw [missTooth_declared hd]
    exact (local_camLostDeclared c (s.missed c)).phaser q h
  · rw [missTooth_counted hd]
    rfl

/-- A reject, with the count and the latch record written out (R94, R165). -/
theorem rejectEdge_eq (c : Phaser) (s : State) :
    rejectEdge c s =
      (s.setCam c { s.cam c with rejects := min 255 ((s.cam c).rejects + 1) }).setPhGroup c
        { s.phGroup c with
          reject := match (s.phGroup c).reject with
            | none => some ⟨1, ()⟩
            | some l => some ⟨min 255 (l.count + 1), ()⟩ } :=
  congrArg
    (fun r => (s.setCam c { s.cam c with rejects := min 255 ((s.cam c).rejects + 1) }).setPhGroup c
      { s.phGroup c with reject := r })
    (latchEvent_unit (s.phGroup c).reject)

/-- Settles O29: a measurement by the phaser's state, a reject, and a miss by whether it declares CAM_LOST. -/
theorem measurementsRejectsAndMissesActOnTheirCam : Obligations.MeasurementsRejectsAndMissesActOnTheirCam := by
  intro c k phase s x go home driver
  refine ⟨?_, rejectEdge_eq c s, ?_⟩
  · intro t y
    have hview : t.camView c = _ := (takeMeasurement_camView c c k phase s).trans (if_pos rfl)
    have hu (hd : driver = false) : (s.noted c k phase).unfaulted c = true := noted_unfaulted c k phase s hd
    have hhome : inHomeBand (s.noted c k phase) phase = true ↔ home := decide_eq_true_iff
    have hgo : s.numeric c = true ∧ s.permission = true ↔ go = true := Bool.and_eq_true_iff.symm
    have hheld (hg : go = false) : ¬ (s.numeric c = true ∧ s.permission = true) := by simp [hgo, hg]
    refine ⟨congrArg CamView.cam hview, congrArg CamView.lost hview,
      deliver_tracking (v := s.noted c k phase), deliver_faultDue (v := s.noted c k phase), fun hs => ?_,
      fun hd hs => ⟨deliver_resting_delivered (hu hd) hs, fun hg => (deliver_held (hu hd) hs).1 (hheld hg),
        fun hg => (deliver_held (hu hd) hs).2 (hgo.mpr hg)⟩,
      fun hd hs hb hg => deliver_parks (hu hd) hs (hhome.mpr hb) (hheld hg),
      fun hd hs hb hg => deliver_releases (hu hd) hs (hhome.mpr hb) (hgo.mpr hg),
      fun hd hs hb hg => deliver_sendsHome (hu hd) hs (hb ∘ hhome.mp) (hheld hg),
      fun hd hs hg => deliver_tracks (hu hd) (hs.imp_left fun h => ⟨h.1, h.2 ∘ hhome.mp⟩) (hgo.mpr hg)
        (noted_last c k phase s),
      fun hd hs hg hb => deliver_latches (hu hd) hs (hhome.mpr hb) (hheld hg),
      fun hs hg hb => deliver_goesOn (v := s.noted c k phase) hs (hb ∘ hhome.mp) (hheld hg),
      fun q hq => takeMeasurement_others hq k phase s⟩
    have hy : y = t.phaser c := rfl
    have ht : t = s.noted c k phase := (takeMeasurement_eq c k phase s).trans (deliver_moves_none hs)
    rw [hy, ht]
    exact ⟨rfl, rfl, rfl⟩
  · intro t y declared
    have hview : t.camView c = _ := (missTooth_camView c c s).trans (if_pos rfl)
    have hlost : t.stands c .camLost = _ := congrArg CamView.lost hview
    have hy : y = t.phaser c := rfl
    have ht (hd : declared) : t = camLostDeclared c (s.missed c) := missTooth_declared hd
    refine ⟨congrArg CamView.cam hview, by rw [hlost, Bool.or_eq_true, decide_eq_true_iff], fun hd => ?_, fun hd hs => ?_,
      fun hd hs => ?_, fun hd hs => ?_, fun q hq => missTooth_others hq s⟩
    · have hcounted : t = s.missed c := missTooth_counted hd
      rw [hy, hcounted]
      exact ⟨rfl, rfl, rfl, rfl⟩
    · rw [hy, ht hd]
      exact camLostDeclared_faults (v := s.missed c) hs
    · rw [hy, ht hd]
      exact camLostDeclared_adds (v := s.missed c) hs
    · rw [hy, ht hd, camLostDeclared_moves_none (v := s.missed c) hs]
      exact ⟨rfl, rfl, rfl⟩

end Sys2Proof.Machine
end

section
/-! ## What every move of the Sequencer keeps of a phaser's loop, duty and record (R104, R105, R115, R118, R119, R131, R143) -/

namespace Sys2Proof.Machine

open Sys2Proof

/-! ### The laws, phaser by phaser -/

/-- The law of a loop record in a state of its phaser (R131, R138, R143, R145). -/
def Loop.lawful (l : Loop) (st : PhaserState) : Prop :=
  l.params.ilim ≤ 5000 ∧ -(l.params.ilim * 256 : Nat) ≤ l.integrator ∧ l.integrator ≤ (l.params.ilim * 256 : Nat) ∧
    (st ≠ .tracking → l.atRest)

/-- The law of a commanded duty in a state of its phaser (R105). -/
def dutyLawful (duty : Nat) (st : PhaserState) : Prop := duty ≤ 10000 ∧ (duty ≠ 0 → st = .releasing ∨ st = .tracking)

/-- The law of a phaser record beside FAULTED and TRACK_ERR as they stand, RELEASE_HELD apart (R104, R115, R119, R122). -/
def PhaserRec.lawful (x : PhaserRec) (faulted trackErr : Bool) : Prop :=
  (x.state = .off ↔ x.enable = false) ∧ (x.state = .faulted ↔ x.causes ≠ CauseSet.empty) ∧
  (x.state = .faulted ↔ faulted = true) ∧ (x.overBand ≠ none → x.state = .tracking) ∧
  (trackErr = true → x.state = .tracking) ∧
  (x.timer ≠ none ↔ x.state = .releasing ∨ x.state = .returning ∨ x.state = .latching)

/-- A phaser record that can take a new state: enabled, without a fault cause, and with nothing of TRACKING outside TRACKING. -/
def PhaserRec.movable (x : PhaserRec) (faulted trackErr : Bool) : Prop :=
  x.enable = true ∧ x.causes = CauseSet.empty ∧ faulted = false ∧
  (x.state ≠ .tracking → x.overBand = none ∧ trackErr = false)

/-- The record of a phaser is lawful, RELEASE_HELD apart. -/
def State.sound (s : State) (p : Phaser) : Prop := (s.phaser p).lawful (s.stands p .faulted) (s.stands p .trackErr)

/-- The record of a phaser can take a new state. -/
def State.movable (s : State) (p : Phaser) : Prop := (s.phaser p).movable (s.stands p .faulted) (s.stands p .trackErr)

/-- RELEASE_HELD stands in a waiting state only (R110). -/
def State.heldOk (s : State) (p : Phaser) : Prop := s.stands p .releaseHeld = true → s.waiting p

theorem phaserOk_iff (s : State) (p : Phaser) : phaserOk s p ↔ s.sound p ∧ s.heldOk p := by
  constructor
  · rintro ⟨henable, hcauses, hfaulted, hover, herr, hheld, htimer⟩
    exact ⟨⟨henable, hcauses, hfaulted, hover, herr, htimer⟩, hheld⟩
  · rintro ⟨⟨henable, hcauses, hfaulted, hover, herr, htimer⟩, hheld⟩
    exact ⟨henable, hcauses, hfaulted, hover, herr, hheld, htimer⟩

/-- A phaser that is neither OFF nor FAULTED can take a new state. -/
theorem sound_movable {s : State} {p : Phaser} (h : s.sound p) (hoff : (s.phaser p).state ≠ .off)
    (hfaulted : (s.phaser p).state ≠ .faulted) : s.movable p := by
  obtain ⟨henable, hcauses, hstands, hover, herr, -⟩ := h
  refine ⟨?_, ?_, ?_, fun ht => ⟨?_, ?_⟩⟩
  · simpa [hoff] using henable
  · simpa [hfaulted] using hcauses
  · simpa [hfaulted] using hstands
  · simpa [ht] using hover
  · simpa [ht] using herr

theorem empty_union (c : CauseSet) : CauseSet.empty.union c = c := rfl

/-! ### A move's effect on the three records -/

/-- A departed loop record is lawful in every state (R118, R143). -/
theorem departed_lawful {l : Loop} (h : l.params.ilim ≤ 5000) (st : PhaserState) : l.departed.lawful st := by
  refine ⟨h, ?_, ?_, fun _ => ⟨rfl, rfl, rfl, rfl⟩⟩ <;> simp only [Loop.departed] <;> omega

theorem moved_loop_lawful {p : Phaser} {s : State} (h : (s.loop p).lawful (s.phaser p).state) (st st' : PhaserState)
    (timer : Option Nat) : ((moveTo p st timer s).loop p).lawful st' := by
  rw [moveTo_loop]
  split
  · exact departed_lawful h.1 st'
  · rename_i hn
    obtain ⟨hlim, hlo, hhi, hrest⟩ := h
    exact ⟨hlim, hlo, hhi, fun _ => hrest fun ht => hn (.inl ht)⟩

/-- The duty of an entered state is lawful in it (R105). -/
theorem stateDuty_lawful {s : State} (h : s.ps.params.releaseDuty ≤ 10000) (st : PhaserState) :
    dutyLawful (s.stateDuty st) st := by
  cases st with
  | releasing => exact ⟨h, fun _ => .inl rfl⟩
  | _ => exact ⟨Nat.zero_le _, fun h => absurd rfl h⟩

/-- The state a move enters, with the timer that runs in it, makes a movable record lawful. -/
theorem moveTo_sound {p : Phaser} {s : State} (h : s.movable p) {st : PhaserState} {timer : Option Nat}
    (hoff : st ≠ .off) (hfaulted : st ≠ .faulted)
    (ht : timer ≠ none ↔ st = .releasing ∨ st = .returning ∨ st = .latching) : (moveTo p st timer s).sound p := by
  obtain ⟨henable, hcauses, hstands, hover⟩ := h
  unfold State.sound
  rw [moveTo_record, moveTo_stands, moveTo_stands]
  by_cases htr : (s.phaser p).state = .tracking
  · simp [PhaserRec.lawful, htr, hoff, hfaulted, ← ht, henable, hcauses, hstands]
  · obtain ⟨hnone, herr⟩ := hover htr
    simp [PhaserRec.lawful, htr, hoff, hfaulted, ← ht, henable, hcauses, hstands, hnone, herr]

/-- Fault entry with a cause makes a movable record lawful (R119). -/
theorem faultEntry_sound {p : Phaser} {s : State} (h : s.movable p) {c : CauseSet}
    (hc : c.union (s.standing p (s.phaser p).state) ≠ CauseSet.empty) : (faultEntry p c s).sound p := by
  obtain ⟨henable, -, -, hover⟩ := h
  unfold State.sound
  rw [faultEntry_phaser, faultEntry_stands, if_pos rfl, faultEntry_stands, if_neg (by decide), moveTo_record]
  by_cases htr : (s.phaser p).state = .tracking
  · simp [PhaserRec.lawful, htr, henable, htr ▸ hc]
  · obtain ⟨hnone, herr⟩ := hover htr
    simp [PhaserRec.lawful, htr, henable, hc, hnone, herr]

/-! ### What a move keeps -/

/-- A move of one phaser: local to it, it keeps its loop record and its commanded duty lawful, and its own record is as `after`
says where it was as `before` says. -/
structure MoveSound (before after : State → Phaser → Prop) (p : Phaser) (s t : State) : Prop where
  seq : SeqLocal p s t
  loop : (s.loop p).lawful (s.phaser p).state → (t.loop p).lawful (t.phaser p).state
  duty : s.ps.params.releaseDuty ≤ 10000 → dutyLawful (s.channel p).commanded (s.phaser p).state →
    dutyLawful (t.channel p).commanded (t.phaser p).state
  record : before s p → after t p

/-- A complete event of one phaser: RELEASE_HELD is lawful after it too. -/
structure EventSound (p : Phaser) (s t : State) : Prop where
  move : MoveSound State.sound State.sound p s t
  held : s.heldOk p → t.heldOk p

section Moves
variable {before mid after : State → Phaser → Prop} {p : Phaser} {s t u : State}

theorem MoveSound.refl (p : Phaser) (s : State) : MoveSound before before p s s := ⟨.refl p s, id, fun _ => id, id⟩

theorem MoveSound.trans (a : MoveSound before mid p s t) (b : MoveSound mid after p t u) : MoveSound before after p s u :=
  ⟨a.seq.trans b.seq, fun h => b.loop (a.loop h), fun hd h => b.duty (by rwa [a.seq.frame.params]) (a.duty hd h),
   fun h => b.record (a.record h)⟩

/-- An entry from a state that is neither OFF nor FAULTED. -/
theorem MoveSound.ofState (h : MoveSound State.movable State.sound p s t) (hoff : (s.phaser p).state ≠ .off)
    (hfaulted : (s.phaser p).state ≠ .faulted) : MoveSound State.sound State.sound p s t :=
  ⟨h.seq, h.loop, h.duty, fun hs => h.record (sound_movable hs hoff hfaulted)⟩

theorem EventSound.refl (p : Phaser) (s : State) : EventSound p s s := ⟨.refl p s, id⟩

theorem EventSound.trans (a : EventSound p s t) (b : EventSound p t u) : EventSound p s u :=
  ⟨a.move.trans b.move, fun h => b.held (a.held h)⟩

/-- An update that leaves what the laws read of a phaser. -/
theorem eventSound_of_same (hseq : SeqLocal p s t) (hloop : t.loop p = s.loop p)
    (hduty : (t.channel p).commanded = (s.channel p).commanded)
    (hrecord : ∃ d k, t.phaser p = { s.phaser p with declared := d, held := k })
    (hstands : ∀ e, e = .faulted ∨ e = .trackErr ∨ e = .releaseHeld → t.stands p e = s.stands p e) :
    EventSound p s t := by
  obtain ⟨d, k, hx⟩ := hrecord
  refine ⟨⟨hseq, fun h => ?_, fun _ h => ?_, fun h => ?_⟩, fun h => ?_⟩
  · rw [hloop, hx]
    exact h
  · rw [hduty, hx]
    exact h
  · unfold State.sound
    rw [hx, hstands _ (.inl rfl), hstands _ (.inr (.inl rfl))]
    exact h
  · unfold State.heldOk State.waiting
    rw [hx, hstands _ (.inr (.inr rfl))]
    exact h

theorem moveSound_updateHeld (p : Phaser) (s : State) : MoveSound State.sound State.sound p s (updateHeld p s) := by
  refine ⟨local_updateHeld p s, fun h => ?_, fun _ h => ?_, fun h => ?_⟩
  · rw [updateHeld_state]
    exact h
  · rw [updateHeld_state]
    exact h
  · unfold State.sound
    rw [updateHeld_phaser, updateHeld_stands, updateHeld_stands]
    exact h

theorem updateHeld_heldOk (p : Phaser) (s : State) : (updateHeld p s).heldOk p := fun hheld =>
  ((updateHeld_declares p s).mp hheld).2.2

/-- Every event of the Sequencer ends with RELEASE_HELD brought to its three conditions (R110). -/
theorem MoveSound.event (h : MoveSound State.sound State.sound p s t) : EventSound p s (updateHeld p t) :=
  ⟨h.trans (moveSound_updateHeld p t), fun _ => updateHeld_heldOk p t⟩

/-! ### Changes of state and faults -/

theorem moveSound_moveTo {st : PhaserState} {timer : Option Nat} (hoff : st ≠ .off) (hfaulted : st ≠ .faulted)
    (ht : timer ≠ none ↔ st = .releasing ∨ st = .returning ∨ st = .latching) :
    MoveSound State.movable State.sound p s (moveTo p st timer s) := by
  obtain ⟨hstate, -⟩ := moveTo_phaser p st timer s
  refine ⟨local_moveTo p st timer s, fun h => moved_loop_lawful h st _ timer, fun hd _ => ?_,
    fun h => moveTo_sound h hoff hfaulted ht⟩
  rw [moveTo_commanded, hstate]
  exact stateDuty_lawful hd st

theorem compensate_le (u battery : Nat) : compensate u battery ≤ 10000 := Nat.min_le_left _ _

/-- TRACKING entry sets the integrator to 0 and a compensated duty (R142). -/
theorem moveSound_moveToTracking (p : Phaser) (s : State) : MoveSound State.movable State.sound p s (moveToTracking p s) := by
  obtain ⟨hstate, -, -⟩ := moveToTracking_phaser p s
  refine ⟨local_moveToTracking p s, fun h => ?_, fun _ _ => ?_, fun h => ?_⟩
  · obtain ⟨hlim, -⟩ := moved_loop_lawful h .tracking .tracking none
    rw [hstate]
    simp only [moveToTracking, setCommanded_loop_frame, setLoop_loop_self, setPhaser_loop_frame]
    exact ⟨hlim, by simp [loopEntry], by simp [loopEntry], fun hn => absurd rfl hn⟩
  · rw [hstate]
    simp only [moveToTracking, setCommanded_channel, if_true]
    exact ⟨compensate_le _ _, fun _ => .inr rfl⟩
  · obtain ⟨henable, hcauses, hfaulted, -, -, htimer⟩ :=
      moveTo_sound (timer := none) h (st := .tracking) (by decide) (by decide) (by simp)
    unfold State.sound moveToTracking
    simp only [setCommanded_phaser_frame, setLoop_phaser_frame, setPhaser_phaser_self, setCommanded_stands,
      setLoop_stands, setPhaser_stands]
    refine ⟨henable, hcauses, hfaulted, fun hn => absurd rfl hn, fun _ => (moveTo_phaser p .tracking none s).1, htimer⟩

theorem moveSound_faultEntry {c : CauseSet} (hc : c.union (s.standing p (s.phaser p).state) ≠ CauseSet.empty) :
    MoveSound State.movable State.sound p s (faultEntry p c s) := by
  have hstate : ((faultEntry p c s).phaser p).state = .faulted := by
    rw [faultEntry_phaser]
    exact (moveTo_phaser p .faulted none s).1
  refine ⟨local_faultEntry p c s, fun h => ?_, fun _ _ => ?_, fun h => faultEntry_sound h hc⟩
  · rw [faultEntry_loop]
    exact moved_loop_lawful h .faulted _ none
  · rw [faultEntry_channel]
    exact ⟨Nat.zero_le _, fun h => absurd rfl h⟩

theorem moveSound_faultStanding (p : Phaser) (s : State) : MoveSound State.sound State.sound p s (faultStanding p s) := by
  unfold faultStanding
  split
  · exact .refl p s
  · exact .refl p s
  · rename_i hoff hfaulted
    split
    · exact .refl p s
    · rename_i hc
      refine (moveSound_faultEntry ?_).ofState hoff hfaulted
      rwa [empty_union]

end Moves

end Sys2Proof.Machine
end

section
/-! ## Every event of the Sequencer keeps the laws of its phaser (R104 to R124, R143, R158) -/

namespace Sys2Proof.Machine

open Sys2Proof

/-! ### Entries and checks (R111 to R117) -/

section Entries
variable {p : Phaser} {s : State}

theorem moveSound_enter {st : PhaserState} {timer : Option Nat} (hoff : st ≠ .off) (hfaulted : st ≠ .faulted)
    (ht : timer ≠ none ↔ st = .releasing ∨ st = .returning ∨ st = .latching) :
    MoveSound State.movable State.sound p s (faultStanding p (moveTo p st timer s)) :=
  (moveSound_moveTo hoff hfaulted ht).trans (moveSound_faultStanding p _)

theorem moveSound_enterStopped (p : Phaser) (s : State) : MoveSound State.movable State.sound p s (enterStopped p s) :=
  moveSound_enter (by decide) (by decide) (by simp)

theorem moveSound_enterReleasing (p : Phaser) (s : State) : MoveSound State.movable State.sound p s (enterReleasing p s) :=
  moveSound_enter (by decide) (by decide) (by simp)

theorem moveSound_enterTracking (p : Phaser) (s : State) : MoveSound State.movable State.sound p s (enterTracking p s) :=
  (moveSound_moveToTracking p s).trans (moveSound_faultStanding p _)

theorem moveSound_enterLatching (p : Phaser) (s : State) : MoveSound State.movable State.sound p s (enterLatching p s) :=
  moveSound_enter (by decide) (by decide) (by simp)

/-- A move from a state that is neither OFF nor FAULTED, by that state's name. -/
theorem MoveSound.leaving {t : State} {st : PhaserState} (h : MoveSound State.movable State.sound p s t)
    (hs : (s.phaser p).state = st)
    (hoff : st ≠ .off := by decide) (hfaulted : st ≠ .faulted := by decide) : MoveSound State.sound State.sound p s t :=
  h.ofState (by rwa [hs]) (by rwa [hs])

theorem moveSound_checkParked (p : Phaser) (s : State) : MoveSound State.sound State.sound p s (checkParked p s) := by
  unfold checkParked
  split
  · rename_i h
    exact (moveSound_enterReleasing p s).leaving h.1
  · exact .refl p s

theorem moveSound_checkReturning (p : Phaser) (s : State) : MoveSound State.sound State.sound p s (checkReturning p s) := by
  unfold checkReturning
  split
  · rename_i h
    exact (moveSound_enterTracking p s).leaving h.1
  · exact .refl p s

theorem moveSound_enterParked (p : Phaser) (s : State) : MoveSound State.movable State.sound p s (enterParked p s) :=
  (moveSound_enter (by decide) (by decide) (by simp)).trans (moveSound_checkParked p _)

theorem moveSound_enterReturning (p : Phaser) (s : State) : MoveSound State.movable State.sound p s (enterReturning p s) :=
  (moveSound_enter (by decide) (by decide) (by simp)).trans (moveSound_checkReturning p _)

end Entries

/-- An expiry of a state timer acts in its state alone. -/
theorem timerDue_state {s : State} {p : Phaser} {st : PhaserState} (h : s.timerDue p st = true) :
    (s.phaser p).state = st := by
  unfold State.timerDue at h
  rw [Bool.and_eq_true, decide_eq_true_iff] at h
  exact h.1

/-! ### The over-band events (R115) -/

/-- TRACK_ERR is declared in TRACKING alone. -/
theorem eventSound_declareTrackErr {p : Phaser} {s : State} (h : (s.phaser p).state = .tracking) :
    EventSound p s (declareTrackErr p s) := by
  refine ⟨⟨local_declareTrackErr p s, fun hl => ?_, fun _ hd => ?_, fun hs => ?_⟩, fun hh => ?_⟩
  · rw [declareTrackErr_loop, declareTrackErr_phaser]
    exact hl
  · rw [declareTrackErr_channel, declareTrackErr_phaser]
    exact hd
  · obtain ⟨henable, hcauses, hfaulted, hover, -, htimer⟩ := hs
    unfold State.sound
    rw [declareTrackErr_phaser, declareTrackErr_stands, if_neg (by simp)]
    exact ⟨henable, hcauses, hfaulted, hover, fun _ => h, htimer⟩
  · unfold State.heldOk State.waiting
    rw [declareTrackErr_phaser, declareTrackErr_stands, if_neg (by simp)]
    exact hh

theorem union_ne_empty {c : CauseSet} (h : c.trackErr = true ∨ c.latchFail = true ∨ c.camLost = true) (d : CauseSet) :
    c.union d ≠ CauseSet.empty := by
  intro he
  simp only [CauseSet.union, CauseSet.empty, CauseSet.mk.injEq, Bool.or_eq_false_iff] at he
  obtain ⟨-, -, -, ⟨hcam, -⟩, ⟨htrack, -⟩, ⟨hlatch, -⟩⟩ := he
  simp [hcam, htrack, hlatch] at h

theorem driverCause_union_ne_empty (d : DriverCause) (c : CauseSet) : (driverCause d).union c ≠ CauseSet.empty := by
  cases d <;> simp [driverCause, CauseSet.union, CauseSet.empty]

/-- A fault entry with a cause, as a complete event. -/
theorem eventSound_faulted {p : Phaser} {s : State} {c : CauseSet}
    (hc : c.union (s.standing p (s.phaser p).state) ≠ CauseSet.empty) (hoff : (s.phaser p).state ≠ .off)
    (hfaulted : (s.phaser p).state ≠ .faulted) : EventSound p s (updateHeld p (faultEntry p c s)) :=
  ((moveSound_faultEntry hc).ofState hoff hfaulted).event

theorem eventSound_overBandEvent (p : Phaser) (s : State) : EventSound p s (overBandEvent p s) := by
  unfold overBandEvent
  split
  · rename_i h
    have hstate : ((declareTrackErr p s).phaser p).state = .tracking := by rw [declareTrackErr_phaser, h]
    split
    · exact (eventSound_declareTrackErr h).trans (eventSound_faulted (union_ne_empty (.inl rfl) _)
        (by rw [hstate]; decide) (by rw [hstate]; decide))
    · exact eventSound_declareTrackErr h
  · exact .refl p s

/-! ### Evaluations, measurements, targets, departures (R97, R108 to R117, R124) -/

section Events
variable (p : Phaser) (s : State)

theorem eventSound_updateHeld : EventSound p s (updateHeld p s) := (MoveSound.refl p s).event

theorem eventSound_evaluateNow : EventSound p s (evaluateNow p s) := by
  unfold evaluateNow
  refine MoveSound.event ?_
  split
  · exact moveSound_checkParked p s
  · exact moveSound_checkReturning p s
  · rename_i h
    split
    · exact (moveSound_enterReturning p s).leaving h
    · exact .refl p s
  · rename_i h
    split
    · exact (moveSound_enterReturning p s).leaving h
    · exact .refl p s
  · exact .refl p s

theorem eventSound_evaluate : EventSound p s (evaluate p s) :=
  (eventSound_overBandEvent p s).trans (eventSound_evaluateNow p _)

theorem eventSound_measured (phase : Int) : EventSound p s (measured p phase s) := by
  unfold measured
  split
  · rename_i h
    refine MoveSound.event ?_
    split
    · exact (moveSound_enterParked p s).leaving h
    · exact (moveSound_enterReturning p s).leaving h
  · rename_i h
    refine MoveSound.event ?_
    split
    · exact (moveSound_enterTracking p s).leaving h
    · split
      · exact (moveSound_enterLatching p s).leaving h
      · exact .refl p s
  · exact .refl p s

theorem eventSound_targetHandled (was : Target) : EventSound p s (targetHandled p was s) := by
  unfold targetHandled
  split
  · rename_i h
    exact ((moveSound_enterReturning p s).leaving h).event
  · rename_i h
    exact ((moveSound_enterReturning p s).leaving h).event
  · exact .refl p s
  · exact .refl p s
  · split
    · exact .refl p s
    · split
      · exact eventSound_evaluateNow p s
      · exact eventSound_updateHeld p s

/-- The loop record of a TRACKING phaser replaced by one with its integrator and its limit. -/
theorem eventSound_setLoop {p : Phaser} {s : State} {x : Loop}
    (h : (s.loop p).lawful (s.phaser p).state → x.lawful (s.phaser p).state) : EventSound p s (s.setLoop p x) := by
  refine ⟨⟨local_setLoop p x s, fun hl => ?_, fun _ => id, id⟩, id⟩
  rw [setLoop_loop_self]
  exact h hl

/-- A measurement is delivered to the loop in TRACKING alone (R93). -/
theorem eventSound_deliver (phase : Int) : EventSound p s (deliver p phase s) := by
  have hloop (t : State) : EventSound p t (deliverLoop p phase t) := by
    unfold deliverLoop
    split
    · rename_i h
      exact eventSound_setLoop fun ⟨hlim, hlo, hhi, _⟩ => ⟨hlim, hlo, hhi, fun hn => absurd h hn⟩
    · exact .refl p t
  exact ((eventSound_overBandEvent p s).trans (hloop _)).trans (eventSound_measured p _ phase)

/-- Conditions that no law of a phaser reads. -/
theorem eventSound_drive {e : PhCond} (he : e ≠ .faulted ∧ e ≠ .trackErr ∧ e ≠ .releaseHeld) (b : Bool) :
    EventSound p s (s.drive p e b) := by
  refine eventSound_of_same (local_drive p e b s) rfl rfl ⟨_, _, rfl⟩ fun f hf => ?_
  obtain ⟨h1, h2, h3⟩ := he
  rw [drive_stands, if_neg]
  rintro ⟨-, rfl⟩
  rcases hf with rfl | rfl | rfl
  · exact h1 rfl
  · exact h2 rfl
  · exact h3 rfl

/-- A FAULTED phaser takes one cause more (R120). -/
theorem eventSound_addCause {p : Phaser} {s : State} {c : CauseSet} (h : (s.phaser p).state = .faulted) :
    EventSound p s (addCause p c s) := by
  refine ⟨⟨local_addCause p c s, fun hl => ?_, fun _ hd => ?_, fun hs => ?_⟩, fun hh => ?_⟩
  · rw [addCause, setPhaser_phaser_self]
    exact hl
  · rw [addCause, setPhaser_phaser_self]
    exact hd
  · obtain ⟨henable, hcauses, hrest⟩ := hs
    unfold State.sound
    rw [addCause, setPhaser_phaser_self]
    refine ⟨henable, iff_of_true h fun he => hcauses.mp h ?_, hrest⟩
    simp only [CauseSet.union, CauseSet.empty, CauseSet.mk.injEq, Bool.or_eq_false_iff] at he
    obtain ⟨⟨h1, -⟩, ⟨h2, -⟩, ⟨h3, -⟩, ⟨h4, -⟩, ⟨h5, -⟩, ⟨h6, -⟩⟩ := he
    cases hx : (s.phaser p).causes
    simp_all [CauseSet.empty]
  · unfold State.heldOk State.waiting
    rw [addCause, setPhaser_phaser_self]
    exact hh

theorem eventSound_camLostDeclared : EventSound p s (camLostDeclared p s) := by
  unfold camLostDeclared
  refine ((eventSound_overBandEvent p s).trans (eventSound_drive p _ (e := .camLost) (by decide) true)).trans ?_
  have faulted (t : State) (hoff : (t.phaser p).state ≠ .off) (hfaulted : (t.phaser p).state ≠ .faulted) :
      EventSound p t (updateHeld p (faultEntry p { CauseSet.empty with camLost := true } t)) :=
    eventSound_faulted (union_ne_empty (.inr (.inr rfl)) _) hoff hfaulted
  dsimp only
  split
  · rename_i h
    exact faulted _ (by rw [h]; decide) (by rw [h]; decide)
  · rename_i h
    exact faulted _ (by rw [h]; decide) (by rw [h]; decide)
  · rename_i h
    exact faulted _ (by rw [h]; decide) (by rw [h]; decide)
  · rename_i h
    exact eventSound_addCause h
  · exact .refl p _

theorem eventSound_stopPhaser : EventSound p s (stopPhaser p s) := by
  unfold stopPhaser
  refine (eventSound_overBandEvent p s).trans ?_
  dsimp only
  split
  · exact .refl p _
  · exact .refl p _
  · exact .refl p _
  · rename_i hoff hfaulted _
    exact ((moveSound_enterStopped p _).ofState hoff hfaulted).event

/-! ### Timers and driver conditions (R113, R116, R158) -/

theorem eventSound_endRelease : EventSound p s (endRelease p s) := by
  unfold endRelease
  split
  · rename_i h
    exact ⟨((moveSound_enterTracking p s).leaving (timerDue_state h)).trans (eventSound_evaluateNow p _).move,
      fun _ => updateHeld_heldOk p _⟩
  · exact .refl p s

theorem eventSound_endReturn : EventSound p s (endReturn p s) := by
  unfold endReturn
  split
  · rename_i h
    have hs := timerDue_state h
    exact eventSound_faulted (union_ne_empty (.inr (.inl rfl)) _) (by rw [hs]; decide) (by rw [hs]; decide)
  · exact .refl p s

theorem eventSound_endLatch : EventSound p s (endLatch p s) := by
  unfold endLatch
  split
  · rename_i h
    exact ((moveSound_enterParked p s).leaving (timerDue_state h)).event
  · exact .refl p s

theorem eventSound_takeTimers : EventSound p s (takeTimers p s) :=
  ((eventSound_endRelease p s).trans (eventSound_endReturn p _)).trans
    ((eventSound_endLatch p _).trans (eventSound_overBandEvent p _))

/-- Another set of driver conditions that wait for the Sequencer. -/
theorem eventSound_setDeclared (d : DriverSet) : EventSound p s (s.setPhaser p { s.phaser p with declared := d }) :=
  eventSound_of_same (local_setPhaser p _ s) rfl rfl ⟨d, _, setPhaser_phaser_self s p _⟩ fun _ _ => rfl

theorem eventSound_takeDriverFault (d : DriverCause) : EventSound p s (takeDriverFault p d s) := by
  have answered (t : State) : EventSound p t (match (t.phaser p).state with
      | .off => t
      | .faulted => addCause p (driverCause d) t
      | _ => updateHeld p (faultEntry p (driverCause d) t)) := by
    split
    · exact .refl p t
    · rename_i h
      exact eventSound_addCause h
    · rename_i hoff hfaulted
      exact eventSound_faulted (driverCause_union_ne_empty d _) hoff hfaulted
  unfold takeDriverFault
  split
  · exact ((eventSound_setDeclared p s _).trans (eventSound_overBandEvent p _)).trans (answered _)
  · exact .refl p s

/-! ### The control step (R115, R138) -/

/-- The track supervision runs in TRACKING. -/
theorem eventSound_supervise {p : Phaser} {s : State} (h : (s.phaser p).state = .tracking) (error : Int) :
    EventSound p s (supervise p error s) := by
  have hrecord (n : Option Nat) (a b : Bool) :
      EventSound p s (s.setPhaser p { s.phaser p with overBand := n, trackDue := a, faultDue := b }) := by
    refine ⟨⟨local_setPhaser p _ s, fun hl => ?_, fun _ hd => ?_, fun hs => ?_⟩, fun hh => ?_⟩
    · rw [setPhaser_phaser_self]
      exact hl
    · rw [setPhaser_phaser_self]
      exact hd
    · obtain ⟨henable, hcauses, hfaulted, -, herr, htimer⟩ := hs
      unfold State.sound
      rw [setPhaser_phaser_self]
      exact ⟨henable, hcauses, hfaulted, fun _ => h, herr, htimer⟩
    · unfold State.heldOk State.waiting
      rw [setPhaser_phaser_self]
      exact hh
  have cleared (t : State) : EventSound p t (t.drive p .trackErr false) := by
    refine ⟨⟨local_drive p _ _ t, id, fun _ => id, fun hs => ?_⟩, fun hh => ?_⟩
    · obtain ⟨henable, hcauses, hfaulted, hover, -, htimer⟩ := hs
      unfold State.sound
      rw [drive_stands, if_neg (by simp), drive_stands, if_pos ⟨rfl, rfl⟩]
      exact ⟨henable, hcauses, hfaulted, hover, nofun, htimer⟩
    · unfold State.heldOk
      rw [drive_stands, if_neg (by simp)]
      exact hh
  unfold supervise
  split
  · exact hrecord _ _ _
  · exact (hrecord _ _ _).trans (cleared _)

/-- The integrator of a step is the one before, or clamped to its limit (R138). -/
theorem integrate_within {q : LoopParams} {i : Int} (hlo : -(q.ilim * 256 : Nat) ≤ i) (hhi : i ≤ (q.ilim * 256 : Nat))
    (pterm e inc : Int) :
    -(q.ilim * 256 : Nat) ≤ integrate q pterm e inc i ∧ integrate q pterm e inc i ≤ (q.ilim * 256 : Nat) := by
  unfold integrate
  dsimp only
  split
  · exact ⟨hlo, hhi⟩
  · split
    · exact ⟨hlo, hhi⟩
    · exact clampInt_mem (by omega) _

theorem eventSound_setCommanded {p : Phaser} {s : State} {duty : Nat} (h : dutyLawful duty (s.phaser p).state) :
    EventSound p s (s.setCommanded p duty) := by
  refine ⟨⟨local_setCommanded p duty s, id, fun _ _ => ?_, id⟩, id⟩
  rw [setCommanded_channel, if_pos rfl]
  exact h

theorem eventSound_stepOn (phase : Int) : EventSound p s (stepOn p phase s) := by
  unfold stepOn
  split
  · rename_i target h _
    have stepped : EventSound p s (s.setLoop p (loopStep (s.loop p) target (stepSlew (s.resolver p) s.rt.slots)
        (handedBattery s.ps.cond) s.counter phase).1) := by
      refine eventSound_setLoop fun ⟨hlim, hlo, hhi, _⟩ => ?_
      obtain ⟨hlo', hhi'⟩ := integrate_within hlo hhi _ _ _
      exact ⟨hlim, hlo', hhi', fun hn => absurd h hn⟩
    refine (stepped.trans (eventSound_setCommanded ?_)).trans (eventSound_supervise ?_ _)
    · exact ⟨compensate_le _ _, fun _ => .inr h⟩
    · exact h
  · exact .refl p s

theorem eventSound_takeDelivered : EventSound p s (takeDelivered p s) := by
  have oldest (t : State) : EventSound p t (takeOldest p t) := by
    unfold takeOldest
    split
    · exact .refl p t
    · rename_i rest hd
      refine EventSound.trans (t := t.setLoop p { t.loop p with delivered := rest })
        (eventSound_setLoop fun ⟨hlim, hlo, hhi, hrest⟩ => ⟨hlim, hlo, hhi, fun hn => ?_⟩) (eventSound_stepOn p _ _)
      obtain ⟨-, -, -, hnone⟩ := hrest hn
      rw [hd] at hnone
      cases hnone
  unfold takeDelivered
  split
  · exact .refl p s
  · exact (eventSound_overBandEvent p s).trans (oldest _)

end Events

end Sys2Proof.Machine
end

section
/-! ## The commands of the Sequencer and the Valve Drivers keep the laws of their phaser (R121 to R123, R151 to R159) -/

namespace Sys2Proof.Machine

open Sys2Proof

/-! ### A phaser switched off (R122) -/

section Disable
variable {p : Phaser} {s : State}

theorem disable_off (h : (s.phaser p).state = .off) : disable p s = s := if_pos h

/-- A phaser switched off is OFF with no timer, no cause and its enable off. -/
theorem disable_phaser (h : (s.phaser p).state ≠ .off) :
    (disable p s).phaser p =
      { (moveTo p .off none (overBandEvent p s)).phaser p with
        enable := false, causes := CauseSet.empty, held := HeldCauses.empty } := by
  have hoff := (moveTo_phaser p .off none (overBandEvent p s)).1
  unfold disable
  rw [if_neg h]
  simp [updateHeld_phaser, State.holds, hoff]

theorem disable_loop (h : (s.phaser p).state ≠ .off) :
    (disable p s).loop p = (moveTo p .off none (overBandEvent p s)).loop p := by
  unfold disable
  rw [if_neg h]
  simp

theorem disable_stands (h : (s.phaser p).state ≠ .off) (e : PhCond) :
    (disable p s).stands p e =
      if e = .faulted ∨ e = .releaseHeld then false else (moveTo p .off none (overBandEvent p s)).stands p e := by
  have hoff := (moveTo_phaser p .off none (overBandEvent p s)).1
  unfold disable
  rw [if_neg h]
  cases e <;> simp [drive_stands, updateHeld_stands, State.holds, hoff]

theorem overBandEvent_commanded_frame (p : Phaser) (s : State) :
    { (overBandEvent p s).channel p with commanded := 0 } = { s.channel p with commanded := 0 } := by
  by_cases h : (s.phaser p).state = .tracking
  · cases hf : (s.phaser p).faultDue
    · rw [overBandEvent_track h hf, declareTrackErr_channel]
    · rw [overBandEvent_fault h hf, updateHeld_channel, faultEntry_channel, declareTrackErr_channel]
  · rw [overBandEvent_other h]

/-- Its output has no duty, and its diagnostics are suspended with every count at 0 (R159). -/
theorem disable_channel (h : (s.phaser p).state ≠ .off) :
    (disable p s).channel p =
      { s.channel p with commanded := 0, suspended := true, ocCount := 0, openFail := 0, openPass := 0 } := by
  have hmoved : (moveTo p .off none (overBandEvent p s)).channel p = { s.channel p with commanded := 0 } := by
    rw [moveTo_channel, ← overBandEvent_commanded_frame]
    rfl
  unfold disable
  rw [if_neg h]
  simp [hmoved, Channel.suspend]

theorem eventSound_disable (p : Phaser) (s : State) : EventSound p s (disable p s) := by
  by_cases h : (s.phaser p).state = .off
  · rw [disable_off h]
    exact .refl p s
  have hv := (eventSound_overBandEvent p s).move
  have hoff : ((disable p s).phaser p).state = .off := by
    rw [disable_phaser h]
    exact (moveTo_phaser p .off none _).1
  refine ⟨⟨local_disable p s, fun hl => ?_, fun _ _ => ?_, fun hs => ?_⟩, fun _ hheld => ?_⟩
  · rw [disable_loop h]
    exact moved_loop_lawful (hv.loop hl) .off _ none
  · rw [disable_channel h]
    exact ⟨Nat.zero_le _, fun hn => absurd rfl hn⟩
  · obtain ⟨-, -, -, hover, herr, -⟩ := hv.record hs
    unfold State.sound
    rw [disable_phaser h, disable_stands h, disable_stands h, if_pos (.inl rfl), if_neg (by decide), moveTo_record,
      moveTo_stands]
    by_cases ht : ((overBandEvent p s).phaser p).state = .tracking
    · simp [PhaserRec.lawful, ht]
    · simp only [ht, imp_false, not_not, Bool.not_eq_true] at hover herr
      simp [PhaserRec.lawful, ht, hover, herr]
  · rw [disable_stands h, if_pos (.inr rfl)] at hheld
    cases hheld

end Disable

/-! ### A phaser switched on, and a fault cleared (R121, R123) -/

/-- An OFF phaser with its enable on again can take a new state. -/
theorem moveSound_enabled {p : Phaser} {s : State} (h : (s.phaser p).state = .off) :
    MoveSound State.sound State.movable p s
      ((s.setPhaser p { s.phaser p with enable := true }).setChannel p (s.channel p).resume) := by
  refine ⟨(local_setPhaser p _ s).trans (local_setChannel p _ _), fun hl => ?_, fun _ hd => ?_, fun hs => ?_⟩
  · rw [setChannel_phaser_frame, setPhaser_phaser_self]
    exact hl
  · rw [setChannel_phaser_frame, setPhaser_phaser_self, setChannel_channel_self]
    exact hd
  · obtain ⟨-, hcauses, hstands, hover, herr, -⟩ := hs
    unfold State.movable
    rw [setChannel_phaser_frame, setPhaser_phaser_self]
    simp only [h, reduceCtorEq, false_iff, imp_false, not_not, Bool.not_eq_true] at hcauses hstands hover herr
    exact ⟨rfl, hcauses, hstands, fun _ => ⟨hover, herr⟩⟩

theorem eventSound_enable (p : Phaser) (s : State) : EventSound p s (enable p s) := by
  unfold enable
  split
  · rename_i h
    exact ((moveSound_enabled h).trans (moveSound_enterStopped p _)).event
  · exact .refl p s

/-- A FAULTED phaser with its set emptied, FAULTED cleared and DRV_SHORT cleared (R121, R154). -/
def State.faultCleared (s : State) (p : Phaser) : State :=
  clearShort p ((s.setPhaser p { s.phaser p with causes := CauseSet.empty }).drive p .faulted false)

theorem clearFaulted_eq (p : Phaser) (s : State) :
    clearFaulted p s = updateHeld p
      (if s.ad.sync = .cycleSync then enterReturning p (s.faultCleared p) else enterStopped p (s.faultCleared p)) := rfl

theorem faultCleared_phaser (s : State) (p : Phaser) :
    (s.faultCleared p).phaser p =
      { s.phaser p with causes := CauseSet.empty, declared := (s.phaser p).declared.remove .drvShort } := by
  simp [State.faultCleared, clearShort, clearDriver]

theorem faultCleared_channel (s : State) (p : Phaser) :
    (s.faultCleared p).channel p = { s.channel p with ocCount := 0 } := by
  simp [State.faultCleared, clearShort, clearDriver]

theorem faultCleared_stands (s : State) (p : Phaser) (e : PhCond) :
    (s.faultCleared p).stands p e = if e = .faulted ∨ e = .drvShort then false else s.stands p e := by
  cases e <;> simp [State.faultCleared, clearShort, clearDriver, driverCond, drive_stands]

theorem local_faultCleared (s : State) (p : Phaser) : SeqLocal p s (s.faultCleared p) :=
  ((local_setPhaser p _ s).trans (local_drive p _ _ _)).trans (local_clearShort p _)

theorem moveSound_faultCleared {p : Phaser} {s : State} (h : (s.phaser p).state = .faulted) :
    MoveSound State.sound State.movable p s (s.faultCleared p) := by
  refine ⟨local_faultCleared s p, fun hl => ?_, fun _ hd => ?_, fun hs => ?_⟩
  · rw [faultCleared_phaser]
    exact hl
  · rw [faultCleared_phaser, faultCleared_channel]
    exact hd
  · obtain ⟨henable, -, -, hover, herr, -⟩ := hs
    simp only [h, reduceCtorEq, false_iff, imp_false, not_not, Bool.not_eq_true, Bool.not_eq_false] at henable hover herr
    unfold State.movable
    rw [faultCleared_phaser, faultCleared_stands, if_pos (.inl rfl), faultCleared_stands, if_neg (by decide)]
    exact ⟨henable, rfl, rfl, fun _ => ⟨hover, herr⟩⟩

/-- CLEAR_FAULT is taken in FAULTED alone. -/
theorem eventSound_clearFaulted {p : Phaser} {s : State} (h : (s.phaser p).state = .faulted) :
    EventSound p s (clearFaulted p s) := by
  rw [clearFaulted_eq]
  refine ((moveSound_faultCleared h).trans ?_).event
  split
  · exact moveSound_enterReturning p _
  · exact moveSound_enterStopped p _

/-! ### The Valve Drivers (R151 to R158) -/

/-- What an event of an output leaves of its phaser: all but the waiting declarations, the channel apart from its duty, and the
driver conditions. -/
structure DriverMove (p : Phaser) (s t : State) : Prop where
  seq : SeqLocal p s t
  lu : t.lu = s.lu
  commanded : (t.channel p).commanded = (s.channel p).commanded
  record : ∃ d, t.phaser p = { s.phaser p with declared := d }
  stands : ∀ e, e = .faulted ∨ e = .trackErr ∨ e = .releaseHeld → t.stands p e = s.stands p e

theorem DriverMove.refl (p : Phaser) (s : State) : DriverMove p s s := ⟨.refl p s, rfl, rfl, ⟨_, rfl⟩, fun _ _ => rfl⟩

theorem DriverMove.trans {p : Phaser} {s t u : State} (a : DriverMove p s t) (b : DriverMove p t u) :
    DriverMove p s u := by
  obtain ⟨d, hd⟩ := b.record
  obtain ⟨c, hc⟩ := a.record
  exact ⟨a.seq.trans b.seq, b.lu.trans a.lu, b.commanded.trans a.commanded, ⟨d, by rw [hd, hc]⟩,
    fun e he => (b.stands e he).trans (a.stands e he)⟩

theorem DriverMove.event {p : Phaser} {s t : State} (h : DriverMove p s t) : EventSound p s t := by
  obtain ⟨d, hd⟩ := h.record
  exact eventSound_of_same h.seq (by rw [State.loop, h.lu]; rfl) h.commanded ⟨d, _, hd⟩ h.stands

theorem DriverMove.state {p : Phaser} {s t : State} (h : DriverMove p s t) : (t.phaser p).state = (s.phaser p).state := by
  obtain ⟨d, hd⟩ := h.record
  rw [hd]

section Drivers
variable {p : Phaser} {s : State}

theorem driver_setChannel {x : Channel} (h : x.commanded = (s.channel p).commanded) :
    DriverMove p s (s.setChannel p x) :=
  ⟨local_setChannel p x s, rfl, by rw [setChannel_channel_self, h], ⟨_, rfl⟩, fun _ _ => rfl⟩

theorem driver_drive (d : DriverCause) (b : Bool) : DriverMove p s (s.drive p (driverCond d) b) := by
  refine ⟨local_drive p _ b s, rfl, rfl, ⟨_, rfl⟩, fun e he => ?_⟩
  rw [drive_stands, if_neg]
  rintro ⟨-, rfl⟩
  cases d <;> simp [driverCond] at he

theorem cut_commanded (c : Channel) (position : Nat) : (c.cut position).commanded = c.commanded := by
  unfold Channel.cut
  split <;> rfl

theorem endOn_commanded (c : Channel) (now : Tick) : (c.endOn now).commanded = c.commanded := by
  unfold Channel.endOn
  split <;> rfl

theorem judgeOvercurrent_commanded (c : Channel) : c.judgeOvercurrent.commanded = c.commanded := by
  unfold Channel.judgeOvercurrent
  split
  · rfl
  · split <;> rfl

theorem judgeOpenLoad_commanded (c : Channel) (seen : Bool) : (c.judgeOpenLoad seen).commanded = c.commanded := by
  unfold Channel.judgeOpenLoad
  split <;> rfl

theorem overcurrent_commanded (c : Channel) (now : Tick) : (c.overcurrent now).commanded = c.commanded := by
  unfold Channel.overcurrent
  split
  · exact cut_commanded c _
  · rfl

variable (p s)

theorem driver_declareDriver (d : DriverCause) : DriverMove p s (declareDriver p d s) := by
  unfold declareDriver
  split
  · exact .refl p s
  · have off : DriverMove p (s.drive p (driverCond d) true) ((s.drive p (driverCond d) true).setChannel p
        ((s.channel p).cut ((s.channel p).position s.counter))) := driver_setChannel (cut_commanded _ _)
    refine ((driver_drive d true).trans off).trans ?_
    exact ⟨local_setPhaser p _ _, rfl, rfl, ⟨_, setPhaser_phaser_self _ p _⟩, fun _ _ => rfl⟩

theorem driver_followHold : DriverMove p s (followHold p s) := by
  unfold followHold
  split
  · exact .refl p s
  · split
    · exact driver_declareDriver p s _
    · exact driver_drive .drvHot false

theorem driver_periodStartAt : DriverMove p s (periodStartAt p s) := by
  unfold periodStartAt
  split
  · exact (driver_followHold p s).trans (driver_setChannel rfl)
  · exact .refl p s

theorem driver_judgeShort : DriverMove p s (judgeShort p s) := by
  unfold judgeShort
  dsimp only
  split
  · exact (driver_setChannel (x := { (s.channel p).judgeOvercurrent with ocCount := 0 })
      (judgeOvercurrent_commanded _)).trans (driver_declareDriver p _ _)
  · exact driver_setChannel (judgeOvercurrent_commanded _)

theorem driver_judgeOpen (seen : Bool) : DriverMove p s (judgeOpen p seen s) := by
  have judged (t : State) : DriverMove p t (if seen then
        (if (t.channel p).openPass = 4 then clearDriver p .drvOpen t else t)
      else if (t.channel p).openFail = 4 then declareDriver p .drvOpen t else t) := by
    split
    · split
      · exact driver_drive .drvOpen false
      · exact .refl p t
    · split
      · exact driver_declareDriver p t _
      · exact .refl p t
  unfold judgeOpen
  split
  · exact (driver_setChannel (judgeOpenLoad_commanded _ seen)).trans (judged _)
  · exact .refl p s

theorem driver_periodEndAt (seen : Bool) : DriverMove p s (periodEndAt p seen s) := by
  have judged (t : State) : DriverMove p t (if (t.channel p).suspended then t else judgeShort p (judgeOpen p seen t)) := by
    split
    · exact .refl p t
    · exact (driver_judgeOpen p t seen).trans (driver_judgeShort p _)
  have counted (t : State) : DriverMove p t t.countSense :=
    ⟨local_countSense p t, rfl, rfl, ⟨_, rfl⟩, fun _ _ => rfl⟩
  unfold periodEndAt
  split
  · exact (((driver_setChannel (endOn_commanded _ _)).trans (counted _)).trans (judged _)).trans (driver_setChannel rfl)
  · exact .refl p s

theorem driver_overcurrentAt : DriverMove p s (overcurrentAt p s) := by
  unfold overcurrentAt
  split
  · exact (driver_periodStartAt p s).trans (driver_setChannel (overcurrent_commanded _ _))
  · exact .refl p s

/-- The two events of the thermal hold (R157). -/
theorem driver_thermalHold {x : Channel} (h : x.commanded = (s.channel p).commanded) :
    DriverMove p s (followHold p (s.setChannel p x)) :=
  (driver_setChannel h).trans (driver_followHold p _)

end Drivers

end Sys2Proof.Machine
end

section
/-! ## The laws of the Sequencer, the loops and the duties under every event (R104, R105, R115, R118, R119, R124, R131, R143) -/

namespace Sys2Proof.Machine

open Sys2Proof

/-! ### The laws, carried from one state to another -/

theorem loopLaw_iff (s : State) : LoopLaw s ↔ ∀ p, (s.loop p).lawful (s.phaser p).state := Iff.rfl

theorem dutyLaw_iff (s : State) :
    DutyLaw s ↔ s.ps.params.releaseDuty ≤ 10000 ∧ ∀ p, dutyLawful (s.channel p).commanded (s.phaser p).state := Iff.rfl

theorem phaserLaw_iff (s : State) : PhaserLaw s ↔ ∀ p, s.sound p ∧ s.heldOk p := forall_congr' (phaserOk_iff s)

/-- A phaser that a departure from CYCLE_SYNC leaves as it is (R124). -/
def State.idle (s : State) (p : Phaser) : Prop :=
  (s.phaser p).state = .stopped ∨ (s.phaser p).state = .off ∨ (s.phaser p).state = .faulted

/-- The laws of the loops, the duties and the phaser records, carried from one state to another. -/
structure RowsKept (s t : State) : Prop where
  loop : LoopLaw s → LoopLaw t
  duty : DutyLaw s → DutyLaw t
  phaser : PhaserLaw s → PhaserLaw t

/-- With the law of a departure, which reads the sync state and the owed departure. -/
structure SeqKept (s t : State) : Prop where
  rows : RowsKept s t
  departure : DepartureLaw s → DepartureLaw t

theorem RowsKept.refl (s : State) : RowsKept s s := ⟨id, id, id⟩

theorem RowsKept.trans {s t u : State} (a : RowsKept s t) (b : RowsKept t u) : RowsKept s u :=
  ⟨fun h => b.loop (a.loop h), fun h => b.duty (a.duty h), fun h => b.phaser (a.phaser h)⟩

theorem SeqKept.refl (s : State) : SeqKept s s := ⟨.refl s, id⟩

theorem SeqKept.trans {s t u : State} (a : SeqKept s t) (b : SeqKept t u) : SeqKept s u :=
  ⟨a.rows.trans b.rows, fun h => b.departure (a.departure h)⟩

theorem rows_foldl {α : Type} (f : State → α → State) (h : ∀ s a, RowsKept s (f s a)) (l : List α) (s : State) :
    RowsKept s (l.foldl f s) :=
  List.foldlRecOn l f (RowsKept.refl s) fun t ht a _ => ht.trans (h t a)

theorem seqKept_foldl {α : Type} (f : State → α → State) (h : ∀ s a, SeqKept s (f s a)) (l : List α) (s : State) :
    SeqKept s (l.foldl f s) :=
  List.foldlRecOn l f (SeqKept.refl s) fun t ht a _ => ht.trans (h t a)

/-- An update that leaves what the three laws read. -/
theorem rows_of_same {s t : State} (hphasers : t.ps.phasers = s.ps.phasers)
    (hparam : t.ps.params.releaseDuty = s.ps.params.releaseDuty) (hlu : t.lu = s.lu) (hvd : t.vd.channels = s.vd.channels)
    (hstands : ∀ p e, t.stands p e = s.stands p e) : RowsKept s t := by
  have hphaser (p : Phaser) : t.phaser p = s.phaser p := by rw [State.phaser, hphasers]; rfl
  have hloop (p : Phaser) : t.loop p = s.loop p := by rw [State.loop, hlu]; rfl
  have hchannel (p : Phaser) : t.channel p = s.channel p := by rw [State.channel, hvd]; rfl
  refine ⟨fun h p => ?_, fun ⟨hd, h⟩ => ⟨?_, fun p => ?_⟩, fun h p => ?_⟩
  · rw [hphaser, hloop]
    exact h p
  · rw [hparam]
    exact hd
  · rw [hchannel, hphaser]
    exact h p
  · unfold phaserOk
    rw [hphaser, hstands, hstands, hstands]
    exact h p

theorem seqKept_of_same {s t : State} (hphasers : t.ps.phasers = s.ps.phasers)
    (hparam : t.ps.params.releaseDuty = s.ps.params.releaseDuty) (hlu : t.lu = s.lu) (hvd : t.vd.channels = s.vd.channels)
    (hstands : ∀ p e, t.stands p e = s.stands p e) (hsync : t.ad.sync = s.ad.sync)
    (hdeparted : t.ps.departed = s.ps.departed) : SeqKept s t := by
  refine ⟨rows_of_same hphasers hparam hlu hvd hstands, fun h hs hd p => ?_⟩
  rw [State.phaser, hphasers]
  exact h (by rwa [← hsync]) (by rwa [← hdeparted]) p

/-- A complete event of one phaser keeps the laws of all. -/
theorem EventSound.rows {p : Phaser} {s t : State} (h : EventSound p s t) : RowsKept s t := by
  have hseq := h.move.seq
  refine ⟨fun law q => ?_, fun ⟨hparam, law⟩ => ⟨?_, fun q => ?_⟩, fun law => (phaserLaw_iff t).mpr fun q => ?_⟩
  · by_cases hq : q = p
    · subst hq
      exact h.move.loop (law q)
    · rw [hseq.loop q hq, hseq.phaser q hq]
      exact law q
  · rw [hseq.frame.params]
    exact hparam
  · by_cases hq : q = p
    · subst hq
      exact h.move.duty hparam (law q)
    · rw [hseq.channel q hq, hseq.phaser q hq]
      exact law q
  · obtain ⟨hsound, hheld⟩ := (phaserLaw_iff s).mp law q
    by_cases hq : q = p
    · subst hq
      exact ⟨h.move.record hsound, h.held hheld⟩
    · unfold State.sound State.heldOk State.waiting
      rw [hseq.phaser q hq, hseq.stands hq, hseq.stands hq, hseq.stands hq]
      exact ⟨hsound, hheld⟩

/-- An event that, outside CYCLE_SYNC, leaves a phaser at rest where it was. -/
theorem EventSound.kept {p : Phaser} {s t : State} (h : EventSound p s t)
    (hidle : s.ad.sync ≠ .cycleSync → s.idle p → t.idle p) : SeqKept s t := by
  have hseq := h.move.seq
  refine ⟨h.rows, fun law hs hd q => ?_⟩
  rw [hseq.frame.ad] at hs
  rw [hseq.frame.departed] at hd
  by_cases hq : q = p
  · subst hq
    exact hidle hs (law hs hd q)
  · rw [hseq.phaser q hq]
    exact law hs hd q

/-- An event that leaves the phaser's state. -/
theorem EventSound.kept_of_state {p : Phaser} {s t : State} (h : EventSound p s t)
    (hstate : (t.phaser p).state = (s.phaser p).state) : SeqKept s t :=
  h.kept fun _ hidle => by
    unfold State.idle
    rw [hstate]
    exact hidle

/-! ### A phaser at rest (R124) -/

section Idle
variable {p : Phaser} {s : State}

theorem idle_updateHeld : (updateHeld p s).idle p ↔ s.idle p := by
  unfold State.idle
  rw [updateHeld_state]

theorem idle_ne (h : s.idle p) {st : PhaserState} (hs : st ≠ .stopped) (ho : st ≠ .off) (hf : st ≠ .faulted) :
    (s.phaser p).state ≠ st := by
  rcases h with h | h | h <;> rw [h] <;> exact Ne.symm ‹_›

theorem idle_undriven (h : s.idle p) : ¬ s.driven p := by
  rintro (hd | hd)
  · exact idle_ne h (by decide) (by decide) (by decide) hd
  · exact idle_ne h (by decide) (by decide) (by decide) hd

theorem overBandEvent_idle (h : s.idle p) : overBandEvent p s = s :=
  overBandEvent_other (idle_ne h (by decide) (by decide) (by decide))

theorem idle_evaluateNow (h : s.idle p) : (evaluateNow p s).idle p := by
  rw [evaluateNow_idle (by unfold State.idle at h; tauto)]
  exact idle_updateHeld.mpr h

theorem idle_targetHandled (was : Target) (h : s.idle p) : (targetHandled p was s).idle p := by
  rw [targetHandled_undriven (idle_undriven h)]
  split
  · exact h
  · split
    · exact idle_evaluateNow h
    · exact idle_updateHeld.mpr h

theorem idle_faultEntry (c : CauseSet) : (faultEntry p c s).idle p := by
  refine .inr (.inr ?_)
  rw [faultEntry_phaser]
  exact (moveTo_phaser p .faulted none s).1

theorem idle_faultStanding (h : s.idle p) : (faultStanding p s).idle p := by
  unfold faultStanding
  split
  · exact h
  · exact h
  · split
    · exact h
    · exact idle_faultEntry _

theorem idle_enterStopped : (enterStopped p s).idle p :=
  idle_faultStanding (.inl (moveTo_phaser p .stopped none s).1)

/-- The handling of a departure leaves the phaser at rest, whatever it was (R124). -/
theorem idle_stopPhaser : (stopPhaser p s).idle p := by
  unfold stopPhaser
  dsimp only
  split
  · rename_i h
    exact .inr (.inl h)
  · rename_i h
    exact .inr (.inr h)
  · rename_i h
    exact .inl h
  · exact idle_updateHeld.mpr idle_enterStopped

/-- No state timer runs out on a phaser at rest. -/
theorem timerDue_idle (h : s.idle p) {st : PhaserState} (hs : st ≠ .stopped) (ho : st ≠ .off) (hf : st ≠ .faulted) :
    s.timerDue p st = false :=
  Bool.eq_false_iff.mpr fun ht => idle_ne h hs ho hf (timerDue_state ht)

theorem endRelease_idle (h : s.idle p) : endRelease p s = s := by
  rw [endRelease, timerDue_idle h (by decide) (by decide) (by decide)]
  rfl

theorem endReturn_idle (h : s.idle p) : endReturn p s = s := by
  rw [endReturn, timerDue_idle h (by decide) (by decide) (by decide)]
  rfl

theorem endLatch_idle (h : s.idle p) : endLatch p s = s := by
  rw [endLatch, timerDue_idle h (by decide) (by decide) (by decide)]
  rfl

theorem takeTimers_at_rest (h : s.idle p) : takeTimers p s = s := by
  rw [takeTimers, endRelease_idle h, endReturn_idle h, endLatch_idle h, overBandEvent_idle h]

theorem stepOn_other (h : (s.phaser p).state ≠ .tracking) (phase : Int) : stepOn p phase s = s := by
  unfold stepOn
  split
  · rename_i ht _
    exact absurd ht h
  · rfl

theorem idle_takeDelivered (h : s.idle p) : (takeDelivered p s).idle p := by
  unfold takeDelivered
  split
  · exact h
  · rw [overBandEvent_idle h, takeOldest]
    split
    · exact h
    · rename_i rest _
      have hset : (s.setLoop p { s.loop p with delivered := rest }).idle p := h
      rwa [stepOn_other (idle_ne hset (by decide) (by decide) (by decide))]

theorem idle_takeDriverFault (d : DriverCause) (h : s.idle p) : (takeDriverFault p d s).idle p := by
  unfold takeDriverFault
  split
  · have hset : (s.setPhaser p { s.phaser p with declared := (s.phaser p).declared.remove d }).idle p := by
      unfold State.idle
      rw [setPhaser_phaser_self]
      exact h
    rw [overBandEvent_idle hset]
    dsimp only
    split
    · exact hset
    · rename_i hf
      unfold State.idle addCause
      rw [setPhaser_phaser_self]
      exact .inr (.inr hf)
    · exact idle_updateHeld.mpr (idle_faultEntry _)
  · exact h

end Idle

/-! ### Evaluations, recomputes, applies, expiries -/

section Events
variable (p : Phaser) (s : State)

theorem seqKept_overBandEvent : SeqKept s (overBandEvent p s) :=
  (eventSound_overBandEvent p s).kept fun _ h => by rwa [overBandEvent_idle h]

theorem seqKept_evaluate : SeqKept s (evaluate p s) :=
  (eventSound_evaluate p s).kept fun _ h => by
    rw [evaluate, overBandEvent_idle h]
    exact idle_evaluateNow h

theorem seqKept_evaluateAll : SeqKept s (evaluateAll s) :=
  (((seqKept_evaluate .fi s).trans (seqKept_evaluate .fe _)).trans (seqKept_evaluate .ri _)).trans
    (seqKept_evaluate .re _)

theorem seqKept_evaluateIf (b : Bool) : SeqKept s (evaluateIf b s) := by
  unfold evaluateIf
  split
  · exact seqKept_evaluateAll s
  · exact .refl s

theorem seqKept_setResolver (x : Resolver) : SeqKept s (s.setResolver p x) :=
  seqKept_of_same rfl rfl rfl rfl (fun _ _ => rfl) rfl rfl

theorem seqKept_recomputePhaser : SeqKept s (recomputePhaser p s) := by
  have limited (t : State) (b : Bool) : SeqKept t (t.drive p .limited b) :=
    (eventSound_drive p t (by decide) b).kept_of_state rfl
  have handed (t : State) (was : Target) : SeqKept t (targetHandled p was t) :=
    (eventSound_targetHandled p t was).kept fun _ h => idle_targetHandled was h
  exact (((seqKept_overBandEvent p s).trans (seqKept_setResolver p _ _)).trans (limited _ _)).trans (handed _ _)

theorem seqKept_takeRecompute : SeqKept s (takeRecompute p s) := by
  unfold takeRecompute
  split
  · exact .refl s
  · exact (seqKept_setResolver p s _).trans (seqKept_recomputePhaser p _)

theorem seqKept_settle (who : Asker → Bool) : SeqKept s (settle who p s) := by
  unfold settle
  split
  · exact seqKept_foldl _ (fun s _ => seqKept_takeRecompute p s) _ s
  · exact .refl s

theorem seqKept_settleGroup (who : Asker → Bool) (g : Group) : SeqKept s (settleGroup who g s) := by
  cases g
  · exact (seqKept_settle .fi s who).trans (seqKept_settle .fe _ who)
  · exact (seqKept_settle .ri s who).trans (seqKept_settle .re _ who)

theorem seqKept_setSlots (x : Slots) : SeqKept s (s.setSlots x) :=
  seqKept_of_same rfl rfl rfl rfl (fun _ _ => rfl) rfl rfl

theorem seqKept_askAll (who : Asker) (c : Coverage) (before : Slots) : SeqKept s (askAll who c before s) := by
  rw [askAll_frame]
  exact seqKept_of_same rfl rfl rfl rfl (fun _ _ => rfl) rfl rfl

theorem seqKept_applyGroups (who : Asker) (c : Coverage) : SeqKept s (applyGroups who c s) := by
  have settled (b : Bool) (g : Group) (t : State) : SeqKept t (if b then settleGroup Asker.byApply g t else t) := by
    split
    · exact seqKept_settleGroup t _ g
    · exact .refl t
  exact (((settled c.front .front s).trans (settled c.rear .rear _)).trans (seqKept_setSlots _ _)).trans
    (seqKept_askAll _ who c _)

theorem seqKept_expireSlot (i : Fin 24) : SeqKept s (expireSlot i s) := by
  have latched (q : Phaser) (h : Handle) (t : State) : SeqKept t (t.latchExpired q h) :=
    seqKept_of_same rfl rfl rfl rfl (fun r e => latchExpired_stands t q r h e) rfl rfl
  unfold expireSlot
  split
  · exact .refl s
  · split
    · exact (((seqKept_settleGroup s _ _).trans (seqKept_setSlots _ _)).trans (latched _ _ _)).trans
        (seqKept_setResolver _ _ _)
    · exact .refl s

/-! ### The departure, the record of conditions, the timers (R107, R113, R116, R124) -/

theorem seqKept_stopPhaser : SeqKept s (stopPhaser p s) :=
  (eventSound_stopPhaser p s).kept fun _ _ => idle_stopPhaser

/-- The state in which every phaser has been stopped. -/
theorem stoppedAll_idle (q : Phaser) : (stopPhaser .re (stopPhaser .ri (stopPhaser .fe (stopPhaser .fi s)))).idle q := by
  have kept (r : Phaser) (t : State) (h : t.idle q) : (stopPhaser r t).idle q := by
    by_cases hq : q = r
    · rw [hq]
      exact idle_stopPhaser
    · unfold State.idle
      rw [(local_stopPhaser r t).phaser q hq]
      exact h
  cases q with
  | fi => exact kept .re _ (kept .ri _ (kept .fe _ idle_stopPhaser))
  | fe => exact kept .re _ (kept .ri _ idle_stopPhaser)
  | ri => exact kept .re _ idle_stopPhaser
  | re => exact idle_stopPhaser

theorem seqKept_handleDeparture : SeqKept s (handleDeparture s) := by
  unfold handleDeparture
  split
  · have stopped := ((((seqKept_stopPhaser .fi s).trans (seqKept_stopPhaser .fe _)).trans
      (seqKept_stopPhaser .ri _)).trans (seqKept_stopPhaser .re _)).rows
    have hidle := stoppedAll_idle s
    dsimp only
    generalize stopPhaser .re (stopPhaser .ri (stopPhaser .fe (stopPhaser .fi s))) = t at stopped hidle ⊢
    exact ⟨stopped.trans (rows_of_same rfl rfl rfl rfl fun _ _ => rfl), fun _ _ _ => hidle⟩
  · exact .refl s

/-- The engine condition record replaced, with COND_STALE driven (R106, R107). -/
theorem seqKept_setCond (c : EngineCond) (b : Bool) :
    SeqKept s ({ s with ps := { s.ps with cond := c } }.driveDev .condStale b) :=
  seqKept_of_same rfl rfl rfl rfl (fun _ _ => rfl) rfl rfl

theorem seqKept_goStale : SeqKept s (goStale s) := by
  unfold goStale
  split
  · exact (seqKept_setCond s _ true).trans (seqKept_evaluateAll _)
  · exact .refl s

theorem seqKept_takeReport (ok : Bool) (temperature : Int) (battery : Nat) :
    SeqKept s (takeReport ok temperature battery s) :=
  (seqKept_setCond s _ false).trans (seqKept_evaluateAll _)

theorem seqKept_endRelease : SeqKept s (endRelease p s) :=
  (eventSound_endRelease p s).kept fun _ h => by rwa [endRelease_idle h]

theorem seqKept_endReturn : SeqKept s (endReturn p s) :=
  (eventSound_endReturn p s).kept fun _ h => by rwa [endReturn_idle h]

theorem seqKept_endLatch : SeqKept s (endLatch p s) :=
  (eventSound_endLatch p s).kept fun _ h => by rwa [endLatch_idle h]

theorem seqKept_takeTimers : SeqKept s (takeTimers p s) :=
  (eventSound_takeTimers p s).kept fun _ h => by rwa [takeTimers_at_rest h]

theorem seqKept_takeDelivered : SeqKept s (takeDelivered p s) :=
  (eventSound_takeDelivered p s).kept fun _ h => idle_takeDelivered h

theorem seqKept_takeDriverFault (d : DriverCause) : SeqKept s (takeDriverFault p d s) :=
  (eventSound_takeDriverFault p s d).kept fun _ h => idle_takeDriverFault d h

end Events

end Sys2Proof.Machine
end

section
/-! ## The laws of the Sequencer under the teeth, the commands and the time base -/

namespace Sys2Proof.Machine

open Sys2Proof

/-! ### Edge Capture and the teeth (R77, R79, R89 to R97) -/

theorem rows_setCam (c : Phaser) (x : Cam) (s : State) : RowsKept s (s.setCam c x) :=
  rows_of_same rfl rfl rfl rfl fun _ _ => rfl

theorem rows_setBracket (b : Option Bracket) (s : State) : RowsKept s (s.setBracket b) :=
  rows_of_same rfl rfl rfl rfl fun _ _ => rfl

theorem rows_associateEdge (c : Phaser) (edge : Nat) (s : State) : RowsKept s (associateEdge c edge s) := by
  unfold associateEdge
  dsimp only
  split
  · exact (rows_setCam c _ s).trans (rows_of_same rfl rfl rfl rfl fun p e => latchReject_stands _ c p e)
  · exact ((rows_setCam c _ s).trans (eventSound_drive c _ (e := .camLost) (by decide) false).rows).trans
      (eventSound_deliver c _ _).rows

theorem rows_completeCam (b : Bracket) (t1 : Tick) (span : Nat) (c : Phaser) (s : State) :
    RowsKept s (completeCam b t1 span c s) :=
  (rows_setCam c _ s).trans (rows_foldl _ (fun s _ => rows_associateEdge c _ s) _ _)

theorem rows_testWindowEnd (c : Phaser) (prev now k : Nat) (s : State) : RowsKept s (testWindowEnd c prev now k s) := by
  unfold testWindowEnd missTooth
  dsimp only
  split
  · split
    · exact rows_setCam c _ s
    · split
      · exact (rows_setCam c _ s).trans (eventSound_camLostDeclared c _).rows
      · exact rows_setCam c _ s
  · exact .refl s

theorem rows_testCam (prev now : Nat) (c : Phaser) (s : State) : RowsKept s (testCam prev now c s) :=
  rows_foldl _ (fun s k => rows_testWindowEnd c prev now k s) _ s

theorem rows_captureTooth (t : Tick) (angle span : Nat) (s : State) : RowsKept s (captureTooth t angle span s) := by
  cases h : s.ec.bracket with
  | none =>
    rw [captureTooth_first h]
    exact rows_setBracket _ s
  | some b =>
    have edges : RowsKept s (completeEdges b t span s) :=
      (((rows_completeCam b t span .fi s).trans (rows_completeCam b t span .fe _)).trans
        (rows_completeCam b t span .ri _)).trans (rows_completeCam b t span .re _)
    have ends (u : State) : RowsKept u (testWindowEnds b.angle angle u) :=
      (((rows_testCam b.angle angle .fi u).trans (rows_testCam b.angle angle .fe _)).trans
        (rows_testCam b.angle angle .ri _)).trans (rows_testCam b.angle angle .re _)
    rw [captureTooth_next h]
    exact (edges.trans (rows_setBracket _ _)).trans (ends _)

theorem rows_toothPart (t : Tick) (prev : Nat) (changed : Bool) (o : ToothOrder) (s : State) (x : ToothPart) :
    RowsKept s (toothPart t prev changed o s x) := by
  have marked (g : Group) (now : Nat) : RowsKept s (markApply g prev now s) := by
    unfold markApply
    split
    · exact (seqKept_applyGroups s _ _).rows
    · exact .refl s
  have settled (b : Bool) (g : Group) (u : State) : RowsKept u (if b then settleGroup Asker.byMark g u else u) := by
    split
    · exact (seqKept_settleGroup u _ g).rows
    · exact .refl u
  cases x with
  | front => exact (marked .front _).trans (settled _ .front _)
  | rear => exact (marked .rear _).trans (settled _ .rear _)
  | edges => exact rows_captureTooth t _ _ s
  | evaluation => exact (seqKept_evaluateIf s changed).rows

theorem rows_handTooth (t : Tick) (prev : Nat) (changed : Bool) (o : ToothOrder) (s : State) :
    RowsKept s (handTooth t prev changed o s) :=
  ((seqKept_settleGroup s _ .front).rows.trans (seqKept_settleGroup _ _ .rear).rows).trans
    (rows_foldl _ (fun s x => rows_toothPart t prev changed o s x) _ _)

theorem rows_storeTooth (d : Decoder) (doubts : Bool) (s : State) : RowsKept s (storeTooth d doubts s) := by
  unfold storeTooth
  cases doubts <;> exact rows_of_same rfl rfl rfl rfl fun _ _ => rfl

theorem rows_captureDeparture (s : State) : RowsKept s (captureDeparture s) :=
  rows_of_same rfl rfl rfl rfl fun _ _ => rfl

theorem rows_stored (t : Tick) (s : State) : RowsKept s (s.stored t) := by
  rw [← storeTooth_handled]
  exact (seqKept_handleDeparture s).rows.trans (rows_storeTooth _ _ _)

theorem rows_crankTooth (t : Tick) (o : ToothOrder) (s : State) : RowsKept s (crankTooth t o s) := by
  refine (rows_stored t s).trans ?_
  have entered (u : State) (angle : Nat) : RowsKept u (captureEntry t angle u) :=
    rows_of_same rfl rfl rfl rfl fun _ _ => rfl
  rw [crankTooth_stored]
  unfold State.handedOn
  split
  · exact rows_handTooth t _ _ o _
  · exact (rows_captureDeparture _).trans (seqKept_evaluateIf _ _).rows
  · exact (entered _ _).trans (seqKept_evaluateAll _).rows
  · exact (seqKept_evaluateIf _ _).rows

/-- A departure that is owed is handled before a tooth is stored, so outside CYCLE_SYNC every phaser is at rest then. -/
theorem stored_idle {s : State} (h : s.ad.sync ≠ .cycleSync) (law : DepartureLaw s) (t : Tick) (p : Phaser) :
    (s.stored t).idle p := by
  have handled := (seqKept_handleDeparture s).departure law
  obtain ⟨u, hu, hh⟩ := frame_handleDeparture s
  refine handled ?_ ?_ p
  · rw [hh]
    exact hu.ad ▸ h
  · rw [hh]

theorem crankTooth_departure (t : Tick) (o : ToothOrder) {s : State} (law : DepartureLaw s) :
    DepartureLaw (crankTooth t o s) := by
  intro hs hd
  obtain ⟨had, -⟩ := crankTooth_fields t o s
  rw [had] at hs
  by_cases h : s.ad.sync = .cycleSync
  · obtain ⟨hdeparted, -⟩ := crankTooth_leaves o h hs
    rw [hdeparted] at hd
    cases hd
  · have hstored : DepartureLaw (s.stored t) := fun _ _ => stored_idle h law t
    have hevaluated := (seqKept_evaluateIf (s.stored t) (s.speedChanges t)).departure hstored
    rw [← crankTooth_outside o h hs] at hevaluated
    exact hevaluated (by rwa [had]) hd

theorem seqKept_setDecoder {d : Decoder} {s : State} (h : d.sync = s.ad.sync) : SeqKept s (s.setDecoder d) :=
  seqKept_of_same rfl rfl rfl rfl (fun _ _ => rfl) h rfl

theorem seqKept_crankTransition (rising : Bool) (held : Nat) (stamp : Tick) (o : ToothOrder) (s : State) :
    SeqKept s (crankTransition rising held stamp o s) := by
  have filtered (b : Bool) : SeqKept s (s.setDecoder { s.ad with pulseOpen := b }) := seqKept_setDecoder rfl
  unfold crankTransition
  dsimp only
  split
  · exact (filtered _).trans ⟨rows_crankTooth _ _ _, crankTooth_departure _ _⟩
  · exact filtered _

theorem seqKept_setCam (c : Phaser) (x : Cam) (s : State) : SeqKept s (s.setCam c x) :=
  seqKept_of_same rfl rfl rfl rfl (fun _ _ => rfl) rfl rfl

theorem seqKept_camTransition (c : Phaser) (rising : Bool) (held : Nat) (stamp : Tick) (s : State) :
    SeqKept s (camTransition c rising held stamp s) := by
  have queued (t : State) : SeqKept t (queueEdge c stamp t) := by
    unfold queueEdge
    dsimp only
    split
    · exact seqKept_setCam c _ t
    · exact seqKept_of_same rfl rfl rfl rfl (fun p e => latchOverrun_stands t c p e) rfl rfl
  have taken (t : State) : SeqKept t (takeEdge c stamp t) := by
    obtain ⟨hsync, -⟩ := countEdge_fields t.ad c
    unfold takeEdge
    dsimp only
    split
    · exact (seqKept_setDecoder hsync).trans (queued _)
    · exact seqKept_setDecoder hsync
  unfold camTransition
  dsimp only
  split
  · exact (seqKept_setCam c _ s).trans (taken _)
  · exact seqKept_setCam c _ s

theorem seqKept_stopEngine (s : State) : SeqKept s (stopEngine s) := by
  have stored := rows_storeTooth s.ad.stop false s
  unfold stopEngine
  split
  · dsimp only
    split
    · exact ⟨stored.trans (rows_captureDeparture _), fun _ _ hd => Bool.noConfusion hd⟩
    · rename_i hs
      exact ⟨stored, fun law _ hd => law hs hd⟩
  · exact .refl s

/-! ### The time base (R104, R115, R131) -/

/-- An advance keeps what the laws read of a phaser record. -/
theorem advance_fields (x : PhaserRec) (trackErr : Bool) (q : SeqParams) :
    (x.advance trackErr q).state = x.state ∧ (x.advance trackErr q).enable = x.enable ∧
    (x.advance trackErr q).causes = x.causes ∧ ((x.advance trackErr q).overBand ≠ none ↔ x.overBand ≠ none) ∧
    ((x.advance trackErr q).timer ≠ none ↔ x.timer ≠ none) := by
  unfold PhaserRec.advance
  split
  · rename_i h
    exact ⟨rfl, rfl, rfl, Iff.rfl, not_congr (tickDown_none _)⟩
  · rename_i n h
    exact ⟨rfl, rfl, rfl, by simp [h], not_congr (tickDown_none _)⟩

theorem seqKept_advanced (s : State) : SeqKept s s.advanced := by
  have hstate (p : Phaser) : (s.advanced.phaser p).state = (s.phaser p).state := by
    rw [advanced_phaser]
    exact (advance_fields _ _ _).1
  refine ⟨⟨fun law p => ?_, fun ⟨hd, law⟩ => ⟨hd, fun p => ?_⟩, fun law p => ?_⟩, fun law hs hd p => ?_⟩
  · obtain ⟨hlim, hlo, hhi, hrest⟩ := law p
    rw [hstate, advanced_loop]
    refine ⟨hlim, hlo, hhi, fun hn => ?_⟩
    obtain ⟨hi, hl, ha, hdel⟩ := hrest hn
    exact ⟨hi, hl, by rw [Loop.advance, ha]; rfl, hdel⟩
  · rw [hstate]
    exact law p
  · obtain ⟨estate, eenable, ecauses, eover, etimer⟩ :=
      advance_fields (s.phaser p) (s.stands p .trackErr) s.ps.params
    have hok := law p
    unfold phaserOk at hok ⊢
    rw [advanced_phaser, estate, eenable, ecauses, eover, etimer]
    exact hok
  · rw [hstate]
    exact law hs hd p

theorem seqKept_takeRunOut (s : State) : SeqKept s (takeRunOut s) :=
  (((seqKept_foldl _ (fun s i => seqKept_expireSlot s i) slotNumbers s).trans
    (seqKept_foldl _ (fun s p => seqKept_takeTimers p s) Phaser.list _)).trans (seqKept_goStale _)).trans
      (seqKept_stopEngine _)

end Sys2Proof.Machine
end

section
/-! ## Every step keeps the laws of the Sequencer, the loops and the duties -/

namespace Sys2Proof.Machine

open Sys2Proof

/-! ### The commands of the Sequencer (R106, R121 to R123) -/

theorem idle_disable (p : Phaser) (s : State) : (disable p s).idle p := by
  by_cases h : (s.phaser p).state = .off
  · rw [disable_off h]
    exact .inr (.inl h)
  · refine .inr (.inl ?_)
    rw [disable_phaser h]
    exact (moveTo_phaser p .off none _).1

theorem seqKept_disable (p : Phaser) (s : State) : SeqKept s (disable p s) :=
  (eventSound_disable p s).kept fun _ _ => idle_disable p s

theorem seqKept_enable (p : Phaser) (s : State) : SeqKept s (enable p s) := by
  refine (eventSound_enable p s).kept fun _ h => ?_
  unfold enable
  split
  · exact idle_updateHeld.mpr idle_enterStopped
  · exact h

theorem seqKept_clearFaulted {p : Phaser} {s : State} (h : (s.phaser p).state = .faulted) :
    SeqKept s (clearFaulted p s) :=
  (eventSound_clearFaulted h).kept fun hs _ => by
    rw [clearFaulted_eq, if_neg hs]
    exact idle_updateHeld.mpr idle_enterStopped

theorem seqKept_ownReport (oil : Byte) (temperature battery : Half) (s : State) :
    SeqKept s (ownReport oil temperature battery s).1 := by
  unfold ownReport
  split
  · exact .refl s
  · exact seqKept_takeReport s _ _ _

theorem seqKept_ownEnable (phaser setting : Byte) (s : State) : SeqKept s (ownEnable phaser setting s).1 := by
  unfold ownEnable
  split
  · dsimp only
    split
    · exact seqKept_enable _ s
    · exact seqKept_disable _ s
  · exact .refl s

theorem seqKept_ownClear (phaser : Byte) (s : State) : SeqKept s (ownClear phaser s).1 := by
  unfold ownClear
  split
  · exact .refl s
  · split
    · rename_i h
      split
      · exact .refl s
      · exact seqKept_clearFaulted h
    · exact .refl s

/-! ### Parameter writes (R126, R144, R145, R181) -/

/-- A write that is stored keeps the laws. -/
def keepsSeq (write : State → Except Status State) : Prop := ∀ s t, write s = .ok t → SeqKept s t

theorem keepsSeq_ok {f : State → State} (h : ∀ s, SeqKept s (f s)) : keepsSeq fun s => .ok (f s) := by
  intro s t ht
  rw [← Except.ok.inj ht]
  exact h s

theorem keepsSeq_whenStopped {write : State → Except Status State} (h : keepsSeq write) :
    keepsSeq fun s => whenStopped s (write s) := by
  intro s t ht
  simp only [whenStopped] at ht
  split at ht
  · exact h s t ht
  · cases ht

theorem seqKept_setConfig (g : Group) (x : ApplyConfig) (s : State) : SeqKept s (s.setConfig g x) := by
  cases g <;> exact seqKept_of_same rfl rfl rfl rfl (fun _ _ => rfl) rfl rfl

/-- The Sequencer's parameters apart from the release duty. -/
theorem seqKept_setSeqParams {x : SeqParams} {s : State} (h : x.releaseDuty = s.ps.params.releaseDuty) :
    SeqKept s (s.setSeqParams x) :=
  seqKept_of_same rfl h rfl rfl (fun _ _ => rfl) rfl rfl

/-- A loop record replaced by one that is lawful where that one was. -/
theorem seqKept_setLoop {p : Phaser} {x : Loop} {s : State}
    (h : (s.loop p).lawful (s.phaser p).state → x.lawful (s.phaser p).state) : SeqKept s (s.setLoop p x) :=
  (eventSound_setLoop h).kept_of_state rfl

/-- The loop parameters apart from the integrator limit. -/
theorem seqKept_setLoopParams {p : Phaser} {x : LoopParams} {s : State} (h : x.ilim = (s.loop p).params.ilim) :
    SeqKept s (s.setLoopParams p x) := by
  refine seqKept_setLoop fun hl => ?_
  unfold Loop.lawful
  dsimp only
  rw [h]
  exact hl

theorem seqKept_setCapture (x : Capture) (s : State) : SeqKept s { s with ec := x } :=
  seqKept_of_same rfl rfl rfl rfl (fun _ _ => rfl) rfl rfl

theorem keepsSeq_applyMode (g : Group) (v : Byte) : keepsSeq (writeApplyMode g v) := by
  intro s t ht
  unfold writeApplyMode at ht
  split at ht
  · obtain rfl := Except.ok.inj ht
    exact seqKept_setConfig g _ s
  · cases ht

/-- The clamp of the ramp target leaves what the law of the loops reads. -/
theorem seqKept_boundStored (p : Phaser) (b : Bound) (w : Int) (s : State) : SeqKept s (s.boundStored p b w) := by
  have ramped (t : State) (r : Int) : SeqKept t (t.setLoop p { t.loop p with ramp := r }) := seqKept_setLoop id
  exact (seqKept_setResolver p s _).trans (ramped _ _)

theorem keepsSeq_authority (p : Phaser) (b : Bound) (v : Half) : keepsSeq (writeAuthority p b v) := by
  intro s t ht
  obtain ⟨w, -, rfl⟩ := writeAuthority_ok ht
  exact (seqKept_boundStored p b w s).trans (seqKept_recomputePhaser p _)

theorem keepsSeq_crank (w : CrankParam) (v : Byte) : keepsSeq (writeCrank w v) := by
  unfold writeCrank
  refine keepsSeq_whenStopped fun s t ht => ?_
  split at ht <;> split at ht <;> cases ht <;> exact seqKept_setDecoder rfl

theorem keepsSeq_syncCam (v : Byte) : keepsSeq (writeSyncCam v) := by
  unfold writeSyncCam
  refine keepsSeq_whenStopped fun s t ht => ?_
  split at ht
  · split at ht <;> cases ht
    exact seqKept_setDecoder rfl
  · cases ht

theorem keepsSeq_toothList (c : Phaser) (count : Byte) (a : AngleField) : keepsSeq (writeToothList c count a) := by
  unfold writeToothList
  refine keepsSeq_whenStopped fun s t ht => ?_
  dsimp only at ht
  split at ht
  · split at ht
    · split at ht <;> cases ht
      exact seqKept_setCam c _ s
    · cases ht
  · cases ht

theorem keepsSeq_polarity (c : Phaser) (v : Byte) : keepsSeq (writePolarity c v) := by
  unfold writePolarity
  refine keepsSeq_whenStopped fun s t ht => ?_
  split at ht <;> cases ht
  exact seqKept_setCam c _ s

theorem keepsSeq_margin (v : Half) : keepsSeq (writeMargin v) := by
  intro s t ht
  unfold writeMargin at ht
  split at ht <;> cases ht
  exact seqKept_setCapture _ s

/-- A release duty within its range is handed to the RELEASING phasers. -/
theorem seqKept_handRelease (s : State) (p : Phaser) : SeqKept s (handRelease s p) := by
  unfold handRelease
  split
  · rename_i h
    refine ⟨⟨id, fun ⟨hd, law⟩ => ⟨hd, fun q => ?_⟩, id⟩, id⟩
    by_cases hq : q = p
    · subst hq
      rw [setCommanded_channel, if_pos rfl]
      exact ⟨hd, fun _ => .inl h⟩
    · rw [(local_setCommanded p _ s).channel q hq]
      exact law q
  · exact .refl s

theorem clampNat_le {lo hi : Nat} (h : lo ≤ hi) (n : Nat) : clampNat lo hi n ≤ hi := by
  rw [clampNat_eq_max_min h]
  omega

theorem keepsSeq_releaseDuty (v : Half) : keepsSeq (writeReleaseDuty v) := by
  have stored (s : State) :
      SeqKept s (s.setSeqParams { s.ps.params with releaseDuty := clampNat 3000 10000 v.toNat }) :=
    ⟨⟨id, fun ⟨_, law⟩ => ⟨clampNat_le (by decide) _, law⟩, id⟩, id⟩
  exact keepsSeq_ok fun s => (stored s).trans (seqKept_foldl _ seqKept_handRelease _ _)

theorem keepsSeq_threshold (w : ThresholdParam) (v : Half) : keepsSeq (writeThreshold w v) :=
  keepsSeq_ok fun s => (seqKept_setSeqParams (by cases w <;> rfl)).trans (seqKept_evaluateAll _)

theorem keepsSeq_time (w : TimeParam) (v : Half) : keepsSeq (writeTime w v) := by
  intro s t ht
  unfold writeTime at ht
  split at ht <;> cases ht
  exact seqKept_setSeqParams (by cases w <;> rfl)

/-- A new integrator limit clamps the integrator, and leaves one that is 0 (R145). -/
theorem limited_lawful {l : Loop} {st : PhaserState} {n : Nat} (hn : n ≤ 5000) (h : l.lawful st) : (l.limited n).lawful st := by
  obtain ⟨-, -, -, hrest⟩ := h
  have hmem := clampInt_mem (lo := -(n * 256 : Nat)) (hi := (n * 256 : Nat)) (by omega) l.integrator
  refine ⟨hn, hmem.1, hmem.2, fun ht => ?_⟩
  obtain ⟨hzero, hlast, hage, hdelivered⟩ := hrest ht
  refine ⟨?_, hlast, hage, hdelivered⟩
  simp only [Loop.limited, hzero, clampInt]
  split
  · omega
  · split <;> omega

theorem keepsSeq_ilim (p : Phaser) (v : Half) : keepsSeq (writeIlim p v) :=
  keepsSeq_ok fun _ => seqKept_setLoop (limited_lawful (Nat.min_le_left _ _))

theorem keepsSeq_dutyLimit (p : Phaser) (b : Bound) (v : Half) : keepsSeq (writeDutyLimit p b v) := by
  intro s t ht
  cases b <;> simp only [writeDutyLimit] at ht <;> split at ht <;> cases ht <;> exact seqKept_setLoopParams rfl

theorem keepsSeq_frequency (v : Half) : keepsSeq (writeFrequency v) :=
  keepsSeq_ok fun _ => seqKept_of_same rfl rfl rfl rfl (fun _ _ => rfl) rfl rfl

theorem keepsSeq_writeParam (q : Param) (v : ValueField) : keepsSeq (writeParam q v) := by
  cases q with
  | applyMode g => exact keepsSeq_applyMode g v.b0
  | markAngle g => exact keepsSeq_ok fun s => seqKept_setConfig g _ s
  | authority b p => exact keepsSeq_authority p b v.half
  | crank w => exact keepsSeq_crank w v.b0
  | syncCam => exact keepsSeq_syncCam v.b0
  | toothList c => exact keepsSeq_toothList c v.b0 v.angles
  | camPolarity c => exact keepsSeq_polarity c v.b0
  | windowMargin => exact keepsSeq_margin v.half
  | camLostCount => exact keepsSeq_ok fun s => seqKept_setCapture _ s
  | releaseDuty => exact keepsSeq_releaseDuty v.half
  | threshold w => exact keepsSeq_threshold w v.half
  | time w => exact keepsSeq_time w v.half
  | ilim p => exact keepsSeq_ilim p v.half
  | dutyLimit b p => exact keepsSeq_dutyLimit p b v.half
  | pwmFrequency => exact keepsSeq_frequency v.half
  | stopTime | firingOffset => exact keepsSeq_ok fun _ => seqKept_setDecoder rfl
  | homeBand | releaseInterval | returnTimeout | latchInterval | trackBand | freshnessTime =>
    exact keepsSeq_ok fun _ => seqKept_setSeqParams rfl
  | kp | ki | nd => exact keepsSeq_ok fun _ => seqKept_setLoopParams rfl

theorem seqKept_ownWrite {q : Param} {write : State → Except Status State} (h : keepsSeq write) (s : State) :
    SeqKept s (ownWrite q write s).1 := by
  unfold ownWrite answer
  cases hw : write s with
  | error st => exact .refl s
  | ok t => exact h s t hw

theorem seqKept_ownSetParam (ident : Byte) (v : ValueField) (s : State) : SeqKept s (ownSetParam ident v s).1 := by
  unfold ownSetParam
  split
  · exact .refl s
  · exact seqKept_ownWrite (keepsSeq_writeParam _ v) s

end Sys2Proof.Machine
end

section
/-! ## Every step keeps the loop and duty laws, and the phaser and departure laws -/

namespace Sys2Proof.Machine

open Sys2Proof

/-! ### Commands that leave the Sequencer's records -/

/-- A command of the Request Table writes the slots at most. -/
def writesSlots (owner : State → State × Reply) : Prop := ∀ s, (owner s).1 = s ∨ ∃ x, (owner s).1 = s.setSlots x

theorem writesSlots_ownPost (snd : Sender) (key : KeyField) (cf : ContentField) : writesSlots (ownPost snd key cf) := by
  intro s
  unfold ownPost
  split
  · exact .inl rfl
  · split
    · split
      · exact .inl rfl
      · split
        · exact .inl rfl
        · split
          · exact .inl rfl
          · exact .inr ⟨_, rfl⟩
    · exact .inl rfl

theorem writesSlots_ownChange (snd : Sender) (h : Handle) (kind : Byte) (cf : ContentField) :
    writesSlots (ownChange snd h kind cf) := by
  intro s
  unfold ownChange
  split
  · exact .inl rfl
  · split
    · split
      · exact .inl rfl
      · split
        · exact .inr ⟨_, rfl⟩
        · exact .inr ⟨_, rfl⟩
    · exact .inl rfl

theorem writesSlots_ownRetire (snd : Sender) (h : Handle) : writesSlots (ownRetire snd h) := by
  intro s
  unfold ownRetire
  split
  · exact .inl rfl
  · split
    · exact .inr ⟨_, rfl⟩
    · exact .inl rfl

theorem writesSlots_ownRenew (h : Handle) : writesSlots (ownRenew h) := by
  intro s
  unfold ownRenew
  split
  · exact .inl rfl
  · exact .inr ⟨_, rfl⟩

theorem writesSlots_ownRenewClass (b : Byte) : writesSlots (ownRenewClass b) := by
  intro s
  unfold ownRenewClass
  split
  · exact .inl rfl
  · exact .inr ⟨_, rfl⟩

theorem seqKept_slotsOnly {owner : State → State × Reply} (h : writesSlots owner) (s : State) : SeqKept s (owner s).1 := by
  obtain hs | ⟨x, hs⟩ := h s
  · rw [hs]
    exact .refl s
  · rw [hs]
    exact seqKept_setSlots s x

theorem seqKept_reads {owner : State → State × Reply} (h : reads owner) (s : State) : SeqKept s (owner s).1 := by
  rw [h s]
  exact .refl s

theorem seqKept_ownApply (sel : Byte) (s : State) : SeqKept s (ownApply sel s).1 := by
  unfold ownApply
  split
  · exact .refl s
  · exact seqKept_applyGroups s _ _

/-- A phaser group with other latch records or enables keeps the status of its conditions. -/
theorem seqKept_setPhGroup {p : Phaser} {x : PhGroup} {s : State}
    (h : ∀ e, (x.conds.get e).declared = ((s.phGroup p).conds.get e).declared) : SeqKept s (s.setPhGroup p x) := by
  refine seqKept_of_same rfl rfl rfl rfl (fun q e => ?_) rfl rfl
  unfold State.stands
  rw [setPhGroup_phGroup]
  split
  · rename_i hq
    rw [h, hq]
  · rfl

theorem seqKept_setDev (x : DevGroup) (s : State) : SeqKept s (s.setDev x) :=
  seqKept_of_same rfl rfl rfl rfl (fun _ _ => rfl) rfl rfl

theorem seqKept_ownReadEvents (group : Byte) (s : State) : SeqKept s (ownReadEvents group s).1 := by
  unfold ownReadEvents
  split
  · exact .refl s
  · exact seqKept_setPhGroup fun e => by cases e <;> rfl
  · exact seqKept_setDev _ s

theorem seqKept_ownSetEnables (group : Byte) (enables : Half) (on : Byte) (s : State) :
    SeqKept s (ownSetEnables group enables on s).1 := by
  unfold ownSetEnables
  split
  · split
    · exact seqKept_setPhGroup fun _ => rfl
    · exact .refl s
  · split
    · exact seqKept_setDev _ s
    · exact .refl s
  · exact .refl s

/-! ### The port and the resets (R129, R148, R162, R172, R177) -/

theorem seqKept_setPort (x : Port) (s : State) : SeqKept s { s with fp := x } :=
  seqKept_of_same rfl rfl rfl rfl (fun _ _ => rfl) rfl rfl

theorem seqKept_rejectFrame (st : Status) (code byte1 : Byte) (s : State) : SeqKept s (rejectFrame s st code byte1) :=
  (seqKept_setPort _ s).trans (seqKept_setDev _ _)

theorem seqKept_takeCommand {i : Instr} {c : Command} {snd : Sender} {owner : State → State × Reply} {s : State}
    (h : SeqKept s (owner s).1) : SeqKept s (takeCommand i c snd owner s) := by
  obtain hi | ⟨hr, -⟩ | ⟨ht, -⟩ := takeCommand_cases i c snd owner s
  · rw [hi]
    exact .refl s
  · rw [hr]
    exact seqKept_rejectFrame _ _ _ s
  · rw [ht]
    exact h.trans (seqKept_setPort _ _)

theorem seqKept_csRise (bytes : List Byte) (s : State) : SeqKept s (csRise bytes s) := by
  have ended (t : State) : SeqKept t (endFrame bytes t) := by
    unfold endFrame
    split
    · exact seqKept_setPort _ _
    · exact seqKept_rejectFrame _ _ _ _
  unfold csRise
  split
  · exact (seqKept_setPort { s.fp with transaction := .idle } s).trans (ended _)
  · exact seqKept_setPort _ s
  · exact seqKept_setPort _ s
  · exact .refl s

/-- A hard reset brings every block to its reset values, which are lawful. -/
theorem seqKept_hardReset (kind : ResetKind) (hot : Quad Bool) (s : State) : SeqKept s (hardReset kind hot s) := by
  have hduty : DutyLaw (hardReset kind hot s) := by
    refine ⟨dutyLaw_reset.1, fun p => ?_⟩
    rw [hardReset_channel]
    exact ⟨Nat.zero_le _, fun h => absurd rfl h⟩
  have hphaser : PhaserLaw (hardReset kind hot s) := phaserLaw_reset
  exact ⟨⟨fun _ => loopLaw_reset, fun _ => hduty, fun _ => hphaser⟩, fun _ => departureLaw_reset⟩

/-- A soft reset leaves an enabled phaser STOPPED and any other one OFF (R129). -/
theorem softReset_idle (s : State) (p : Phaser) : (softReset s).idle p := by
  unfold State.idle
  rw [softReset_phaser, PhaserRec.softReset]
  cases (s.phaser p).enable
  · exact .inr (.inl rfl)
  · exact .inl rfl

theorem seqKept_softReset (s : State) : SeqKept s (softReset s) := by
  refine ⟨⟨fun law p => ?_, fun law => ⟨law.1, fun p => ?_⟩, fun _ p => ?_⟩, fun _ _ _ => softReset_idle s⟩
  · rw [softReset_loop]
    exact departed_lawful (l := { s.loop p with ramp := 0, output := 0, sat := .none }) (law p).1 _
  · rw [softReset_channel]
    exact ⟨Nat.zero_le _, fun h => absurd rfl h⟩
  · have hstands (e : PhCond) (he : e ≠ .camLost) : (softReset s).stands p e = false := by
      unfold State.stands
      rw [softReset_phGroup]
      exact (congrArg Cond.declared (softReset_conds _ e)).trans (by simp [he])
    unfold phaserOk
    rw [hstands _ (by decide), hstands _ (by decide), hstands _ (by decide), softReset_phaser, PhaserRec.softReset]
    cases (s.phaser p).enable <;> simp [PhaserRec.reset]

/-! ### Every command and every event -/

/-- The laws are carried to the next state, if there is one. -/
def nextSeqKept (s : State) (r : Result) : Prop := ∀ t, r = .next t → SeqKept s t

theorem nextSeqKept_next {s t : State} (h : SeqKept s t) : nextSeqKept s (.next t) := by
  intro u hu
  rw [← Host.Outcome.next.inj hu]
  exact h

theorem nextSeqKept_command {i : Instr} {c : Command} {snd : Sender} {owner : State → State × Reply} {s : State}
    (h : SeqKept s (owner s).1) : nextSeqKept s (.next (takeCommand i c snd owner s)) :=
  nextSeqKept_next (seqKept_takeCommand h)

theorem nextSeqKept_write {i : Instr} {c : Command} {snd : Sender} {q : Param} {write : State → Except Status State}
    {s : State} (h : keepsSeq write) : nextSeqKept s (.next (takeCommand i c snd (ownWrite q write) s)) :=
  nextSeqKept_command (seqKept_ownWrite h s)

/-- An event of an output keeps the laws. -/
theorem DriverMove.nextSeqKept {p : Phaser} {s t : State} (h : DriverMove p s t) : nextSeqKept s (.next t) :=
  nextSeqKept_next (h.event.kept_of_state h.state)

theorem seqKept_overBandIf (b : Bool) (p : Phaser) (s : State) : SeqKept s (if b then overBandEvent p s else s) := by
  split
  · exact seqKept_overBandEvent p s
  · exact .refl s

theorem exec_nextSeqKept (i : Instr) (s : State) : nextSeqKept s (exec i s) := by
  cases i with
  | powerOn hot => exact nextSeqKept_next (seqKept_hardReset _ hot s)
  | resetPin hot => exact nextSeqKept_next (seqKept_hardReset _ hot s)
  | vddUndervoltageReset hot => exact nextSeqKept_next (seqKept_hardReset _ hot s)
  | transactionStart => exact nextSeqKept_next (seqKept_setPort _ s)
  | transactionEnd sdi => exact nextSeqKept_next (seqKept_csRise _ s)
  | nop snd => exact nextSeqKept_command (.refl s)
  | post snd key cf => exact nextSeqKept_command (seqKept_slotsOnly (writesSlots_ownPost snd key cf) s)
  | change snd h kind cf => exact nextSeqKept_command (seqKept_slotsOnly (writesSlots_ownChange snd h kind cf) s)
  | retire snd h => exact nextSeqKept_command (seqKept_slotsOnly (writesSlots_ownRetire snd h) s)
  | renew snd h => exact nextSeqKept_command (seqKept_slotsOnly (writesSlots_ownRenew h) s)
  | renewClass snd b => exact nextSeqKept_command (seqKept_slotsOnly (writesSlots_ownRenewClass b) s)
  | apply snd sel => exact nextSeqKept_command (seqKept_ownApply sel s)
  | find snd key => exact nextSeqKept_command (seqKept_reads (reads_ownFind key) s)
  | readRecord snd h => exact nextSeqKept_command (seqKept_reads (reads_ownReadRecord h) s)
  | list snd => exact nextSeqKept_command (.refl s)
  | readPhaser snd p => exact nextSeqKept_command (seqKept_reads (reads_ownReadPhaser p) s)
  | resolve snd p => exact nextSeqKept_command (seqKept_reads (reads_ownResolve p) s)
  | readEngine snd => exact nextSeqKept_command (.refl s)
  | reportConditions snd o t b => exact nextSeqKept_command (seqKept_ownReport o t b s)
  | enablePhaser snd p e => exact nextSeqKept_command (seqKept_ownEnable p e s)
  | clearFault snd p => exact nextSeqKept_command (seqKept_ownClear p s)
  | readEvents snd g => exact nextSeqKept_command (seqKept_ownReadEvents g s)
  | setEventEnables snd g e on => exact nextSeqKept_command (seqKept_ownSetEnables g e on s)
  | resetDevice snd => exact nextSeqKept_command (seqKept_softReset s)
  | getParam snd ident => exact nextSeqKept_command (seqKept_reads (reads_ownGetParam ident) s)
  | setParam snd ident v => exact nextSeqKept_command (seqKept_ownSetParam ident v s)
  | setApplyMode snd g v => exact nextSeqKept_write (keepsSeq_applyMode g v)
  | setMarkAngle snd g v => exact nextSeqKept_write (keepsSeq_ok fun s => seqKept_setConfig g _ s)
  | setAuthorityWindow snd p b v => exact nextSeqKept_write (keepsSeq_authority p b v)
  | setCrankGeometry snd w v => exact nextSeqKept_write (keepsSeq_crank w v)
  | setSyncCam snd v => exact nextSeqKept_write (keepsSeq_syncCam v)
  | setToothList snd c n a => exact nextSeqKept_write (keepsSeq_toothList c n a)
  | setCamPolarity snd c v => exact nextSeqKept_write (keepsSeq_polarity c v)
  | setWindowMargin snd v => exact nextSeqKept_write (keepsSeq_margin v)
  | setCamLostCount snd v => exact nextSeqKept_write (keepsSeq_ok fun s => seqKept_setCapture _ s)
  | setReleaseDuty snd v => exact nextSeqKept_write (keepsSeq_releaseDuty v)
  | setReleaseThresholds snd w v => exact nextSeqKept_write (keepsSeq_threshold w v)
  | setTrackFaultTime snd w v => exact nextSeqKept_write (keepsSeq_time w v)
  | setIntegratorLimit snd p v => exact nextSeqKept_write (keepsSeq_ilim p v)
  | setDutyLimit snd p b v => exact nextSeqKept_write (keepsSeq_dutyLimit p b v)
  | setPwmFrequency snd v => exact nextSeqKept_write (keepsSeq_frequency v)
  | timeBaseAdvance =>
    rw [exec_timeBase]
    exact nextSeqKept_next ((seqKept_takeRunOut s).trans (seqKept_advanced _))
  | expiry j => exact nextSeqKept_next (seqKept_expireSlot s j)
  | recompute p => exact nextSeqKept_next (seqKept_takeRecompute p s)
  | crankTooth r h st o => exact nextSeqKept_next (seqKept_crankTransition r h st o s)
  | controlStep p => exact nextSeqKept_next (seqKept_takeDelivered p s)
  | camEdge c r h st => exact nextSeqKept_next (seqKept_camTransition c r h st s)
  | stopTimerExpiry => exact nextSeqKept_next (seqKept_stopEngine s)
  | syncDepartureHandling => exact nextSeqKept_next (seqKept_handleDeparture s)
  | freshnessTimerExpiry => exact nextSeqKept_next (seqKept_goStale s)
  | releaseIntervalExpiry p => exact nextSeqKept_next (seqKept_endRelease p s)
  | returnTimeoutExpiry p => exact nextSeqKept_next (seqKept_endReturn p s)
  | latchIntervalExpiry p => exact nextSeqKept_next (seqKept_endLatch p s)
  | overBandTrackTime p => exact nextSeqKept_next (seqKept_overBandIf _ p s)
  | overBandFaultTime p => exact nextSeqKept_next (seqKept_overBandIf _ p s)
  | periodStart p => exact (driver_periodStartAt p s).nextSeqKept
  | endOfOnTime p => exact (driver_setChannel (endOn_commanded _ _)).nextSeqKept
  | periodEnd p seen => exact (driver_periodEndAt p s seen).nextSeqKept
  | overcurrent p => exact (driver_overcurrentAt p s).nextSeqKept
  | thermalHoldSet p =>
    exact (driver_thermalHold p s (x := { (s.channel p).cut _ with hold := true }) (cut_commanded _ _)).nextSeqKept
  | thermalHoldClear p => exact (driver_thermalHold p s (x := { s.channel p with hold := false }) rfl).nextSeqKept
  | driverConditionFault p d => exact nextSeqKept_next (seqKept_takeDriverFault p s d)

/-- The queue and the clock are read by no law. -/
theorem step_seqKept {s t : State} (h : step s = .next t) : SeqKept s t := by
  obtain ⟨i, rest, -, hs⟩ | ⟨i, -, -, hs⟩ | ⟨-, -, hs⟩ := step_cases s
  · have taken : SeqKept s { s with pending := rest } := seqKept_of_same rfl rfl rfl rfl (fun _ _ => rfl) rfl rfl
    exact taken.trans (exec_nextSeqKept i _ t (hs ▸ h))
  · exact exec_nextSeqKept i s t (hs ▸ h)
  · have ticked : SeqKept s s.tick := seqKept_of_same rfl rfl rfl rfl (fun _ _ => rfl) rfl rfl
    exact nextSeqKept_next ticked t (hs ▸ h)

/-- Settles O56: an integrator is clamped by every step and every new limit and cleared by every departure, and every entry to a
state commands the duty of that state. -/
theorem stepKeepsTheLoopAndDutyLaws : Obligations.StepKeepsTheLoopAndDutyLaws :=
  fun _ _ law h => ⟨(step_seqKept h).rows.loop law.1, (step_seqKept h).rows.duty law.2⟩

/-- Settles O57: every move writes the state together with its timer, its cause set and its conditions, and only the handling of
a departure clears the owed one. -/
theorem stepKeepsThePhaserAndDepartureLaws : Obligations.StepKeepsThePhaserAndDepartureLaws :=
  fun _ _ law h => ⟨(step_seqKept h).rows.phaser law.1, (step_seqKept h).departure law.2⟩

end Sys2Proof.Machine
end

section
/-! ## What a fault leaves of its phaser (R115, R118 to R120, R143) -/

namespace Sys2Proof.Machine

open Sys2Proof

/-! ### Fault entry with the end of its event (R110, R119) -/

section Faulted
variable (p : Phaser) (c : CauseSet) (v : State)

theorem faulted_phaser :
    (updateHeld p (faultEntry p c v)).phaser p =
      { (moveTo p .faulted none v).phaser p with
        causes := c.union (v.standing p (v.phaser p).state), held := HeldCauses.empty } := by
  have hstate := (moveTo_phaser p .faulted none v).1
  rw [updateHeld_phaser, if_neg, faultEntry_phaser]
  rw [holds_iff]
  rintro ⟨-, -, hw⟩
  rw [State.waiting, faultEntry_phaser, hstate] at hw
  simp at hw

theorem faulted_state :
    ((updateHeld p (faultEntry p c v)).phaser p).state = .faulted ∧
      ((updateHeld p (faultEntry p c v)).phaser p).timer = none := by
  rw [faulted_phaser]
  exact moveTo_phaser p .faulted none v

theorem faulted_stands (e : PhCond) :
    (updateHeld p (faultEntry p c v)).stands p e =
      if e = .faulted then true
      else if e = .releaseHeld ∨ (v.phaser p).state = .tracking ∧ e = .trackErr then false
      else v.stands p e := by
  have hstate := (faulted_state p c v).1
  by_cases he : e = .releaseHeld
  · subst he
    rw [if_neg (by decide), if_pos (.inl rfl), Bool.eq_false_iff, ne_eq, updateHeld_declares]
    rintro ⟨-, -, hw⟩
    rw [State.waiting, hstate] at hw
    simp at hw
  · rw [updateHeld_stands, if_neg he, faultEntry_stands]
    simp [he]

theorem faulted_channel :
    (updateHeld p (faultEntry p c v)).channel p = { v.channel p with commanded := 0 } := by
  rw [updateHeld_channel, faultEntry_channel]

theorem faulted_loop_undriven (h : ¬ v.driven p) : (updateHeld p (faultEntry p c v)).loop p = v.loop p := by
  rw [updateHeld_loop, faultEntry_loop, moveTo_loop_undriven h]

theorem faulted_atRest (h : v.driven p) : ((updateHeld p (faultEntry p c v)).loop p).atRest := by
  rw [updateHeld_loop, faultEntry_loop]
  exact moveTo_atRest h .faulted none

end Faulted

/-- The driver conditions standing, with CAM_LOST where it faults the phaser. -/
theorem standing_eq (s : State) (p : Phaser) (st : PhaserState) :
    s.standing p st = ⟨s.stands p .drvOpen, s.stands p .drvShort, s.stands p .drvHot,
      s.stands p .camLost && camFaults st, false, false⟩ := rfl

theorem camFaults_eq (st : PhaserState) :
    camFaults st = (st == .releasing || st == .tracking || st == .returning) := by
  cases st <;> rfl

/-! ### The fault time found reached (R115, R127) -/

section FaultTime
variable {p : Phaser} {s : State} (h : (s.phaser p).state = .tracking) (hf : (s.phaser p).faultDue = true)

include h hf

theorem faultTime_phaser :
    (overBandEvent p s).phaser p =
      { s.phaser p with
        state := .faulted, timer := none, overBand := none, trackDue := false, faultDue := false,
        causes := ⟨s.stands p .drvOpen, s.stands p .drvShort, s.stands p .drvHot, s.stands p .camLost, true, false⟩,
        held := HeldCauses.empty } := by
  have hstate : ((declareTrackErr p s).phaser p).state = .tracking := by rw [declareTrackErr_phaser, h]
  rw [overBandEvent_fault h hf, faulted_phaser, moveTo_record, if_pos hstate, standing_eq]
  simp [declareTrackErr_stands, declareTrackErr_phaser, CauseSet.union, CauseSet.empty, camFaults, h]

theorem faultTime_stands (e : PhCond) :
    (overBandEvent p s).stands p e =
      if e = .faulted then true else if e = .releaseHeld ∨ e = .trackErr then false else s.stands p e := by
  have hstate : ((declareTrackErr p s).phaser p).state = .tracking := by rw [declareTrackErr_phaser, h]
  rw [overBandEvent_fault h hf, faulted_stands]
  by_cases he : e = .trackErr
  · simp [he, hstate]
  · simp [he, declareTrackErr_stands]

theorem faultTime_channel : (overBandEvent p s).channel p = { s.channel p with commanded := 0 } := by
  rw [overBandEvent_fault h hf, faulted_channel, declareTrackErr_channel]

theorem faultTime_loop : (overBandEvent p s).loop p = (s.loop p).departed := by
  rw [overBandEvent_loop, if_pos ⟨h, hf⟩]

end FaultTime

/-- Below the fault time, the over-band events change no more than TRACK_ERR and its waiting declaration. -/
theorem overBandEvent_calm {p : Phaser} {s : State}
    (h : ¬ ((s.phaser p).state = .tracking ∧ (s.phaser p).faultDue = true)) :
    ∃ b, (overBandEvent p s).phaser p = { s.phaser p with trackDue := b } ∧ (overBandEvent p s).loop p = s.loop p ∧
      (overBandEvent p s).channel p = s.channel p ∧ ∀ e, e ≠ .trackErr → (overBandEvent p s).stands p e = s.stands p e := by
  have hstands := (overBandEvent_kept h).2
  by_cases ht : (s.phaser p).state = .tracking
  · rw [overBandEvent_track ht (Bool.eq_false_iff.mpr fun hf => h ⟨ht, hf⟩)] at hstands ⊢
    exact ⟨false, declareTrackErr_phaser p s, declareTrackErr_loop p p s, declareTrackErr_channel p p s, hstands⟩
  · rw [overBandEvent_other ht] at hstands ⊢
    exact ⟨_, rfl, rfl, rfl, hstands⟩

/-! ### The status record of a condition (R164) -/

/-- The record of a condition driven in its phaser group. -/
theorem drive_cond (s : State) (p : Phaser) (e f : PhCond) (b : Bool) :
    ((s.drive p e b).phGroup p).conds.get f =
      if f = e then ((s.phGroup p).conds.get e).drive b else (s.phGroup p).conds.get f := by
  unfold State.drive
  rw [setPhGroup_phGroup_self, phConds_get_set]

/-- Leaving TRACKING clears TRACK_ERR, and nothing later in a fault entry touches it. -/
theorem faulted_trackErr (p : Phaser) (c : CauseSet) {v : State} (h : (v.phaser p).state = .tracking) :
    ((updateHeld p (faultEntry p c v)).phGroup p).conds.get .trackErr =
      ((v.phGroup p).conds.get .trackErr).drive false := by
  simp [updateHeld, faultEntry, moveTo, leaveState, h, drive_cond]

theorem declareTrackErr_cond (p : Phaser) (s : State) :
    ((declareTrackErr p s).phGroup p).conds.get .trackErr =
      if (s.phaser p).trackDue then ((s.phGroup p).conds.get .trackErr).drive true
      else (s.phGroup p).conds.get .trackErr := by
  unfold declareTrackErr
  split
  · rw [drive_cond, if_pos rfl, setPhaser_phGroup_frame]
  · rfl

theorem declareTrackErr_due {p : Phaser} {s : State} (h : (s.phaser p).trackDue = true) :
    declareTrackErr p s = (s.setPhaser p { s.phaser p with trackDue := false }).drive p .trackErr true := if_pos h

/-! ### The over-band times (R115, R119, R127) -/

theorem exec_overBandTrackTime (p : Phaser) (s : State) :
    exec (.overBandTrackTime p) s = .next (if (s.phaser p).trackDue then overBandEvent p s else s) := rfl

theorem exec_overBandFaultTime (p : Phaser) (s : State) :
    exec (.overBandFaultTime p) s = .next (if (s.phaser p).faultDue then overBandEvent p s else s) := rfl

/-- An over-band event that is not due, or not in TRACKING, is not taken. -/
theorem overBandIf_kept {b : Bool} {p : Phaser} {s : State} (h : b = false ∨ (s.phaser p).state ≠ .tracking) :
    (if b then overBandEvent p s else s) = s := by
  rcases h with rfl | h
  · rfl
  · rw [overBandEvent_other h, ite_self]

/-- Settles O35, by the two times an advance can have found reached. -/
theorem overBandTimesDeclareAndFault : Obligations.OverBandTimesDeclareAndFault := by
  intro p s
  refine ⟨fun h => ?_, fun h ht hf => ?_, fun h => ?_, fun h hf =>
    ⟨overBandEvent p s, ?_, fun ht => ?_, local_overBandEvent p s, ?_⟩⟩
  · rw [exec_overBandTrackTime, overBandIf_kept h]
  · rw [exec_overBandTrackTime, if_pos ht, overBandEvent_track h hf, declareTrackErr_due ht]
  · rw [exec_overBandFaultTime, overBandIf_kept h]
  · rw [exec_overBandFaultTime, if_pos hf]
  · rw [exec_overBandTrackTime, if_pos ht]
  · have hstate : ((declareTrackErr p s).phaser p).state = .tracking := by rw [declareTrackErr_phaser, h]
    rw [faultTime_phaser h hf, faultTime_channel h hf, faultTime_stands h hf, faultTime_stands h hf, faultTime_loop h hf]
    refine ⟨rfl, rfl, rfl, rfl, rfl, rfl, rfl, ?_, rfl, rfl, rfl⟩
    rw [overBandEvent_fault h hf, faulted_trackErr p _ hstate, declareTrackErr_cond]

/-! ### A driver condition taken (R119, R120, R122, R158) -/

/-- A phaser with one of its waiting declarations taken out. -/
def State.undeclared (s : State) (p : Phaser) (d : DriverCause) : State :=
  s.setPhaser p { s.phaser p with declared := (s.phaser p).declared.remove d }

/-- What the Sequencer does with a driver condition that it has taken, by the state of the phaser. -/
def driverAnswered (p : Phaser) (d : DriverCause) (v : State) : State :=
  match (v.phaser p).state with
  | .off => v
  | .faulted => addCause p (driverCause d) v
  | _ => updateHeld p (faultEntry p (driverCause d) v)

section Taken
variable {p : Phaser} {d : DriverCause} {s : State}

theorem undeclared_phaser :
    (s.undeclared p d).phaser p = { s.phaser p with declared := (s.phaser p).declared.remove d } :=
  setPhaser_phaser_self s p _

theorem takeDriverFault_notOwed (h : (s.phaser p).declared.has d = false) : takeDriverFault p d s = s := by
  rw [takeDriverFault, h]
  rfl

theorem takeDriverFault_owed (h : (s.phaser p).declared.has d = true) :
    takeDriverFault p d s = driverAnswered p d (overBandEvent p (s.undeclared p d)) := if_pos h

theorem driverAnswered_off (h : (s.phaser p).state = .off) : driverAnswered p d s = s := by
  simp only [driverAnswered, h]

theorem driverAnswered_faulted (h : (s.phaser p).state = .faulted) :
    driverAnswered p d s = addCause p (driverCause d) s := by
  simp only [driverAnswered, h]

theorem driverAnswered_other (hoff : (s.phaser p).state ≠ .off) (hfaulted : (s.phaser p).state ≠ .faulted) :
    driverAnswered p d s = updateHeld p (faultEntry p (driverCause d) s) := by
  unfold driverAnswered
  split
  · exact absurd ‹_› hoff
  · exact absurd ‹_› hfaulted
  · rfl

theorem setPhaser_setPhaser (s : State) (p : Phaser) (x y : PhaserRec) :
    (s.setPhaser p x).setPhaser p y = s.setPhaser p y := by
  cases p <;> rfl

/-- From every state but OFF and FAULTED the phaser is FAULTED, by the condition taken or by a fault time found reached before. -/
theorem takeDriverFault_faults (h : (s.phaser p).declared.has d = true) (hoff : (s.phaser p).state ≠ .off)
    (hfaulted : (s.phaser p).state ≠ .faulted) :
    let x := s.phaser p
    let t := takeDriverFault p d s
    (t.phaser p).state = .faulted ∧ (t.phaser p).enable = x.enable ∧ (t.phaser p).timer = none ∧
    (t.phaser p).declared = x.declared.remove d ∧ (t.phaser p).held = HeldCauses.empty ∧
    (t.phaser p).causes = (driverCause d).union ⟨s.stands p .drvOpen, s.stands p .drvShort, s.stands p .drvHot,
      s.stands p .camLost && camFaults x.state, x.state == .tracking && x.faultDue, false⟩ ∧
    t.channel p = { s.channel p with commanded := 0 } ∧ t.stands p .faulted = true ∧ t.stands p .releaseHeld = false ∧
    (x.state = .tracking → (t.phaser p).overBand = none ∧ t.stands p .trackErr = false) ∧
    (s.driven p → (t.loop p).atRest) ∧ (¬ s.driven p → t.loop p = s.loop p) := by
  have hu := undeclared_phaser (p := p) (d := d) (s := s)
  dsimp only
  rw [takeDriverFault_owed h]
  by_cases hdue : (s.phaser p).state = .tracking ∧ (s.phaser p).faultDue = true
  · obtain ⟨ht, hf⟩ := hdue
    have ht' : ((s.undeclared p d).phaser p).state = .tracking := by rw [hu, ht]
    have hf' : ((s.undeclared p d).phaser p).faultDue = true := by rw [hu, hf]
    have hx := faultTime_phaser ht' hf'
    rw [driverAnswered_faulted (by rw [hx]), addCause]
    simp only [setPhaser_phaser_self, setPhaser_channel_frame, setPhaser_loop_frame, setPhaser_stands,
      faultTime_stands ht' hf', faultTime_channel ht' hf', faultTime_loop ht' hf', hx, hu]
    refine ⟨trivial, trivial, trivial, trivial, trivial, ?_, rfl, rfl, rfl, fun _ => ⟨trivial, rfl⟩,
      fun _ => ⟨rfl, rfl, rfl, rfl⟩,
      fun hn => absurd (.inr ht) hn⟩
    rw [ht, hf, CauseSet.union, CauseSet.union]
    simp only [Bool.or_comm, camFaults, Bool.and_true]
    rfl
  · have hdue' : ¬ (((s.undeclared p d).phaser p).state = .tracking ∧ ((s.undeclared p d).phaser p).faultDue = true) := by
      rw [hu]
      exact hdue
    obtain ⟨b, hx, hloop, hchannel, hstands⟩ := overBandEvent_calm hdue'
    have hstate : ((overBandEvent p (s.undeclared p d)).phaser p).state = (s.phaser p).state := by rw [hx, hu]
    have hdriven : (overBandEvent p (s.undeclared p d)).driven p ↔ s.driven p := by rw [State.driven, hstate]; rfl
    have hnot : ((s.phaser p).state == .tracking && (s.phaser p).faultDue) = false := by
      rw [Bool.eq_false_iff, ne_eq, Bool.and_eq_true, beq_iff_eq]
      exact hdue
    rw [driverAnswered_other (by rwa [hstate]) (by rwa [hstate]), hnot]
    refine ⟨(faulted_state p _ _).1, ?_, (faulted_state p _ _).2, ?_, ?_, ?_, ?_, ?_, ?_, fun ht => ⟨?_, ?_⟩,
      fun hd => ?_, fun hd => ?_⟩
    · rw [faulted_phaser, moveTo_record, hx, hu]
      split <;> rfl
    · rw [faulted_phaser, moveTo_record, hx, hu]
      split <;> rfl
    · rw [faulted_phaser]
    · rw [faulted_phaser, standing_eq, hstate, hstands _ (by decide), hstands _ (by decide), hstands _ (by decide),
        hstands _ (by decide)]
      rfl
    · rw [faulted_channel, hchannel]
      rfl
    · rw [faulted_stands, if_pos rfl]
    · rw [faulted_stands, if_neg (by decide), if_pos (.inl rfl)]
    · rw [faulted_phaser, moveTo_record, hstate, if_pos ht]
    · rw [faulted_stands, if_neg (by decide), if_pos (.inr ⟨hstate.trans ht, rfl⟩)]
    · exact faulted_atRest p _ _ (hdriven.mpr hd)
    · rw [faulted_loop_undriven p _ _ fun hd' => hd (hdriven.mp hd'), hloop]
      rfl

/-- Settles O37, by the state of the phaser and by whether a fault time has been found reached before. -/
theorem driverConditionFaultsThePhaser : Obligations.DriverConditionFaultsThePhaser := by
  intro p d s x owed rest added
  have howed : (s.phaser p).declared.has d = owed := by cases d <;> rfl
  have hrest : (s.phaser p).declared.remove d = rest := by cases d <;> rfl
  have hexec : exec (.driverConditionFault p d) s = .next (takeDriverFault p d s) := rfl
  rw [hexec]
  refine ⟨fun h => ?_, fun h hs => ?_, fun h hs => ?_, fun h hoff hfaulted =>
    ⟨takeDriverFault p d s, rfl, local_takeDriverFault p d s, ?_⟩⟩
  · rw [takeDriverFault_notOwed (howed.trans h)]
  · have hstate : ((s.undeclared p d).phaser p).state = .off := by rw [undeclared_phaser]; exact hs
    rw [takeDriverFault_owed (howed.trans h), overBandEvent_other (by rw [hstate]; decide), driverAnswered_off hstate,
      State.undeclared, hrest]
  · have hstate : ((s.undeclared p d).phaser p).state = .faulted := by rw [undeclared_phaser]; exact hs
    rw [takeDriverFault_owed (howed.trans h), overBandEvent_other (by rw [hstate]; decide),
      driverAnswered_faulted hstate, addCause, undeclared_phaser, State.undeclared, setPhaser_setPhaser, hrest]
    have hadded : (s.phaser p).causes.union (driverCause d) = added := by
      cases d <;> simp [CauseSet.union, driverCause, CauseSet.empty, added, x]
    rw [← hadded]
  · obtain ⟨hstate, henable, htimer, hdeclared, hheld, hcauses, hrows⟩ :=
      takeDriverFault_faults (howed.trans h) hoff hfaulted
    refine ⟨hstate, henable, htimer, hdeclared.trans hrest, hheld, hcauses.trans ?_, hrows⟩
    cases d <;> simp [CauseSet.union, driverCause, CauseSet.empty, x, camFaults_eq, Bool.or_comm]

end Taken

end Sys2Proof.Machine
end

section
/-! ## The departure from CYCLE_SYNC and the timers of the way home (R110, R112, R113, R116, R119, R124) -/

namespace Sys2Proof.Machine

open Sys2Proof

/-! ### One phaser through the handling of a departure (R111, R124) -/

/-- What the handling of a departure does with a phaser, from state `s` to state `t` (R118, R124). -/
def departedTo (p : Phaser) (s t : State) : Prop :=
  ((s.phaser p).state = .off ∨ (s.phaser p).state = .faulted ∨ (s.phaser p).state = .stopped →
    t.phaser p = s.phaser p ∧ t.loop p = s.loop p ∧ t.channel p = s.channel p) ∧
  ((s.phaser p).state = .tracking → (s.phaser p).faultDue = true → (t.phaser p).state = .faulted) ∧
  ((s.phaser p).state ≠ .off → (s.phaser p).state ≠ .faulted → (s.phaser p).state ≠ .stopped →
    ((s.phaser p).state = .tracking → (s.phaser p).faultDue = false) →
    s.stands p .drvOpen = false → s.stands p .drvShort = false → s.stands p .drvHot = false →
    (t.phaser p).state = .stopped ∧ (t.phaser p).timer = none ∧ (t.channel p).commanded = 0 ∧
    t.stands p .releaseHeld = false ∧
    ((s.phaser p).state = .tracking → (t.phaser p).overBand = none ∧ t.stands p .trackErr = false) ∧
    ((s.phaser p).state = .tracking ∨ (s.phaser p).state = .releasing → (t.loop p).atRest))

theorem departedTo_between {p : Phaser} {s s' t' t : State} (before : SeenAlike p s s') (h : departedTo p s' t')
    (after : SeenAlike p t' t) : departedTo p s t := by
  simpa only [departedTo, before.phaser, before.loop, before.channel, before.stands, after.phaser, after.loop,
    after.channel, after.stands] using h

/-- CAM_LOST faults no phaser that is STOPPED or PARKED, so a standing driver condition alone could (R119). -/
theorem standing_home {p : Phaser} {s : State} {st : PhaserState} (hst : st = .stopped ∨ st = .parked)
    (ho : s.stands p .drvOpen = false) (hs : s.stands p .drvShort = false) (hh : s.stands p .drvHot = false) :
    s.standing p st = CauseSet.empty := by
  have hcam : camFaults st = false := by rcases hst with rfl | rfl <;> rfl
  rw [standing_eq, ho, hs, hh, hcam, Bool.and_false]
  rfl

/-- A move to STOPPED or PARKED of a phaser on which no driver condition stands meets no fault. -/
theorem faultStanding_home {p : Phaser} {s : State} {st : PhaserState} (hst : st = .stopped ∨ st = .parked)
    (ho : s.stands p .drvOpen = false) (hs : s.stands p .drvShort = false) (hh : s.stands p .drvHot = false) :
    faultStanding p (moveTo p st none s) = moveTo p st none s := by
  have kept (e : PhCond) (he : e ≠ .trackErr) : (moveTo p st none s).stands p e = s.stands p e := by
    rw [moveTo_stands, if_neg fun h => he h.2]
  refine faultStanding_none ?_
  rw [(moveTo_phaser p st none s).1]
  exact standing_home hst (by rw [kept _ (by decide), ho]) (by rw [kept _ (by decide), hs]) (by rw [kept _ (by decide), hh])

/-- RELEASE_HELD is clear in a state that is not one of the three. -/
theorem updateHeld_clear {p : Phaser} {s : State} (h : ¬ s.waiting p) : (updateHeld p s).stands p .releaseHeld = false := by
  rw [updateHeld_stands, if_pos rfl, Bool.eq_false_iff, ne_eq, holds_iff]
  exact fun hc => h hc.2.2

theorem stopPhaser_kept {p : Phaser} {s : State}
    (h : (s.phaser p).state = .off ∨ (s.phaser p).state = .faulted ∨ (s.phaser p).state = .stopped) :
    stopPhaser p s = s := by
  unfold stopPhaser
  rw [overBandEvent_other (by rcases h with h | h | h <;> rw [h] <;> decide)]
  rcases h with h | h | h <;> simp only [h]

theorem stopPhaser_faultDue {p : Phaser} {s : State} (h : (s.phaser p).state = .tracking) (hf : (s.phaser p).faultDue = true) :
    stopPhaser p s = overBandEvent p s := by
  have hstate : ((overBandEvent p s).phaser p).state = .faulted := by rw [overBandEvent_state, if_pos ⟨h, hf⟩]
  simp only [stopPhaser, hstate]

theorem stopPhaser_moved {p : Phaser} {s : State} (hoff : (s.phaser p).state ≠ .off)
    (hfaulted : (s.phaser p).state ≠ .faulted) (hstopped : (s.phaser p).state ≠ .stopped)
    (hdue : ¬ ((s.phaser p).state = .tracking ∧ (s.phaser p).faultDue = true)) :
    stopPhaser p s = updateHeld p (enterStopped p (overBandEvent p s)) := by
  have hstate := (overBandEvent_kept hdue).1
  unfold stopPhaser
  dsimp only
  split
  · exact absurd (hstate.symm.trans ‹_›) hoff
  · exact absurd (hstate.symm.trans ‹_›) hfaulted
  · exact absurd (hstate.symm.trans ‹_›) hstopped
  · rfl

theorem departedTo_stopPhaser (p : Phaser) (s : State) : departedTo p s (stopPhaser p s) := by
  refine ⟨fun h => ?_, fun h hf => ?_, fun hoff hfaulted hstopped hf ho hs hh => ?_⟩
  · rw [stopPhaser_kept h]
    exact ⟨rfl, rfl, rfl⟩
  · rw [stopPhaser_faultDue h hf, faultTime_phaser h hf]
  · have hdue : ¬ ((s.phaser p).state = .tracking ∧ (s.phaser p).faultDue = true) := by
      rintro ⟨ht, hd⟩
      rw [hf ht] at hd
      cases hd
    obtain ⟨hstate, hstands⟩ := overBandEvent_kept hdue
    obtain ⟨hmoved, htimer⟩ := moveTo_phaser p .stopped none (overBandEvent p s)
    rw [stopPhaser_moved hoff hfaulted hstopped hdue, enterStopped,
      faultStanding_home (.inl rfl) (by rw [hstands _ (by decide), ho]) (by rw [hstands _ (by decide), hs])
        (by rw [hstands _ (by decide), hh])]
    refine ⟨(updateHeld_state p _).trans hmoved, ?_, ?_, updateHeld_clear ?_, fun ht => ⟨?_, ?_⟩, fun hd => ?_⟩
    · rw [updateHeld_phaser, htimer]
    · rw [updateHeld_channel, moveTo_commanded]
      rfl
    · rw [State.waiting, hmoved]
      simp
    · rw [updateHeld_phaser, moveTo_record, if_pos (hstate.trans ht)]
    · rw [updateHeld_stands, if_neg (by decide), moveTo_stands, if_pos ⟨hstate.trans ht, rfl⟩]
    · rw [updateHeld_loop]
      refine moveTo_atRest ?_ .stopped none
      rw [State.driven, hstate]
      exact hd.symm

/-- The four phasers stopped in one event, each by its own rule. -/
def stopAll (s : State) : State := stopPhaser .re (stopPhaser .ri (stopPhaser .fe (stopPhaser .fi s)))

theorem handleDeparture_owed {s : State} (h : s.ps.departed = true) :
    handleDeparture s = { stopAll s with ps := { (stopAll s).ps with departed := false } } := by
  unfold handleDeparture
  rw [if_pos h]
  rfl

theorem frame_stopAll (s : State) : SeqFrame s (stopAll s) :=
  (((local_stopPhaser .fi s).frame.trans (local_stopPhaser .fe _).frame).trans (local_stopPhaser .ri _).frame).trans
    (local_stopPhaser .re _).frame

theorem departedTo_stopAll (p : Phaser) (s : State) : departedTo p s (stopAll s) := by
  have others {q : Phaser} (h : p ≠ q) (t : State) : SeenAlike p t (stopPhaser q t) := (local_stopPhaser q t).seenAlike h
  cases p with
  | fi =>
    exact departedTo_between (.refl _ s) (departedTo_stopPhaser .fi s)
      (((others (by decide) _).trans (others (by decide) _)).trans (others (by decide) _))
  | fe =>
    exact departedTo_between (others (by decide) s) (departedTo_stopPhaser .fe _)
      ((others (by decide) _).trans (others (by decide) _))
  | ri =>
    exact departedTo_between ((others (by decide) s).trans (others (by decide) _)) (departedTo_stopPhaser .ri _)
      (others (by decide) _)
  | re =>
    exact departedTo_between (((others (by decide) s).trans (others (by decide) _)).trans (others (by decide) _))
      (departedTo_stopPhaser .re _) (.refl _ _)

/-- Settles O36, phaser by phaser. -/
theorem departureStopsEveryPhaser : Obligations.DepartureStopsEveryPhaser := by
  intro s
  have hexec : exec .syncDepartureHandling s = .next (handleDeparture s) := rfl
  rw [hexec]
  refine ⟨fun h => by rw [handleDeparture_none h], fun h => ⟨handleDeparture s, rfl, ?_⟩⟩
  have hf := frame_stopAll s
  have hphasers (p : Phaser) := departedTo_stopAll p s
  rw [handleDeparture_owed h]
  generalize stopAll s = t at hf hphasers ⊢
  exact ⟨⟨hf.rt, hf.tr, hf.ad, hf.ec, hf.fp, hf.counter, hf.msTicks, hf.pending, hf.cond, hf.params, h.symm, hf.dev,
    hf.frequency⟩, rfl, hphasers⟩

/-! ### The return timeout (R116, R119) -/

theorem timerDue_iff (s : State) (p : Phaser) (st : PhaserState) :
    s.timerDue p st = true ↔ (s.phaser p).state = st ∧ (s.phaser p).timer = some 0 := by
  rw [State.timerDue, Bool.and_eq_true, decide_eq_true_iff, runOut_iff]

/-- A timer event without its state and a run-out timer is not taken. -/
theorem timerIf_kept {s : State} {p : Phaser} {st : PhaserState} (f : State → State)
    (h : ¬ ((s.phaser p).state = st ∧ (s.phaser p).timer = some 0)) : (if s.timerDue p st then f s else s) = s :=
  if_neg fun hd => h ((timerDue_iff s p st).mp hd)

theorem timerIf_taken {s : State} {p : Phaser} {st : PhaserState} (f : State → State) (hs : (s.phaser p).state = st)
    (ht : (s.phaser p).timer = some 0) : (if s.timerDue p st then f s else s) = f s :=
  if_pos ((timerDue_iff s p st).mpr ⟨hs, ht⟩)

theorem endReturn_kept {s : State} {p : Phaser} (h : ¬ ((s.phaser p).state = .returning ∧ (s.phaser p).timer = some 0)) :
    endReturn p s = s :=
  timerIf_kept (fun s => updateHeld p (faultEntry p { CauseSet.empty with latchFail := true } s)) h

theorem endReturn_taken {s : State} {p : Phaser} (hs : (s.phaser p).state = .returning)
    (ht : (s.phaser p).timer = some 0) :
    endReturn p s = updateHeld p (faultEntry p { CauseSet.empty with latchFail := true } s) :=
  timerIf_taken (fun s => updateHeld p (faultEntry p { CauseSet.empty with latchFail := true } s)) hs ht

theorem endLatch_kept {s : State} {p : Phaser} (h : ¬ ((s.phaser p).state = .latching ∧ (s.phaser p).timer = some 0)) :
    endLatch p s = s :=
  timerIf_kept (fun s => updateHeld p (enterParked p s)) h

theorem endLatch_taken {s : State} {p : Phaser} (hs : (s.phaser p).state = .latching)
    (ht : (s.phaser p).timer = some 0) : endLatch p s = updateHeld p (enterParked p s) :=
  timerIf_taken (fun s => updateHeld p (enterParked p s)) hs ht

theorem endReturn_faults {s : State} {p : Phaser} (hs : (s.phaser p).state = .returning)
    (ht : (s.phaser p).timer = some 0) :
    let t := endReturn p s
    (t.phaser p).state = .faulted ∧ (t.phaser p).timer = none ∧ (t.channel p).commanded = 0 ∧
      (t.phaser p).causes = ⟨s.stands p .drvOpen, s.stands p .drvShort, s.stands p .drvHot, s.stands p .camLost,
        false, true⟩ ∧
      t.stands p .faulted = true ∧ t.stands p .releaseHeld = false ∧ t.loop p = s.loop p := by
  have hd : ¬ s.driven p := not_driven_of_resting (.inr hs)
  dsimp only
  rw [endReturn_taken hs ht]
  refine ⟨(faulted_state p _ s).1, (faulted_state p _ s).2, ?_, ?_, ?_, ?_, faulted_loop_undriven p _ s hd⟩
  · rw [faulted_channel]
  · rw [faulted_phaser, standing_eq, hs]
    simp [CauseSet.union, CauseSet.empty, camFaults]
  · rw [faulted_stands, if_pos rfl]
  · rw [faulted_stands, if_neg (by decide), if_pos (.inl rfl)]

/-! ### The latch interval (R110, R112, R113, R116) -/

section Latch
variable {s : State} {p : Phaser}

/-- A phaser that is parked with no driver condition standing meets its release check (R112). -/
theorem enterParked_home (ho : s.stands p .drvOpen = false) (hs : s.stands p .drvShort = false)
    (hh : s.stands p .drvHot = false) :
    enterParked p s =
      if s.numeric p && s.permission then enterReleasing p (moveTo p .parked none s) else moveTo p .parked none s := by
  have hf := (local_moveTo p .parked none s).frame
  obtain ⟨hstate, -⟩ := moveTo_phaser p .parked none s
  rw [enterParked, faultStanding_home (.inr rfl) ho hs hh, checkParked, hf.numeric, hf.permission]
  refine if_congr ?_ rfl rfl
  rw [Bool.and_eq_true]
  exact and_iff_right hstate

/-- CAM_LOST alone faults a phaser at its entry to RELEASING (R119). -/
theorem enterReleasing_camLost (ho : s.stands p .drvOpen = false) (hs : s.stands p .drvShort = false)
    (hh : s.stands p .drvHot = false) (hc : s.stands p .camLost = true) :
    enterReleasing p s =
      faultEntry p CauseSet.empty (moveTo p .releasing (some s.ps.params.releaseInterval) s) ∧
    ((enterReleasing p s).phaser p).causes = { CauseSet.empty with camLost := true } := by
  have hstate := (moveTo_phaser p .releasing (some s.ps.params.releaseInterval) s).1
  have kept (e : PhCond) (he : e ≠ .trackErr) :
      (moveTo p .releasing (some s.ps.params.releaseInterval) s).stands p e = s.stands p e := by
    rw [moveTo_stands, if_neg fun h => he h.2]
  have hstanding : (moveTo p .releasing (some s.ps.params.releaseInterval) s).standing p .releasing
      = { CauseSet.empty with camLost := true } := by
    rw [standing_eq, kept _ (by decide), kept _ (by decide), kept _ (by decide), kept _ (by decide), ho, hs, hh, hc]
    rfl
  have hentry : enterReleasing p s =
      faultEntry p CauseSet.empty (moveTo p .releasing (some s.ps.params.releaseInterval) s) := by
    unfold enterReleasing faultStanding
    simp only [hstate, hstanding]
    exact if_neg (by decide)
  refine ⟨hentry, ?_⟩
  rw [hentry, faultEntry_phaser, hstate, hstanding]
  rfl

end Latch

/-- Settles O34, timer by timer. -/
theorem returnAndLatchTimersEndTheWayHome : Obligations.ReturnAndLatchTimersEndTheWayHome := by
  refine ⟨fun p s => ⟨fun h => ?_, fun hs ht => ⟨endReturn p s, rfl, local_endReturn p s, endReturn_faults hs ht⟩⟩,
    fun p s => ⟨fun h => ?_, fun hs ht ho hsh hh => ⟨endLatch p s, rfl, local_endLatch p s, ?_⟩⟩⟩
  · exact congrArg Host.Outcome.next (endReturn_kept h)
  · exact congrArg Host.Outcome.next (endLatch_kept h)
  · have hf := (local_moveTo p .parked none s).frame
    obtain ⟨hstate, htimer⟩ := moveTo_phaser p .parked none s
    have kept (e : PhCond) (he : e ≠ .trackErr) : (moveTo p .parked none s).stands p e = s.stands p e := by
      rw [moveTo_stands, if_neg fun h => he h.2]
    rw [endLatch_taken hs ht, enterParked_home ho hsh hh]
    refine ⟨fun hgo => ?_, fun hgo hc => ?_, fun hgo hc => ?_⟩
    · rw [hgo, if_neg Bool.false_ne_true, updateHeld_phaser, hstate, htimer, updateHeld_channel, moveTo_commanded,
        updateHeld_waiting (.inl hstate), updateHeld_loop,
        moveTo_loop_undriven (by simp [State.driven, hs]), hf.numeric, hf.permission]
      refine ⟨rfl, rfl, rfl, ?_, rfl⟩
      cases hn : s.numeric p with
      | false => rfl
      | true => simpa [hn] using hgo
    · have hu : (moveTo p .parked none s).unfaulted p = true := by
        rw [moveTo_unfaulted, unfaulted_iff]
        exact ⟨hc, ho, hsh, hh⟩
      obtain ⟨hr, htimer', hduty⟩ := updateHeld_released (enterReleasing_released hu)
      have hparams := ((local_enterReleasing p (moveTo p .parked none s)).trans (local_updateHeld p _)).frame.params
      rw [hgo, if_pos rfl]
      rw [hparams, hf.params] at htimer' hduty
      exact ⟨hr, htimer', hduty⟩
    · obtain ⟨hentry, hcauses⟩ := enterReleasing_camLost (s := moveTo p .parked none s) (by rw [kept _ (by decide), ho])
        (by rw [kept _ (by decide), hsh]) (by rw [kept _ (by decide), hh]) (by rw [kept _ (by decide), hc])
      rw [hgo, if_pos rfl, updateHeld_phaser, updateHeld_channel]
      refine ⟨?_, ?_, hcauses⟩
      · rw [hentry, faultEntry_phaser]
        exact (moveTo_phaser p .faulted none _).1
      · rw [hentry, faultEntry_channel]

end Sys2Proof.Machine
end

section
/-! ## ENABLE_PHASER, CLEAR_FAULT and the release interval (R105, R108 to R123, R142, R154) -/

namespace Sys2Proof.Machine

open Sys2Proof

/-! ### A phaser stopped (R111, R119) -/

/-- A standing driver condition faults a phaser at its entry to STOPPED; none leaves it there. -/
theorem enterStopped_outcome (p : Phaser) (s : State) :
    let driver := s.stands p .drvOpen || s.stands p .drvShort || s.stands p .drvHot
    ((enterStopped p s).phaser p).state = (if driver then .faulted else .stopped) ∧
      ((enterStopped p s).phaser p).enable = (s.phaser p).enable ∧
      (enterStopped p s).channel p = { s.channel p with commanded := 0 } := by
  intro driver
  obtain ⟨hstate, -⟩ := moveTo_phaser p .stopped none s
  have henable (t : State) (st : PhaserState) : ((moveTo p st none t).phaser p).enable = (t.phaser p).enable := by
    rw [moveTo_record]
    split <;> rfl
  have hchannel : (moveTo p .stopped none s).channel p = { s.channel p with commanded := 0 } := moveTo_channel p .stopped none s
  cases hd : driver with
  | false =>
    simp only [driver, Bool.or_eq_false_iff] at hd
    rw [enterStopped, faultStanding_home (.inl rfl) hd.1.1 hd.1.2 hd.2]
    exact ⟨hstate, henable s _, hchannel⟩
  | true =>
    have kept (e : PhCond) (he : e ≠ .trackErr) : (moveTo p .stopped none s).stands p e = s.stands p e := by
      rw [moveTo_stands, if_neg fun h => he h.2]
    have hentry : enterStopped p s = faultEntry p CauseSet.empty (moveTo p .stopped none s) := by
      unfold enterStopped faultStanding
      simp only [hstate]
      refine if_neg fun he => ?_
      rw [standing_eq, kept _ (by decide), kept _ (by decide), kept _ (by decide)] at he
      simp only [CauseSet.empty, CauseSet.mk.injEq] at he
      obtain ⟨ho, hs, hh, -⟩ := he
      simp [driver, ho, hs, hh] at hd
    rw [hentry, faultEntry_phaser, faultEntry_channel, hchannel]
    exact ⟨(moveTo_phaser p .faulted none _).1, (henable _ _).trans (henable s _), rfl⟩

/-! ### Off and on (R122, R123, R159) -/

section Enable
variable {p : Phaser} {s : State}

/-- A TRACKING phaser switched off has no over-band time, no TRACK_ERR and an integrator of 0. -/
theorem disable_tracking (h : (s.phaser p).state = .tracking) :
    ((disable p s).phaser p).overBand = none ∧ (disable p s).stands p .trackErr = false ∧
      ((disable p s).loop p).integrator = 0 := by
  have hoff : (s.phaser p).state ≠ .off := by rw [h]; decide
  rw [disable_phaser hoff, disable_stands hoff, if_neg (by decide), disable_loop hoff, moveTo_record, moveTo_stands,
    moveTo_loop]
  by_cases hf : (s.phaser p).faultDue = true
  · have hx := faultTime_phaser h hf
    have hstate : ((overBandEvent p s).phaser p).state ≠ .tracking := by simp [hx]
    rw [if_neg hstate, if_neg fun hc => hstate hc.1, faultTime_stands h hf, faultTime_loop h hf, hx]
    exact ⟨rfl, rfl, by split <;> rfl⟩
  · obtain ⟨b, hx, hloop, -⟩ := overBandEvent_calm (p := p) (s := s) fun hc => hf hc.2
    have hstate : ((overBandEvent p s).phaser p).state = .tracking := by rw [hx, h]
    rw [if_pos hstate, if_pos ⟨hstate, rfl⟩, if_pos (.inl hstate)]
    exact ⟨rfl, rfl, rfl⟩

theorem disable_moves (h : (s.phaser p).state ≠ .off) :
    let t := disable p s
    (t.phaser p).state = .off ∧ (t.phaser p).enable = false ∧ (t.phaser p).timer = none ∧
      (t.phaser p).causes = CauseSet.empty ∧
      ((s.phaser p).state = .tracking → (t.phaser p).overBand = none ∧ t.stands p .trackErr = false ∧
        (t.loop p).integrator = 0) ∧
      t.stands p .faulted = false ∧ t.stands p .releaseHeld = false ∧
      t.channel p =
        { s.channel p with commanded := 0, suspended := true, ocCount := 0, openFail := 0, openPass := 0 } := by
  obtain ⟨hstate, htimer⟩ := moveTo_phaser p .off none (overBandEvent p s)
  refine ⟨?_, ?_, ?_, ?_, disable_tracking, ?_, ?_, disable_channel h⟩
  · rw [disable_phaser h, hstate]
  · rw [disable_phaser h]
  · rw [disable_phaser h, htimer]
  · rw [disable_phaser h]
  · rw [disable_stands h, if_pos (.inl rfl)]
  · rw [disable_stands h, if_pos (.inr rfl)]

theorem enable_other (h : (s.phaser p).state ≠ .off) : enable p s = s := if_neg h

theorem enable_outcome (h : (s.phaser p).state = .off) :
    let driver := s.stands p .drvOpen || s.stands p .drvShort || s.stands p .drvHot
    ((enable p s).phaser p).state = (if driver then .faulted else .stopped) ∧ ((enable p s).phaser p).enable = true ∧
      (enable p s).channel p = { s.channel p with commanded := 0, suspended := false } := by
  obtain ⟨hstate, henable, hchannel⟩ := enterStopped_outcome p
    ((s.setPhaser p { s.phaser p with enable := true }).setChannel p (s.channel p).resume)
  have hentry : enable p s = updateHeld p (enterStopped p
      ((s.setPhaser p { s.phaser p with enable := true }).setChannel p (s.channel p).resume)) := if_pos h
  rw [hentry, updateHeld_phaser, updateHeld_channel, hchannel]
  refine ⟨hstate, ?_, ?_⟩
  · rw [henable, setChannel_phaser_frame, setPhaser_phaser_self]
  · rw [setChannel_channel_self]
    rfl

/-- The answer of ENABLE_PHASER for a phaser and a setting that are read. -/
theorem ownEnable_read {b setting : Byte} {on : Bool} (hp : phaserOfByte b = some p) (hs : readFlag setting = some on) :
    ownEnable b setting s =
      (if on then enable p s else disable p s,
        ⟨.ok, [((if on then enable p s else disable p s).phaser p).state.byte]⟩) := by
  unfold ownEnable
  rw [hp, hs]
  rfl

end Enable

/-- Settles O31, setting by setting. -/
theorem enablePhaserMovesToOffAndBack : Obligations.EnablePhaserMovesToOffAndBack := by
  refine ⟨fun snd b setting s hb ht => ?_, ?_⟩
  · refine next_of_taken ht ?_
    unfold ownEnable
    rw [(phaserOfByte_none b).mpr hb]
    rfl
  intro snd p setting s b ht
  have hp : phaserOfByte b = some p := phaserOfByte_index p
  have hoff : readFlag 0#8 = some false := rfl
  have hon : readFlag 1#8 = some true := rfl
  refine ⟨fun hs => ?_, fun hs h => ?_, fun hs h => ?_, fun hs h => ?_, fun hs h => ?_⟩
  · refine next_of_taken ht ?_
    unfold ownEnable
    rw [hp, (readFlag_none setting).mpr hs]
    rfl
  · subst hs
    have hmoves := disable_moves h
    refine ⟨disable p s, next_of_taken ht ?_, local_disable p s, hmoves⟩
    rw [ownEnable_read hp hoff, if_neg Bool.false_ne_true, hmoves.1]
    rfl
  · subst hs
    refine next_of_taken ht ?_
    rw [ownEnable_read hp hoff, if_neg Bool.false_ne_true, disable_off h, h]
    rfl
  · subst hs
    refine next_of_taken ht ?_
    rw [ownEnable_read hp hon, if_pos rfl, enable_other h]
  · subst hs
    obtain ⟨hstate, henable, hchannel⟩ := enable_outcome h
    refine ⟨enable p s, next_of_taken ht ?_, local_enable p s, hstate, henable, hchannel⟩
    rw [ownEnable_read hp hon, if_pos rfl, hstate]
    split <;> rfl

end Sys2Proof.Machine
end

section
/-! ## CLEAR_FAULT, and the entry to TRACKING at the end of the release interval (R109, R113, R114, R121, R142) -/

namespace Sys2Proof.Machine

open Sys2Proof

/-! ### Moves, field by field (R104, R114) -/

/-- A move leaves the cause set, and every condition but TRACK_ERR. -/
theorem moveTo_causes (p : Phaser) (st : PhaserState) (timer : Option Nat) (s : State) :
    ((moveTo p st timer s).phaser p).causes = (s.phaser p).causes := by
  rw [moveTo_record]
  split <;> rfl

theorem moveTo_stands_kept (p : Phaser) (st : PhaserState) (timer : Option Nat) (s : State) {e : PhCond}
    (he : e ≠ .trackErr) : (moveTo p st timer s).stands p e = s.stands p e := by
  rw [moveTo_stands, if_neg fun h => he h.2]

/-- The record of a phaser that enters TRACKING, with no over-band time (R114). -/
theorem moveToTracking_record (p : Phaser) (s : State) :
    (moveToTracking p s).phaser p =
      { (moveTo p .tracking none s).phaser p with overBand := none, trackDue := false, faultDue := false } := by
  simp [moveToTracking]

theorem moveToTracking_stands (p : Phaser) (s : State) (e : PhCond) :
    (moveToTracking p s).stands p e = (moveTo p .tracking none s).stands p e := rfl

/-- The loop record and the duty of the entry (R142). -/
theorem moveToTracking_entry (p : Phaser) (s : State) :
    let entry := loopEntry ((moveTo p .tracking none s).loop p) (s.resolver p).amin (s.resolver p).amax (s.cam p).last
      (handedBattery s.ps.cond) s.counter
    (moveToTracking p s).loop p = entry.1 ∧ (moveToTracking p s).channel p = { s.channel p with commanded := entry.2 } := by
  have hf := (local_moveTo p .tracking none s).frame
  have hchannel := moveTo_channel p .tracking none s
  simp [moveToTracking, setCommanded_channel, hf.resolver, hf.cam, hf.cond, hf.counter, hchannel]

/-! ### CLEAR_FAULT (R116, R117, R120, R121, R154) -/

section Clear
variable {p : Phaser} {s : State}

/-- With DRV_SHORT cleared and no other condition blocking, nothing faults the phaser. -/
theorem faultCleared_unfaulted (h : s.blocked p = false) : (s.faultCleared p).unfaulted p = true := by
  simp only [State.blocked, Bool.or_eq_false_iff] at h
  obtain ⟨⟨hc, ho⟩, hh⟩ := h
  rw [unfaulted_iff]
  simp [faultCleared_stands, hc, ho, hh]

/-- What a clear that is taken leaves, whatever the sync state: no cause, no count, and neither FAULTED nor DRV_SHORT. -/
def clearedOf (p : Phaser) (t : State) : Prop :=
  (t.phaser p).causes = CauseSet.empty ∧ t.stands p .faulted = false ∧ t.stands p .drvShort = false ∧
    (t.channel p).ocCount = 0

theorem clearedOf_faultCleared (p : Phaser) (s : State) : clearedOf p (s.faultCleared p) := by
  refine ⟨?_, ?_, ?_, ?_⟩
  · rw [faultCleared_phaser]
  · rw [faultCleared_stands, if_pos (.inl rfl)]
  · rw [faultCleared_stands, if_pos (.inr rfl)]
  · rw [faultCleared_channel]

theorem clearedOf_moveTo (h : clearedOf p s) (st : PhaserState) (timer : Option Nat) : clearedOf p (moveTo p st timer s) := by
  unfold clearedOf
  rw [moveTo_causes, moveTo_stands_kept p st timer s (by decide), moveTo_stands_kept p st timer s (by decide),
    moveTo_channel]
  exact h

theorem clearedOf_moveToTracking (h : clearedOf p s) : clearedOf p (moveToTracking p s) := by
  obtain ⟨hcauses, hfaulted, hshort, -⟩ := clearedOf_moveTo h .tracking none
  unfold clearedOf
  rw [moveToTracking_record, moveToTracking_stands, moveToTracking_stands, (moveToTracking_entry p s).2]
  exact ⟨hcauses, hfaulted, hshort, h.2.2.2⟩

theorem clearedOf_updateHeld (h : clearedOf p s) : clearedOf p (updateHeld p s) := by
  have kept {e : PhCond} (he : e ≠ .releaseHeld) : (updateHeld p s).stands p e = s.stands p e := by
    rw [updateHeld_stands, if_neg he]
  unfold clearedOf
  rw [updateHeld_phaser, kept (by decide), kept (by decide), updateHeld_channel]
  exact h

/-- Outside CYCLE_SYNC a clear leads to STOPPED (R121). -/
theorem clearFaulted_stopped (hb : s.blocked p = false) (hs : s.ad.sync ≠ .cycleSync) :
    clearFaulted p s = updateHeld p (moveTo p .stopped none (s.faultCleared p)) := by
  rw [clearFaulted_eq, if_neg hs, enterStopped,
    faultStanding_unfaulted (by rw [moveTo_unfaulted, faultCleared_unfaulted hb])]

/-- In CYCLE_SYNC it leads to RETURNING, and on to TRACKING where R117 says so. -/
theorem clearFaulted_returning (hb : s.blocked p = false) (hs : s.ad.sync = .cycleSync) :
    clearFaulted p s = updateHeld p
      (if s.numeric p && s.permission then
        moveToTracking p (moveTo p .returning (some s.ps.params.returnTimeout) (s.faultCleared p))
       else moveTo p .returning (some s.ps.params.returnTimeout) (s.faultCleared p)) := by
  have hf := (local_faultCleared s p).frame
  rw [clearFaulted_eq, if_pos hs, enterReturning_unfaulted (faultCleared_unfaulted hb), hf.numeric, hf.permission,
    hf.params]
  exact congrArg (updateHeld p) (if_congr (Bool.and_eq_true _ _).symm.to_iff rfl rfl)

theorem clearFaulted_outcome (hb : s.blocked p = false) :
    clearedOf p (clearFaulted p s) ∧
    (s.ad.sync ≠ .cycleSync →
      ((clearFaulted p s).phaser p).state = .stopped ∧ ((clearFaulted p s).phaser p).timer = none) ∧
    (s.ad.sync = .cycleSync → (s.numeric p && s.permission) = false →
      ((clearFaulted p s).phaser p).state = .returning ∧
      ((clearFaulted p s).phaser p).timer = some s.ps.params.returnTimeout) ∧
    (s.ad.sync = .cycleSync → (s.numeric p && s.permission) = true →
      ((clearFaulted p s).phaser p).state = .tracking) := by
  have hcleared := clearedOf_faultCleared p s
  refine ⟨?_, fun hs => ?_, fun hs hgo => ?_, fun hs hgo => ?_⟩
  · by_cases hs : s.ad.sync = .cycleSync
    · rw [clearFaulted_returning hb hs]
      refine clearedOf_updateHeld ?_
      split
      · exact clearedOf_moveToTracking (clearedOf_moveTo hcleared _ _)
      · exact clearedOf_moveTo hcleared _ _
    · rw [clearFaulted_stopped hb hs]
      exact clearedOf_updateHeld (clearedOf_moveTo hcleared _ _)
  · rw [clearFaulted_stopped hb hs, updateHeld_phaser]
    exact moveTo_phaser p .stopped none _
  · rw [clearFaulted_returning hb hs, hgo, if_neg Bool.false_ne_true, updateHeld_phaser]
    exact moveTo_phaser p .returning _ _
  · rw [clearFaulted_returning hb hs, hgo, if_pos rfl, updateHeld_state]
    exact (moveToTracking_phaser p _).1

end Clear

/-- Settles O32, refusal by refusal. -/
theorem clearFaultAnswersByStateAndConditions : Obligations.ClearFaultAnswersByStateAndConditions := by
  refine ⟨fun snd b s hb ht => ?_, ?_⟩
  · refine next_of_taken ht ?_
    unfold ownClear
    rw [(phaserOfByte_none b).mpr hb]
    rfl
  intro snd p s b ht blocked
  have hp : phaserOfByte b = some p := phaserOfByte_index p
  refine ⟨fun hs => next_of_taken ht ?_, fun hs hb => next_of_taken ht ?_, fun hs hb => ?_⟩
  · simp only [ownClear, hp, if_neg hs]
    rfl
  · have hblocked : s.blocked p = true := hb
    simp only [ownClear, hp, if_pos hs, hblocked, if_true]
    rfl
  · have hblocked : s.blocked p = false := hb
    obtain ⟨⟨hcauses, hfaulted, hshort, hcount⟩, hstates⟩ := clearFaulted_outcome hblocked
    refine ⟨clearFaulted p s, next_of_taken ht ?_, local_clearFaulted p s, hcauses, hfaulted, hshort, hcount, hstates⟩
    simp only [ownClear, hp, if_pos hs, hblocked]
    by_cases hc : s.ad.sync = .cycleSync
    · simp only [if_pos hc]
      rfl
    · simp only [if_neg hc]
      rfl

/-! ### The release interval (R108, R109, R113, R114, R119, R139, R140, R142) -/

/-- The battery voltage of the compensation: the report's while it is fresh, within 8,000 to 18,000 mV (R105, R107, R140). -/
theorem clampNat_battery (c : EngineCond) :
    clampNat 8000 18000 (handedBattery c) = if c.fresh then min 18000 (max 8000 c.battery) else 13500 := by
  rw [clampNat_eq_max_min (by decide), handedBattery]
  split
  · omega
  · rfl

/-- The compensated duty, with the rounding written out (R130, R140). -/
theorem compensate_handed (u : Nat) (c : EngineCond) {v : Nat}
    (hv : v = if c.fresh then min 18000 (max 8000 c.battery) else 13500) :
    compensate u (handedBattery c) = min 10000 ((2 * (u * 13500) + v) / (2 * v)) := by
  rw [compensate, clampNat_battery, ← hv, roundDiv_toNat]

/-- The output of a sum that is not negative (R139). -/
theorem loopOutput_nat (q : LoopParams) (n : Nat) :
    loopOutput q n = (if q.dmax ≤ n then q.dmax else if n ≤ q.dmin then q.dmin else n,
      if q.dmax ≤ n then .upper else if n ≤ q.dmin then .lower else .none) := by
  simp only [loopOutput, Int.ofNat_le]
  split
  · rfl
  · split <;> rfl

section Release
variable {p : Phaser} {s : State}

theorem endRelease_kept (h : ¬ ((s.phaser p).state = .releasing ∧ (s.phaser p).timer = some 0)) : endRelease p s = s :=
  timerIf_kept (fun s => evaluateNow p (enterTracking p s)) h

theorem endRelease_taken (hs : (s.phaser p).state = .releasing) (ht : (s.phaser p).timer = some 0) :
    endRelease p s = evaluateNow p (enterTracking p s) :=
  timerIf_taken (fun s => evaluateNow p (enterTracking p s)) hs ht

theorem moveToTracking_driven (p : Phaser) (s : State) : (moveToTracking p s).driven p :=
  .inr (moveToTracking_phaser p s).1

/-- Without withdrawal the entry stands. -/
theorem endRelease_tracks (hs : (s.phaser p).state = .releasing) (ht : (s.phaser p).timer = some 0)
    (hu : s.unfaulted p = true) (hw : s.withdrawn = false) : endRelease p s = updateHeld p (moveToTracking p s) := by
  rw [endRelease_taken hs ht, enterTracking_unfaulted hu, evaluateNow_keeps (moveToTracking_driven p s)]
  rw [(local_moveToTracking p s).frame.withdrawn, hw]

/-- With it, the entry sends the phaser home. -/
theorem endRelease_home (hs : (s.phaser p).state = .releasing) (ht : (s.phaser p).timer = some 0)
    (hu : s.unfaulted p = true) (hw : s.withdrawn = true) :
    endRelease p s =
      updateHeld p (moveTo p .returning (some s.ps.params.returnTimeout) (moveToTracking p s)) := by
  have hf := (local_moveToTracking p s).frame
  have hwithdrawn : (moveToTracking p s).withdrawn = true := by rw [hf.withdrawn, hw]
  rw [endRelease_taken hs ht, enterTracking_unfaulted hu, evaluateNow_driven (moveToTracking_driven p s),
    if_pos hwithdrawn, enterReturning_withdrawn (by rw [moveToTracking_unfaulted, hu]) hwithdrawn, hf.params]

theorem standing_tracking (p : Phaser) (s : State) :
    (moveToTracking p s).standing p .tracking =
      ⟨s.stands p .drvOpen, s.stands p .drvShort, s.stands p .drvHot, s.stands p .camLost, false, false⟩ := by
  have kept {e : PhCond} (he : e ≠ .trackErr) : (moveToTracking p s).stands p e = s.stands p e :=
    moveTo_stands_kept p .tracking none s he
  rw [standing_eq, kept (by decide), kept (by decide), kept (by decide), kept (by decide)]
  simp [camFaults]

/-- With a condition standing that faults it, the phaser is FAULTED at the entry. -/
theorem endRelease_faults (hs : (s.phaser p).state = .releasing) (ht : (s.phaser p).timer = some 0)
    (hu : s.unfaulted p = false) :
    endRelease p s = updateHeld p (faultEntry p CauseSet.empty (moveToTracking p s)) := by
  have hstate := (moveToTracking_phaser p s).1
  have hentry : enterTracking p s = faultEntry p CauseSet.empty (moveToTracking p s) := by
    unfold enterTracking faultStanding
    simp only [hstate, standing_tracking]
    refine if_neg fun he => ?_
    simp only [CauseSet.empty, CauseSet.mk.injEq] at he
    obtain ⟨ho, hsh, hh, hc, -⟩ := he
    rw [(unfaulted_iff s p).mpr ⟨hc, ho, hsh, hh⟩] at hu
    cases hu
  have hfaulted : ((faultEntry p CauseSet.empty (moveToTracking p s)).phaser p).state = .faulted := by
    rw [faultEntry_phaser]
    exact (moveTo_phaser p .faulted none _).1
  rw [endRelease_taken hs ht, hentry, evaluateNow_idle (.inr (.inl hfaulted))]

/-- The record of a phaser that leaves TRACKING, or has just entered it, has no over-band time. -/
theorem moveTo_entered (p : Phaser) (st : PhaserState) (timer : Option Nat) (s : State) :
    let x := (moveTo p st timer (moveToTracking p s)).phaser p
    x.overBand = none ∧ x.trackDue = false ∧ x.faultDue = false := by
  dsimp only
  rw [moveTo_record, if_pos (moveToTracking_phaser p s).1]
  exact ⟨rfl, rfl, rfl⟩

theorem endRelease_overBand (hs : (s.phaser p).state = .releasing) (ht : (s.phaser p).timer = some 0) :
    let x := (endRelease p s).phaser p
    x.overBand = none ∧ x.trackDue = false ∧ x.faultDue = false := by
  dsimp only
  cases hu : s.unfaulted p with
  | false =>
    rw [endRelease_faults hs ht hu, faulted_phaser]
    exact moveTo_entered p .faulted none s
  | true =>
    cases hw : s.withdrawn with
    | false =>
      rw [endRelease_tracks hs ht hu hw, updateHeld_phaser, moveToTracking_record]
      exact ⟨rfl, rfl, rfl⟩
    | true =>
      rw [endRelease_home hs ht hu hw, updateHeld_phaser]
      exact moveTo_entered p .returning _ s

end Release

/-- Settles O33, by the conditions that stand and by withdrawal. -/
theorem releaseIntervalExpiryEntersTracking : Obligations.ReleaseIntervalExpiryEntersTracking := by
  intro p s
  refine ⟨fun h => congrArg Host.Outcome.next (endRelease_kept h), fun hs ht => ⟨endRelease p s, ?_⟩⟩
  intro q v u
  obtain ⟨hover, htrack, hfault⟩ := endRelease_overBand hs ht
  refine ⟨rfl, local_endRelease p s, hover, htrack, hfault, fun hu hw => ?_, fun hu hw => ?_, fun hu => ?_⟩
  · obtain ⟨hstate, htimer, -⟩ := moveToTracking_phaser p s
    obtain ⟨hloop, hchannel⟩ := moveToTracking_entry p s
    have hmoved : (moveTo p .tracking none s).loop p = (s.loop p).departed := by rw [moveTo_loop, if_pos (.inr hs)]
    rw [hmoved] at hloop hchannel
    rw [endRelease_tracks hs ht hu hw, updateHeld_phaser, updateHeld_loop, updateHeld_channel, hloop, hchannel]
    simp only [loopEntry, Loop.departed, loopOutput_nat]
    exact ⟨hstate, htimer, rfl, compensate_handed u s.ps.cond rfl⟩
  · have hf := (local_moveToTracking p s).frame
    have hhome := moveTo_sentHome p (moveToTracking p s)
    rw [endRelease_home hs ht hu hw]
    rw [hf.params] at hhome
    refine ⟨updateHeld_sentHome hhome, 
      moveTo_atRest (moveToTracking_driven p s) .returning (some s.ps.params.returnTimeout), ?_⟩
    have hw' := (local_moveTo p .returning (some s.ps.params.returnTimeout) (moveToTracking p s)).frame
    rw [updateHeld_waiting (.inr (.inl hhome.1)), hw'.numeric, hw'.permission, hf.numeric, hf.permission,
      withdrawn_permission hw, Bool.not_false, Bool.and_true]
  · have hstate := (moveToTracking_phaser p s).1
    rw [endRelease_faults hs ht hu]
    refine ⟨(faulted_state p _ _).1, (faulted_state p _ _).2, ?_, ?_, ?_, faulted_atRest p _ _ (moveToTracking_driven p s)⟩
    · rw [faulted_channel]
    · rw [faulted_phaser, hstate, standing_tracking]
      rfl
    · rw [faulted_stands, if_pos rfl]

end Sys2Proof.Machine
end

section
/-! ## The control step (R115, R132 to R141) -/

namespace Sys2Proof.Machine

open Sys2Proof

/-! ### The stages, with their rounding and clamps written out (R130, R135 to R139) -/

theorem loopError_eq (r phase : Int) : loopError r phase = max (-32768) (min 32767 (r - phase)) :=
  clampInt_eq_max_min (by decide) _

theorem proportional_eq (kp : Nat) (e : Int) :
    proportional kp e = max (-10000) (min 10000 ((2 * (kp * e) + 256) / 512)) :=
  clampInt_eq_max_min (by decide) _

/-- The integrator is held where the sum before it has reached a limit that the error pushes on (R138). -/
theorem integrate_eq (q : LoopParams) (pterm e inc i : Int) :
    integrate q pterm e inc i =
      if (q.dmax ≤ q.nd + pterm + (2 * i + 256) / 512 ∧ 0 < e) ∨ (q.nd + pterm + (2 * i + 256) / 512 ≤ q.dmin ∧ e < 0)
      then i else clampInt (-(q.ilim * 256)) (q.ilim * 256) (i + inc) := by
  have hround : roundDiv i 256 = (2 * i + 256) / 512 := rfl
  simp only [integrate, hround, ite_or, Nat.cast_mul, Nat.cast_ofNat]

/-! ### The track supervision after a step (R115) -/

section Supervise
variable (p : Phaser) (error : Int) (s : State)

theorem supervise_loop : (supervise p error s).loop p = s.loop p := by
  unfold supervise
  split <;> rfl

theorem supervise_channel : (supervise p error s).channel p = s.channel p := by
  unfold supervise
  split <;> rfl

theorem supervise_state : ((supervise p error s).phaser p).state = (s.phaser p).state := by
  unfold supervise
  split
  · rw [setPhaser_phaser_self]
  · rw [drive_phaser_frame, setPhaser_phaser_self]

variable {p error s}

/-- Above the track band the over-band time runs, and no condition moves. -/
theorem supervise_over (h : s.ps.params.trackBand < error.natAbs) :
    ((supervise p error s).phaser p).overBand = some ((s.phaser p).overBand.getD 0) ∧ (supervise p error s).cm = s.cm := by
  rw [supervise, if_pos h, setPhaser_phaser_self]
  exact ⟨rfl, rfl⟩

/-- Within it the time ends and TRACK_ERR is cleared. -/
theorem supervise_within (h : error.natAbs ≤ s.ps.params.trackBand) :
    ((supervise p error s).phaser p).overBand = none ∧ (supervise p error s).stands p .trackErr = false := by
  rw [supervise, if_neg (Nat.not_lt.mpr h), drive_phaser_frame, setPhaser_phaser_self, drive_stands, if_pos ⟨rfl, rfl⟩]
  exact ⟨rfl, rfl⟩

end Supervise

/-! ### The oldest delivery taken (R132) -/

section Delivered
variable {p : Phaser} {s : State}

theorem takeDelivered_none (h : (s.loop p).delivered = []) : takeDelivered p s = s := if_pos h

/-- A delivery is stepped on after the over-band events, where the phaser has kept it. -/
theorem takeDelivered_kept {phase : Int} {rest : List Int} (h : (s.loop p).delivered = phase :: rest)
    (hkept : (overBandEvent p s).loop p = s.loop p) :
    takeDelivered p s =
      stepOn p phase ((overBandEvent p s).setLoop p { s.loop p with delivered := rest }) := by
  rw [takeDelivered, if_neg (by rw [h]; simp), takeOldest, hkept, h]

/-- At the fault time the departure of the loop has discarded every delivery (R118, R141). -/
theorem takeDelivered_faultTime (ht : (s.phaser p).state = .tracking) (hf : (s.phaser p).faultDue = true)
    (h : (s.loop p).delivered ≠ []) : takeDelivered p s = overBandEvent p s := by
  rw [takeDelivered, if_neg h, takeOldest, faultTime_loop ht hf]
  rfl

theorem stepOn_target {phase target : Int} (ht : (s.phaser p).state = .tracking)
    (ha : (s.resolver p).record.target = .au target) : stepOn p phase s = controlTo p target phase s := by
  simp only [stepOn, ht, ha]

theorem stepOn_park {phase : Int} (ha : (s.resolver p).record.target = .park) : stepOn p phase s = s := by
  unfold stepOn
  split
  · rename_i h
    rw [ha] at h
    cases h
  · rfl

/-- The state in which the oldest delivery of a TRACKING phaser is stepped on. -/
def State.stepping (s : State) (p : Phaser) (rest : List Int) : State :=
  (declareTrackErr p s).setLoop p { s.loop p with delivered := rest }

theorem stepping_phaser (rest : List Int) :
    (s.stepping p rest).phaser p = { s.phaser p with trackDue := false } := declareTrackErr_phaser p s

theorem stepping_channel (rest : List Int) : (s.stepping p rest).channel p = s.channel p :=
  declareTrackErr_channel p p s

theorem stepping_loop (rest : List Int) :
    (s.stepping p rest).loop p = { s.loop p with delivered := rest } := setLoop_loop_self _ p _

theorem local_stepping (p : Phaser) (rest : List Int) (s : State) : SeqLocal p s (s.stepping p rest) :=
  (local_declareTrackErr p s).trans (local_setLoop p _ _)

/-- What a step writes, and its inputs (R133 to R141). -/
theorem takeDelivered_steps {phase target : Int} {rest : List Int} (ht : (s.phaser p).state = .tracking)
    (hf : (s.phaser p).faultDue = false) (ha : (s.resolver p).record.target = .au target)
    (h : (s.loop p).delivered = phase :: rest) :
    let step := loopStep { s.loop p with delivered := rest } target (stepSlew (s.resolver p) s.rt.slots)
      (handedBattery s.ps.cond) s.counter phase
    takeDelivered p s = supervise p (step.1.ramp - phase) (((s.stepping p rest).setLoop p step.1).setCommanded p step.2) := by
  have hframe := (local_stepping p rest s).frame
  have hstate : ((s.stepping p rest).phaser p).state = .tracking := by rw [stepping_phaser, ht]
  have hover := overBandEvent_track ht hf
  have hstep : takeDelivered p s = stepOn p phase (s.stepping p rest) := by
    rw [takeDelivered_kept h (by rw [hover, declareTrackErr_loop]), hover]
    rfl
  dsimp only
  rw [hstep, stepOn_target hstate (by rw [hframe.resolver, ha]), controlTo, stepping_loop, hframe.resolver, hframe.rt,
    hframe.cond, hframe.counter]

theorem stepping_cm (rest : List Int) (h : (s.phaser p).trackDue = false) : (s.stepping p rest).cm = s.cm := by
  rw [State.stepping, declareTrackErr_none h]
  rfl

theorem stepping_trackErr (rest : List Int) (h : (s.phaser p).trackDue = true) :
    (s.stepping p rest).stands p .trackErr = true := by
  rw [State.stepping, setLoop_stands, declareTrackErr_stands, if_pos ⟨h, rfl⟩]

/-- The loop record, the duty and the track supervision after a step. -/
theorem takeDelivered_rows {phase target : Int} {rest : List Int} (ht : (s.phaser p).state = .tracking)
    (hf : (s.phaser p).faultDue = false) (ha : (s.resolver p).record.target = .au target)
    (h : (s.loop p).delivered = phase :: rest) :
    let step := loopStep { s.loop p with delivered := rest } target (stepSlew (s.resolver p) s.rt.slots)
      (handedBattery s.ps.cond) s.counter phase
    let t := takeDelivered p s
    t.loop p = step.1 ∧ t.channel p = { s.channel p with commanded := step.2 } ∧ (t.phaser p).state = .tracking ∧
    (s.ps.params.trackBand < (step.1.ramp - phase).natAbs →
      (t.phaser p).overBand = some ((s.phaser p).overBand.getD 0) ∧
      ((s.phaser p).trackDue = false → t.cm = s.cm) ∧
      ((s.phaser p).trackDue = true → t.stands p .trackErr = true)) ∧
    ((step.1.ramp - phase).natAbs ≤ s.ps.params.trackBand →
      (t.phaser p).overBand = none ∧ t.stands p .trackErr = false) := by
  have hstep := takeDelivered_steps ht hf ha h
  dsimp only at hstep ⊢
  rw [hstep]
  generalize loopStep _ target _ _ s.counter phase = step
  have hparams : (((s.stepping p rest).setLoop p step.1).setCommanded p step.2).ps.params = s.ps.params :=
    (local_stepping p rest s).frame.params
  have hphaser : (((s.stepping p rest).setLoop p step.1).setCommanded p step.2).phaser p =
      { s.phaser p with trackDue := false } := stepping_phaser rest
  refine ⟨?_, ?_, ?_, fun hband => ?_, fun hband => ?_⟩
  · rw [supervise_loop, setCommanded_loop_frame, setLoop_loop_self]
  · rw [supervise_channel, setCommanded_channel, if_pos rfl, setLoop_channel_frame, stepping_channel]
  · rw [supervise_state, hphaser, ht]
  · obtain ⟨hover, hcm⟩ := supervise_over (p := p) (hparams ▸ hband)
    rw [hover, hphaser]
    refine ⟨rfl, fun hd => ?_, fun hd => ?_⟩
    · rw [hcm]
      exact stepping_cm rest hd
    · rw [stands_congr hcm]
      exact stepping_trackErr rest hd
  · exact supervise_within (hparams ▸ hband)

end Delivered

/-- Settles O38, stage by stage. -/
theorem controlStepComputesTheDuty : Obligations.ControlStepComputesTheDuty := by
  refine ⟨fun p phase target rest s ht hf ha h => ?_,
    fun p s => ⟨fun h => ?_, fun h ht hf => ?_, fun phase rest h => ⟨fun ht => ?_, fun ht ha hf => ?_⟩⟩⟩
  · obtain ⟨hloop, hchannel, hstate, hover, hwithin⟩ := takeDelivered_rows ht hf ha h
    let q := (s.loop p).params
    let E := elapsed (s.loop p).stepAge (s.loop p).lastStep s.counter
    let r := rampStep (s.loop p).ramp target (stepSlew (s.resolver p) s.rt.slots) E
    let err := loopError r phase
    let pterm := proportional q.kp err
    let inc := increment q.ki err E
    let i := integrate q pterm err inc (s.loop p).integrator
    let sum := q.nd + pterm + roundDiv i 256
    let out := loopOutput q sum
    refine ⟨takeDelivered p s, r, err, pterm, inc, i, sum, out.1, out.2, rfl, local_takeDelivered p s, rfl, loopError_eq r phase,
      proportional_eq q.kp err, rfl, integrate_eq q pterm err inc _, rfl, rfl, hloop, ?_, hstate, hover, hwithin⟩
    rw [hchannel, ← compensate_handed out.1 s.ps.cond rfl]
    rfl
  · exact congrArg Host.Outcome.next (takeDelivered_none h)
  · have hx := faultTime_phaser ht hf
    refine ⟨overBandEvent p s, congrArg Host.Outcome.next (takeDelivered_faultTime ht hf h), local_overBandEvent p s, ?_⟩
    rw [hx, faultTime_channel ht hf, faultTime_loop ht hf]
    exact ⟨rfl, rfl, rfl, rfl⟩
  · have hover := overBandEvent_other ht
    refine congrArg Host.Outcome.next ?_
    rw [takeDelivered_kept h (by rw [hover]), hover, stepOn_other]
    exact ht
  · intro u
    have hover := overBandEvent_track ht hf
    refine congrArg Host.Outcome.next ?_
    rw [takeDelivered_kept h (by rw [hover, declareTrackErr_loop]), hover, stepOn_park]
    · rfl
    · rw [setLoop_resolver_frame, (local_declareTrackErr p s).frame.resolver, ha]

end Sys2Proof.Machine
end

section
/-! ## The record of engine conditions and the evaluations it causes (R106 to R110) -/

namespace Sys2Proof.Machine

open Sys2Proof

/-! ### Permission and withdrawal, check by check (R107 to R109) -/

theorem permission_iff (s : State) :
    s.permission = true ↔ s.ad.sync = .cycleSync ∧ s.ps.cond.fresh = true ∧ s.ps.cond.oilOk = true ∧
      s.ps.params.releaseTemp ≤ s.ps.cond.temperature ∧ s.ps.params.releaseSpeed ≤ s.ad.speed := by
  simp only [State.permission, State.failing, State.oilCounts, HeldCauses.empty, decide_eq_true_iff, HeldCauses.mk.injEq,
    Bool.not_eq_false', Bool.and_eq_true, decide_eq_false_iff_not, not_lt]
  tauto

theorem withdrawn_iff (s : State) :
    s.withdrawn = true ↔ s.ps.cond.fresh = false ∨ s.ps.cond.oilOk = false ∨
      (s.ad.speed : Int) < s.ps.params.releaseSpeed - s.ps.params.hysteresis := by
  have hspeed : s.ad.speed + s.ps.params.hysteresis < s.ps.params.releaseSpeed ↔
      (s.ad.speed : Int) < s.ps.params.releaseSpeed - s.ps.params.hysteresis := by omega
  simp only [State.withdrawn, State.oilCounts, Bool.or_eq_true, Bool.not_eq_true', Bool.and_eq_false_iff,
    decide_eq_true_iff, hspeed]
  tauto

/-! ### The record replaced (R106, R107) -/

/-- The record of conditions replaced, with COND_STALE driven, before the evaluation it causes. -/
def State.conditioned (s : State) (c : EngineCond) (stale : Bool) : State :=
  { s with ps := { s.ps with cond := c } }.driveDev .condStale stale

section Conditioned
variable (s : State) (c : EngineCond) (stale : Bool)

theorem conditioned_seenAlike (p : Phaser) : SeenAlike p s (s.conditioned c stale) :=
  .of_blocks p rfl rfl rfl rfl rfl

/-- What the evaluation that follows leaves of the record, of DEV and of the other blocks, and what it does with the phasers. -/
theorem evaluateAll_conditioned :
    let t := evaluateAll (s.conditioned c stale)
    t.ps.cond = c ∧ t.cm.dev = { s.cm.dev with condStale := s.cm.dev.condStale.drive stale } ∧
      t.ps.params = s.ps.params ∧ t.rt = s.rt ∧ t.tr = s.tr ∧ t.ad = s.ad ∧ t.ec = s.ec ∧ t.fp = s.fp ∧
      ∀ p, evaluated p s t := by
  have hf := frame_evaluateAll (s.conditioned c stale)
  exact ⟨hf.cond, hf.dev, hf.params, hf.rt, hf.tr, hf.ad, hf.ec, hf.fp,
    fun p => evaluated_before (conditioned_seenAlike s c stale p) (evaluated_evaluateAll p _)⟩

end Conditioned

/-- The record that a report leaves (R106). -/
def reported (ok : Bool) (temperature : Int) (battery freshness : Nat) : EngineCond :=
  ⟨ok, clampInt (-40) 150 temperature, clampNat 6000 20000 battery, true, some freshness⟩

theorem takeReport_eq (ok : Bool) (temperature : Int) (battery : Nat) (s : State) :
    takeReport ok temperature battery s =
      evaluateAll (s.conditioned (reported ok temperature battery s.ps.params.freshnessTime) false) := rfl

theorem goStale_kept {s : State} (h : s.ps.cond.timer ≠ some 0) : goStale s = s :=
  if_neg fun hr => h ((runOut_iff _).mp hr)

theorem goStale_taken {s : State} (h : s.ps.cond.timer = some 0) :
    goStale s = evaluateAll (s.conditioned { s.ps.cond with fresh := false, timer := none } true) :=
  if_pos ((runOut_iff _).mpr h)

/-- A report that is read is answered with the three stored values (R106, 10.8). -/
theorem ownReport_read {oil : Byte} (h : oil.toNat ≤ 1) (temperature battery : Half) (s : State) :
    ownReport oil temperature battery s =
      (takeReport (oil == 1#8) temperature.toInt battery.toNat s,
        ⟨.ok, oil :: halfBytes (BitVec.ofInt 16 (max (-40) (min 150 temperature.toInt))) ++
          halfBytes (BitVec.ofNat 16 (max 6000 (min 20000 battery.toNat)))⟩) := by
  obtain ⟨hcond, -⟩ := evaluateAll_conditioned s
    (reported (oil == 1#8) temperature.toInt battery.toNat s.ps.params.freshnessTime) false
  have hpayload : reportPayload (takeReport (oil == 1#8) temperature.toInt battery.toNat s) =
      oil :: halfBytes (BitVec.ofInt 16 (max (-40) (min 150 temperature.toInt))) ++
        halfBytes (BitVec.ofNat 16 (max 6000 (min 20000 battery.toNat))) := by
    rw [reportPayload, takeReport_eq, hcond]
    simp only [reported, flagByte_of_le_one h]
    rw [clampInt_eq_max_min (by decide), clampNat_eq_max_min (by decide)]
  simp only [ownReport, readFlag_of_le_one h, hpayload]
  rfl

/-- Settles O30, by the two causes of an evaluation that replace the record. -/
theorem reportAndFreshnessDriveTheEngineRecord : Obligations.ReportAndFreshnessDriveTheEngineRecord := by
  refine ⟨fun s => ⟨permission_iff s, withdrawn_iff s⟩, fun s => ⟨frame_evaluateAll s, fun p => evaluated_evaluateAll p s⟩,
    fun snd oil temperature battery s ht => ⟨fun h => next_of_taken ht ?_, fun h => ?_⟩,
    fun s => ⟨fun h => congrArg Host.Outcome.next (goStale_kept h), fun h => ?_⟩⟩
  · simp only [ownReport, (readFlag_none oil).mpr h]
    rfl
  · obtain ⟨hcond, hrest⟩ := evaluateAll_conditioned s
      (reported (oil == 1#8) temperature.toInt battery.toNat s.ps.params.freshnessTime) false
    refine ⟨_, next_of_taken ht (ownReport_read h temperature battery s), ?_, hrest⟩
    rw [takeReport_eq, hcond, reported, clampInt_eq_max_min (by decide), clampNat_eq_max_min (by decide)]
  · obtain ⟨hcond, hdev, hparams, hrt, htr, had, hec, hfp, hphasers⟩ :=
      evaluateAll_conditioned s { s.ps.cond with fresh := false, timer := none } true
    refine ⟨_, congrArg Host.Outcome.next (goStale_taken h), hcond, hdev, hparams, hrt, htr, had, hec, hfp, ?_, ?_, hphasers⟩
    · rw [Bool.eq_false_iff, ne_eq, permission_iff, hcond]
      rintro ⟨-, hfresh, -⟩
      cases hfresh
    · rw [withdrawn_iff, hcond]
      exact .inl rfl

end Sys2Proof.Machine
end

section
/-! ## The parameters of the Sequencer, the Loop Unit and the Valve Drivers with a row of their own (R126, R144, R145, R150) -/

namespace Sys2Proof.Machine

open Sys2Proof

/-- A taken write that is stored is answered with the value that reads back. -/
theorem next_of_stored {i : Instr} {snd : Sender} {q : Param} {write : State → Except Status State} {s t : State}
    {x : ValueField} (ht : taken i snd s) (hw : write s = .ok t) (hr : readParam q t = x) :
    (Host.Outcome.next (takeCommand i .setParam snd (ownWrite q write) s) : Result) =
      .next (t.respond .setParam snd ⟨.ok, q.ident :: x.bytes⟩) := by
  rw [← hr]
  exact next_of_taken ht (ownWrite_stored hw)

/-! ### The release duty (R126) -/

/-- The release duty handed to every RELEASING phaser. -/
def State.dutyHanded (s : State) : State := Phaser.list.foldl handRelease s

theorem handRelease_channel (s : State) (p q : Phaser) :
    (handRelease s q).channel p =
      if p = q ∧ (s.phaser p).state = .releasing then { s.channel p with commanded := s.ps.params.releaseDuty }
      else s.channel p := by
  unfold handRelease
  by_cases hr : (s.phaser q).state = .releasing
  · rw [if_pos hr]
    by_cases hp : p = q
    · subst hp
      rw [setCommanded_channel, if_pos rfl, if_pos ⟨rfl, hr⟩]
    · rw [if_neg fun hc => hp hc.1, (local_setCommanded q _ s).channel p hp]
  · rw [if_neg hr, if_neg]
    rintro ⟨rfl, hc⟩
    exact hr hc

theorem handRelease_frame (s : State) (q : Phaser) :
    (handRelease s q).ps = s.ps ∧ (handRelease s q).cm = s.cm ∧ (handRelease s q).lu = s.lu := by
  unfold handRelease
  split <;> exact ⟨rfl, rfl, rfl⟩

theorem dutyHanded_frame (s : State) : s.dutyHanded.ps = s.ps ∧ s.dutyHanded.cm = s.cm ∧ s.dutyHanded.lu = s.lu :=
  List.foldlRecOn (motive := fun t : State => t.ps = s.ps ∧ t.cm = s.cm ∧ t.lu = s.lu) _ _ ⟨rfl, rfl, rfl⟩
    fun t ⟨hps, hcm, hlu⟩ q _ => by
      obtain ⟨hps', hcm', hlu'⟩ := handRelease_frame t q
      exact ⟨hps'.trans hps, hcm'.trans hcm, hlu'.trans hlu⟩

theorem dutyHanded_channel (s : State) (p : Phaser) :
    s.dutyHanded.channel p =
      if (s.phaser p).state = .releasing then { s.channel p with commanded := s.ps.params.releaseDuty }
      else s.channel p := by
  have hps (t : State) (q : Phaser) : (handRelease t q).ps = t.ps := (handRelease_frame t q).1
  have hphaser (t : State) (q : Phaser) : (handRelease t q).phaser p = t.phaser p := by rw [State.phaser, hps]; rfl
  change (handRelease (handRelease (handRelease (handRelease s .fi) .fe) .ri) .re).channel p = _
  cases p <;> simp [handRelease_channel, hps, hphaser]

/-! ### The thresholds and the times (R108, R126) -/

/-- A release threshold as it is stored. -/
theorem storeThreshold_eq (w : ThresholdParam) (v : Half) (q : SeqParams) :
    storeThreshold w v q =
      match w with
      | .temperature => { q with releaseTemp := max (-20) (min 120 v.toInt) }
      | .speed => { q with releaseSpeed := max 500 (min 6000 v.toNat) }
      | .hysteresis => { q with hysteresis := min 1000 v.toNat } := by
  cases w with
  | temperature => rw [storeThreshold, clampInt_eq_max_min (by decide)]
  | speed => rw [storeThreshold, clampNat_eq_max_min (by decide)]
  | hysteresis => rfl

theorem storeTime_eq (w : TimeParam) (v : Half) (q : SeqParams) :
    storeTime w v q =
      match w with
      | .track => { q with trackTime := max 20 (min 2000 v.toNat) }
      | .fault => { q with faultTime := max 20 (min 5000 v.toNat) } := by
  cases w <;> rw [storeTime, clampNat_eq_max_min (by decide)]

theorem setSeqParams_seenAlike (s : State) (x : SeqParams) (p : Phaser) : SeenAlike p s (s.setSeqParams x) :=
  .of_blocks p rfl rfl rfl rfl rfl

/-- The write of a threshold is an evaluation with the threshold stored. -/
theorem evaluateAll_setSeqParams (x : SeqParams) (s : State) :
    let t := evaluateAll (s.setSeqParams x)
    t.ps.params = x ∧ t.ps.cond = s.ps.cond ∧ t.rt = s.rt ∧ t.tr = s.tr ∧ t.ad = s.ad ∧ t.ec = s.ec ∧
      ∀ p, evaluated p s t := by
  have hf := frame_evaluateAll (s.setSeqParams x)
  exact ⟨hf.params, hf.cond, hf.rt, hf.tr, hf.ad, hf.ec,
    fun p => evaluated_before (setSeqParams_seenAlike s x p) (evaluated_evaluateAll p _)⟩

/-! ### The integrator limit, the duty limits, the frequency (R144, R145, R150) -/

theorem limited_eq (l : Loop) (n : Nat) :
    l.limited n = { l with
      integrator := max (-((n : Int) * 256)) (min ((n : Int) * 256) l.integrator),
      params := { l.params with ilim := n } } := by
  rw [Loop.limited, clampInt_eq_max_min (by omega)]
  push_cast
  rfl

/-- The frequency clamped, then rounded to a multiple of 10 (R150). -/
theorem storedFrequency_eq (f : Nat) : storedFrequency f = (max 100 (min 1000 f) + 5) / 10 * 10 := by
  rw [storedFrequency, clampNat_eq_max_min (by decide), roundDiv]
  omega

/-- Settles O49, parameter by parameter. -/
theorem sequencerLoopAndPwmParametersAreWritten : Obligations.SequencerLoopAndPwmParametersAreWritten := by
  refine ⟨fun snd v s => ?_, fun snd v s => ?_⟩
  · intro q
    refine ⟨fun ht => ?_, fun w ht => ?_, fun w ht => ?_⟩
    · intro d
      have hd : clampNat 3000 10000 v.toNat = d := clampNat_eq_max_min (by decide) _
      obtain ⟨hps, hcm, hlu⟩ := dutyHanded_frame (s.setSeqParams { q with releaseDuty := d })
      have hw : writeReleaseDuty v s = .ok (s.setSeqParams { q with releaseDuty := d }).dutyHanded := by
        rw [← hd]
        rfl
      refine ⟨_, next_of_stored ht hw ?_, hps, hcm, hlu, fun p => ?_⟩
      · rw [readParam, hps]
        rfl
      · rw [dutyHanded_channel]
        rfl
    · intro q' value
      have hw : writeThreshold w v s = .ok (evaluateAll (s.setSeqParams q')) := by
        have hq : storeThreshold w v s.ps.params = q' := storeThreshold_eq w v q
        rw [writeThreshold, hq]
      obtain ⟨hparams, hrest⟩ := evaluateAll_setSeqParams q' s
      refine ⟨_, next_of_stored ht hw ?_, hparams, hrest⟩
      cases w <;> simp only [readParam, hparams] <;> rfl
    · intro q' value
      have hq : storeTime w v s.ps.params = q' := storeTime_eq w v q
      refine ⟨fun h => next_of_stored ht (t := s.setSeqParams q') ?_ ?_, fun h => next_of_taken ht (ownWrite_refused ?_)⟩
      · rw [writeTime, hq, if_neg (Nat.not_lt.mpr h)]
      · cases w <;> rfl
      · rw [writeTime, hq, if_pos h]
  · intro n
    refine ⟨fun p ht => ?_, fun p b ht => ?_, fun ht => ?_⟩
    · intro m
      refine next_of_stored ht ?_ ?_
      · rw [writeIlim, limited_eq]
      · rw [readParam, setLoop_loop_self]
        rfl
    · intro q fits q'
      have hparams := setLoopParams_params s p q'
      refine ⟨fun h => next_of_stored ht (t := s.setLoopParams p q') ?_ ?_, fun h => next_of_taken ht (ownWrite_refused ?_)⟩
      · cases b <;> exact if_pos h
      · cases b <;> rw [readParam, hparams] <;> rfl
      · cases b <;> exact if_neg h
    · intro f
      refine next_of_stored ht ?_ ?_
      · rw [writeFrequency, storedFrequency_eq]
      · rfl

end Sys2Proof.Machine
end

section
/-! ## The blocks that a command touches (R105, R118, R173, R180 to R182) -/

namespace Sys2Proof.Machine

open Sys2Proof

/-- Every block outside a list is the same in two states. -/
def keeps (l : List Block) (s t : State) : Prop := ∀ b, b ∉ l → b.same s t

section Keeps
variable {l m : List Block} {s t u : State}

theorem Block.same_refl (b : Block) (s : State) : b.same s s := by
  cases b with
  | clock => exact ⟨rfl, rfl⟩
  | _ => exact rfl

theorem Block.same_trans {b : Block} (h : b.same s t) (h' : b.same t u) : b.same s u := by
  cases b with
  | clock => exact ⟨h'.1.trans h.1, h'.2.trans h.2⟩
  | _ => exact h'.trans h

theorem keeps.refl (l : List Block) (s : State) : keeps l s s := fun b _ => b.same_refl s

theorem keeps.trans (h : keeps l s t) (h' : keeps l t u) : keeps l s u := fun b hb =>
  Block.same_trans (h b hb) (h' b hb)

/-- A longer list says less. -/
theorem keeps.mono (h : keeps l s t) (hl : l ⊆ m) : keeps m s t := fun b hb => h b fun hm => hb (hl hm)

theorem keeps_foldl {α : Type} (f : State → α → State) (h : ∀ s a, keeps l s (f s a)) (as : List α) (s : State) :
    keeps l s (as.foldl f s) :=
  List.foldlRecOn as f (keeps.refl l s) fun t ht a _ => ht.trans (h t a)

end Keeps

/-! ### One block replaced -/

section Updates
variable (s : State)

theorem keeps_fp (x : Port) : keeps [.fp] s { s with fp := x } := by
  intro b hb
  cases b <;> simp_all [Block.same]

theorem keeps_rt (x : RequestTable) : keeps [.rt] s { s with rt := x } := by
  intro b hb
  cases b <;> simp_all [Block.same]

theorem keeps_tr (x : Quad Resolver) : keeps [.tr] s { s with tr := x } := by
  intro b hb
  cases b <;> simp_all [Block.same]

theorem keeps_ad (x : Decoder) : keeps [.ad] s { s with ad := x } := by
  intro b hb
  cases b <;> simp_all [Block.same]

theorem keeps_ec (x : Capture) : keeps [.ec] s { s with ec := x } := by
  intro b hb
  cases b <;> simp_all [Block.same]

theorem keeps_ps (x : Sequencer) : keeps [.ps] s { s with ps := x } := by
  intro b hb
  cases b <;> simp_all [Block.same]

theorem keeps_lu (x : Quad Loop) : keeps [.lu] s { s with lu := x } := by
  intro b hb
  cases b <;> simp_all [Block.same]

theorem keeps_vd (x : Drivers) : keeps [.vd] s { s with vd := x } := by
  intro b hb
  cases b <;> simp_all [Block.same]

theorem keeps_cm (x : Monitor) : keeps [.cm] s { s with cm := x } := by
  intro b hb
  cases b <;> simp_all [Block.same]

end Updates

/-! ### The Sequencer, the recomputes and the Valve Drivers -/

/-- The blocks that a move of the Sequencer acts on (R105, R118). -/
def seqBlocks : List Block := [.ps, .lu, .vd, .cm]

section Frames
variable {s t : State}

theorem SeqFrame.keeps (h : SeqFrame s t) : keeps seqBlocks s t := by
  intro b hb
  cases b with
  | fp => exact h.fp
  | rt => exact h.rt
  | tr => exact h.tr
  | ad => exact h.ad
  | ec => exact h.ec
  | clock => exact ⟨h.counter, h.msTicks⟩
  | ps | lu | vd | cm => simp [seqBlocks] at hb

theorem SettleFrame.keeps (h : SettleFrame s t) : keeps (.tr :: seqBlocks) s t := by
  intro b hb
  cases b with
  | fp => exact h.event.fp
  | rt => exact h.event.rt
  | ad => exact h.ad
  | ec => exact h.ec
  | clock => exact ⟨h.event.counter, h.event.msTicks⟩
  | tr | ps | lu | vd | cm => simp [seqBlocks] at hb

theorem DriverMove.keeps {p : Phaser} (h : DriverMove p s t) : keeps [.ps, .vd, .cm] s t := by
  intro b hb
  have hf := h.seq.frame
  cases b with
  | fp => exact hf.fp
  | rt => exact hf.rt
  | tr => exact hf.tr
  | ad => exact hf.ad
  | ec => exact hf.ec
  | lu => exact h.lu
  | clock => exact ⟨hf.counter, hf.msTicks⟩
  | ps | vd | cm => simp at hb

/-- An event that leaves the port and the clock. -/
theorem ClockFrame.keeps (h : ClockFrame s t) : keeps (.rt :: .tr :: .ad :: .ec :: seqBlocks) s t := by
  intro b hb
  cases b with
  | fp => exact h.fp
  | clock => exact ⟨h.counter, h.msTicks⟩
  | rt | tr | ad | ec | ps | lu | vd | cm => simp [seqBlocks] at hb

end Frames

/-! ### The Request Table (R24, R34) -/

section Table
variable (s : State)

theorem keeps_settleGroup (who : Asker → Bool) (g : Group) : keeps (.tr :: seqBlocks) s (settleGroup who g s) :=
  (frame_settleGroup who g s).keeps

theorem keeps_askAll (who : Asker) (c : Coverage) (before : Slots) : keeps [.tr] s (askAll who c before s) := by
  rw [askAll_frame]
  exact keeps_tr s _

theorem keeps_applyGroups (who : Asker) (c : Coverage) : keeps (.rt :: .tr :: seqBlocks) s (applyGroups who c s) := by
  have settled (b : Bool) (g : Group) (t : State) :
      keeps (.rt :: .tr :: seqBlocks) t (if b then settleGroup Asker.byApply g t else t) := by
    split
    · exact (keeps_settleGroup t _ g).mono (by decide)
    · exact .refl _ t
  have promoted (t : State) : keeps (.rt :: .tr :: seqBlocks) t (t.setSlots (t.rt.slots.map (Slot.applied c))) :=
    (keeps_rt t _).mono (by decide)
  exact (((settled c.front .front s).trans (settled c.rear .rear _)).trans (promoted _)).trans
    ((keeps_askAll _ who c _).mono (by decide))

theorem keeps_expireSlot (i : Fin 24) : keeps (.rt :: .tr :: seqBlocks) s (expireSlot i s) := by
  have freed (t : State) (x : Slots) : keeps (.rt :: .tr :: seqBlocks) t (t.setSlots x) := (keeps_rt t _).mono (by decide)
  have latched (t : State) (p : Phaser) (h : Handle) : keeps (.rt :: .tr :: seqBlocks) t (t.latchExpired p h) :=
    (keeps_cm t _).mono (by decide)
  have asked (t : State) (p : Phaser) (who : Asker) (notes : List Note) :
      keeps (.rt :: .tr :: seqBlocks) t (askRecompute p who notes t) := (keeps_tr t _).mono (by decide)
  unfold expireSlot
  split
  · exact .refl _ s
  · split
    · exact ((((keeps_settleGroup s _ _).mono (by decide)).trans (freed _ _)).trans (latched _ _ _)).trans (asked _ _ _ _)
    · exact .refl _ s

end Table

/-! ### The engine condition record, the departure and the teeth (R66 to R91, R106, R107, R124) -/

section Engine
variable (s : State)

theorem keeps_evaluateAll : keeps seqBlocks s (evaluateAll s) := (frame_evaluateAll s).keeps

theorem keeps_conditioned (c : EngineCond) (stale : Bool) : keeps seqBlocks s (evaluateAll (s.conditioned c stale)) :=
  (((keeps_ps s { s.ps with cond := c }).mono (by decide)).trans ((keeps_cm _ _).mono (by decide))).trans
    (keeps_evaluateAll _)

theorem keeps_goStale : keeps seqBlocks s (goStale s) := by
  by_cases h : s.ps.cond.timer = some 0
  · rw [goStale_taken h]
    exact keeps_conditioned s _ _
  · rw [goStale_kept h]
    exact .refl _ s

theorem keeps_handleDeparture : keeps seqBlocks s (handleDeparture s) := by
  obtain ⟨t, ht, hh⟩ := frame_handleDeparture s
  rw [hh]
  exact ht.keeps.trans ((keeps_ps t _).mono (by decide))

theorem keeps_storeTooth (d : Decoder) (doubts : Bool) : keeps [.ad, .cm] s (storeTooth d doubts s) := by
  have stored : keeps [.ad, .cm] s (s.setDecoder d) := (keeps_ad s d).mono (by decide)
  unfold storeTooth
  cases doubts
  · exact stored.trans ((keeps_cm _ _).mono (by decide))
  · exact stored.trans ((keeps_cm _ _).mono (by decide))

theorem keeps_stopEngine : keeps [.ad, .ec, .ps, .cm] s (stopEngine s) := by
  have stored : keeps [.ad, .ec, .ps, .cm] s (storeTooth s.ad.stop false s) :=
    (keeps_storeTooth s s.ad.stop false).mono (by decide)
  have departed (t : State) : keeps [.ad, .ec, .ps, .cm] t (captureDeparture t) :=
    ((keeps_ec t { t.ec with bracket := none, cams := t.ec.cams.map Cam.departed }).mono (by decide)).trans
      ((keeps_ps _ _).mono (by decide))
  unfold stopEngine
  split
  · dsimp only
    split
    · exact stored.trans (departed _)
    · exact stored
  · exact .refl _ s

theorem keeps_crankTransition (rising : Bool) (held : Nat) (stamp : Tick) (o : ToothOrder) :
    keeps (.rt :: .tr :: .ad :: .ec :: seqBlocks) s (crankTransition rising held stamp o s) := by
  have filtered (b : Bool) : keeps (.rt :: .tr :: .ad :: .ec :: seqBlocks) s (s.setDecoder { s.ad with pulseOpen := b }) :=
    (keeps_ad s _).mono (by decide)
  have tooth (t : State) : keeps (.rt :: .tr :: .ad :: .ec :: seqBlocks) t (crankTooth stamp o t) := by
    obtain ⟨-, -, hfp, hcounter, hms⟩ := crankTooth_fields stamp o t
    intro b hb
    cases b with
    | fp => exact hfp
    | clock => exact ⟨hcounter, hms⟩
    | rt | tr | ad | ec | ps | lu | vd | cm => simp [seqBlocks] at hb
  unfold crankTransition
  dsimp only
  split
  · exact (filtered _).trans (tooth _)
  · exact filtered _

theorem keeps_camTransition (c : Phaser) (rising : Bool) (held : Nat) (stamp : Tick) :
    keeps [.ad, .ec, .cm] s (camTransition c rising held stamp s) := by
  have capture (t : State) (x : Cam) : keeps [.ad, .ec, .cm] t (t.setCam c x) := (keeps_ec t _).mono (by decide)
  have counted (t : State) (d : Decoder) : keeps [.ad, .ec, .cm] t (t.setDecoder d) := (keeps_ad t d).mono (by decide)
  have queued (t : State) : keeps [.ad, .ec, .cm] t (queueEdge c stamp t) := by
    unfold queueEdge
    dsimp only
    split
    · exact capture t _
    · exact (keeps_cm t _).mono (by decide)
  have taken (t : State) : keeps [.ad, .ec, .cm] t (takeEdge c stamp t) := by
    unfold takeEdge
    dsimp only
    split
    · exact (counted t _).trans (queued _)
    · exact counted t _
  unfold camTransition
  dsimp only
  split
  · exact (capture s _).trans (taken _)
  · exact capture s _

theorem keeps_advance : keeps (.rt :: .tr :: .ad :: .ec :: .clock :: seqBlocks) s (takeRunOut s).advanced := by
  obtain ⟨-, -, -, -, -, hfp, -⟩ := advanced_frame (takeRunOut s)
  intro b hb
  cases b with
  | fp => exact hfp.trans (clock_takeRunOut s).fp
  | rt | tr | ad | ec | ps | lu | vd | cm | clock => simp [seqBlocks] at hb

end Engine

end Sys2Proof.Machine
end

section
/-! ## Every command and every event, by its list of blocks -/

namespace Sys2Proof.Machine

open Sys2Proof

/-! ### Parameter writes (R126, R144, R181) -/

/-- A write that is stored acts on the blocks of a list. -/
def keepsWrite (l : List Block) (write : State → Except Status State) : Prop := ∀ s t, write s = .ok t → keeps l s t

theorem keepsWrite_ok {l : List Block} {f : State → State} (h : ∀ s, keeps l s (f s)) : keepsWrite l fun s => .ok (f s) := by
  intro s t ht
  rw [← Except.ok.inj ht]
  exact h s

theorem keepsWrite_whenStopped {l : List Block} {write : State → Except Status State} (h : keepsWrite l write) :
    keepsWrite l fun s => whenStopped s (write s) := by
  intro s t ht
  simp only [whenStopped] at ht
  split at ht
  · exact h s t ht
  · cases ht

theorem keeps_setConfig (g : Group) (x : ApplyConfig) (s : State) : keeps [.rt] s (s.setConfig g x) := by
  cases g <;> exact keeps_rt s _

theorem keepsWrite_applyMode (g : Group) (v : Byte) : keepsWrite [.rt] (writeApplyMode g v) := by
  intro s t ht
  unfold writeApplyMode at ht
  split at ht <;> cases ht
  exact keeps_setConfig g _ s

theorem keepsWrite_authority (p : Phaser) (b : Bound) (v : Half) :
    keepsWrite [.tr, .ps, .lu, .vd, .cm] (writeAuthority p b v) := by
  intro s t ht
  obtain ⟨w, -, rfl⟩ := writeAuthority_ok ht
  have bounded : keeps [.tr, .ps, .lu, .vd, .cm] s (s.setResolver p ((s.resolver p).withBound b w)) :=
    (keeps_tr s _).mono (by decide)
  have ramped (u : State) (l : Loop) : keeps [.tr, .ps, .lu, .vd, .cm] u (u.setLoop p l) := (keeps_lu u _).mono (by decide)
  exact (bounded.trans (ramped _ _)).trans (frame_recomputePhaser p _).keeps

theorem keepsWrite_crank (w : CrankParam) (v : Byte) : keepsWrite [.ad] (writeCrank w v) := by
  unfold writeCrank
  refine keepsWrite_whenStopped fun s t ht => ?_
  split at ht <;> split at ht <;> cases ht <;> exact keeps_ad s _

theorem keepsWrite_syncCam (v : Byte) : keepsWrite [.ad] (writeSyncCam v) := by
  unfold writeSyncCam
  refine keepsWrite_whenStopped fun s t ht => ?_
  split at ht
  · split at ht <;> cases ht
    exact keeps_ad s _
  · cases ht

theorem keepsWrite_toothList (c : Phaser) (count : Byte) (a : AngleField) : keepsWrite [.ec] (writeToothList c count a) := by
  unfold writeToothList
  refine keepsWrite_whenStopped fun s t ht => ?_
  dsimp only at ht
  split at ht
  · split at ht
    · split at ht <;> cases ht
      exact keeps_ec s _
    · cases ht
  · cases ht

theorem keepsWrite_polarity (c : Phaser) (v : Byte) : keepsWrite [.ec] (writePolarity c v) := by
  unfold writePolarity
  refine keepsWrite_whenStopped fun s t ht => ?_
  split at ht <;> cases ht
  exact keeps_ec s _

theorem keepsWrite_margin (v : Half) : keepsWrite [.ec] (writeMargin v) := by
  intro s t ht
  unfold writeMargin at ht
  split at ht <;> cases ht
  exact keeps_ec s _

/-- The release duty is stored, and handed to the outputs. -/
theorem keepsWrite_releaseDuty (v : Half) : keepsWrite [.ps, .vd] (writeReleaseDuty v) := by
  have handed (s : State) (p : Phaser) : keeps [.ps, .vd] s (handRelease s p) := by
    unfold handRelease
    split
    · exact (keeps_vd s _).mono (by decide)
    · exact .refl _ s
  have stored (s : State) (x : SeqParams) : keeps [.ps, .vd] s (s.setSeqParams x) := (keeps_ps s _).mono (by decide)
  exact keepsWrite_ok fun s => (stored s _).trans (keeps_foldl _ handed _ _)

theorem keepsWrite_threshold (w : ThresholdParam) (v : Half) : keepsWrite seqBlocks (writeThreshold w v) := by
  have stored (s : State) (x : SeqParams) : keeps seqBlocks s (s.setSeqParams x) := (keeps_ps s _).mono (by decide)
  exact keepsWrite_ok fun s => (stored s _).trans (keeps_evaluateAll _)

theorem keepsWrite_time (w : TimeParam) (v : Half) : keepsWrite [.ps] (writeTime w v) := by
  intro s t ht
  unfold writeTime at ht
  split at ht <;> cases ht
  exact keeps_ps s _

theorem keepsWrite_dutyLimit (p : Phaser) (b : Bound) (v : Half) : keepsWrite [.lu] (writeDutyLimit p b v) := by
  intro s t ht
  cases b <;> simp only [writeDutyLimit] at ht <;> split at ht <;> cases ht <;> exact keeps_lu s _

theorem keepsWrite_writeParam (q : Param) (v : ValueField) : keepsWrite (paramTouches q) (writeParam q v) := by
  cases q with
  | applyMode g => exact keepsWrite_applyMode g v.b0
  | markAngle g => exact keepsWrite_ok fun s => keeps_setConfig g _ s
  | authority b p => exact keepsWrite_authority p b v.half
  | crank w => exact keepsWrite_crank w v.b0
  | syncCam => exact keepsWrite_syncCam v.b0
  | toothList c => exact keepsWrite_toothList c v.b0 v.angles
  | camPolarity c => exact keepsWrite_polarity c v.b0
  | windowMargin => exact keepsWrite_margin v.half
  | camLostCount => exact keepsWrite_ok fun s => keeps_ec s _
  | releaseDuty => exact keepsWrite_releaseDuty v.half
  | threshold w => exact keepsWrite_threshold w v.half
  | time w => exact keepsWrite_time w v.half
  | dutyLimit b p => exact keepsWrite_dutyLimit p b v.half
  | pwmFrequency => exact keepsWrite_ok fun s => keeps_vd s _
  | stopTime | firingOffset => exact keepsWrite_ok fun s => keeps_ad s _
  | homeBand | releaseInterval | returnTimeout | latchInterval | trackBand | freshnessTime =>
    exact keepsWrite_ok fun s => keeps_ps s _
  | kp | ki | ilim | nd => exact keepsWrite_ok fun s => keeps_lu s _

/-! ### The owners' commands -/

/-- What an owner does with a command acts on the blocks of a list. -/
def keepsOwner (l : List Block) (owner : State → State × Reply) : Prop := ∀ s, keeps l s (owner s).1

theorem keepsOwner_reads {owner : State → State × Reply} (h : reads owner) : keepsOwner [] owner := by
  intro s
  rw [h s]
  exact .refl _ s

theorem keepsOwner_slots {owner : State → State × Reply} (h : writesSlots owner) : keepsOwner [.rt] owner := by
  intro s
  obtain hs | ⟨x, hs⟩ := h s
  · rw [hs]
    exact .refl _ s
  · rw [hs]
    exact keeps_rt s _

theorem keepsOwner_write {l : List Block} {q : Param} {write : State → Except Status State} (h : keepsWrite l write) :
    keepsOwner l (ownWrite q write) := by
  intro s
  unfold ownWrite answer
  cases hw : write s with
  | error st => exact .refl l s
  | ok t => exact h s t hw

theorem keepsOwner_apply (sel : Byte) : keepsOwner (.rt :: .tr :: seqBlocks) (ownApply sel) := by
  intro s
  unfold ownApply
  split
  · exact .refl _ s
  · exact keeps_applyGroups s _ _

theorem keepsOwner_report (oil : Byte) (temperature battery : Half) :
    keepsOwner seqBlocks (ownReport oil temperature battery) := by
  intro s
  unfold ownReport
  split
  · exact .refl _ s
  · exact keeps_conditioned s _ false

theorem keepsOwner_enable (phaser setting : Byte) : keepsOwner seqBlocks (ownEnable phaser setting) := by
  intro s
  unfold ownEnable
  split
  · dsimp only
    split
    · exact (local_enable _ s).frame.keeps
    · exact (local_disable _ s).frame.keeps
  · exact .refl _ s

theorem keepsOwner_clear (phaser : Byte) : keepsOwner seqBlocks (ownClear phaser) := by
  intro s
  unfold ownClear
  split
  · exact .refl _ s
  · split
    · split
      · exact .refl _ s
      · exact (local_clearFaulted _ s).frame.keeps
    · exact .refl _ s

theorem keepsOwner_readEvents (group : Byte) : keepsOwner [.cm] (ownReadEvents group) := by
  intro s
  unfold ownReadEvents
  split
  · exact .refl _ s
  · exact keeps_cm s _
  · exact keeps_cm s _

theorem keepsOwner_setEnables (group : Byte) (enables : Half) (on : Byte) :
    keepsOwner [.cm] (ownSetEnables group enables on) := by
  intro s
  unfold ownSetEnables
  split
  · split
    · exact keeps_cm s _
    · exact .refl _ s
  · split
    · exact keeps_cm s _
    · exact .refl _ s
  · exact .refl _ s

theorem keepsOwner_setParam (ident : Byte) (v : ValueField) :
    keepsOwner (match Param.ofIdent ident with
      | none => []
      | some q => paramTouches q) (ownSetParam ident v) := by
  intro s
  unfold ownSetParam
  cases Param.ofIdent ident with
  | none => exact .refl _ s
  | some q => exact keepsOwner_write (keepsWrite_writeParam q v) s

theorem keeps_softReset (s : State) : keeps (.rt :: .tr :: seqBlocks) s (softReset s) := by
  intro b hb
  cases b with
  | ad | ec | fp => exact rfl
  | clock => exact ⟨rfl, rfl⟩
  | rt | tr | ps | lu | vd | cm => simp [seqBlocks] at hb

/-! ### Every command (R176, R177, R180) -/

/-- A command of a valid issuer touches the port and its owner's blocks. -/
theorem keeps_takeCommand {l : List Block} {i : Instr} {c : Command} {snd : Sender} {owner : State → State × Reply}
    (hv : snd.valid = true) (h : keepsOwner l owner) (s : State) : keeps (.fp :: l) s (takeCommand i c snd owner s) := by
  obtain hi | ⟨-, hn⟩ | ⟨ht, -⟩ := takeCommand_cases i c snd owner s
  · rw [hi]
    exact .refl _ s
  · rw [hv] at hn
    cases hn
  · have answered (t : State) (r : Reply) : keeps (.fp :: l) t (t.respond c snd r) :=
      (keeps_fp t _).mono (List.cons_subset_cons _ (List.nil_subset l))
    rw [ht]
    exact ((h s).mono (List.subset_cons_self _ l)).trans (answered _ _)

theorem keeps_csRise (bytes : List Byte) (s : State) : keeps [.fp, .cm] s (csRise bytes s) := by
  have port (t : State) (x : Port) : keeps [.fp, .cm] t { t with fp := x } := (keeps_fp t x).mono (by decide)
  have rejected (t : State) (st : Status) (code byte1 : Byte) : keeps [.fp, .cm] t (rejectFrame t st code byte1) :=
    (port t _).trans ((keeps_cm _ _).mono (by decide))
  have ended (t : State) : keeps [.fp, .cm] t (endFrame bytes t) := by
    unfold endFrame
    split
    · exact port t _
    · exact rejected t _ _ _
  unfold csRise
  split
  · exact (port s _).trans (ended _)
  · exact port s _
  · exact port s _
  · exact .refl _ s

/-- The next state, if there is one, differs from a state in the blocks of a list alone. -/
def nextKeeps (l : List Block) (s : State) (r : Result) : Prop := ∀ t, r = .next t → keeps l s t

theorem nextKeeps_next {l : List Block} {s t : State} (h : keeps l s t) : nextKeeps l s (.next t) := by
  intro u hu
  rw [← Host.Outcome.next.inj hu]
  exact h

theorem nextKeeps_command {l : List Block} {i : Instr} {c : Command} {snd : Sender} {owner : State → State × Reply}
    {s : State} (hv : snd.valid = true) (h : keepsOwner l owner) :
    nextKeeps (.fp :: l) s (.next (takeCommand i c snd owner s)) :=
  nextKeeps_next (keeps_takeCommand hv h s)

/-- A parameter's own row touches what the parameter's write touches. -/
theorem nextKeeps_write {l : List Block} {i : Instr} {c : Command} {snd : Sender} {q : Param}
    {write : State → Except Status State} {s : State} (hv : snd.valid = true) (h : keepsWrite l write) :
    nextKeeps (.fp :: l) s (.next (takeCommand i c snd (ownWrite q write) s)) :=
  nextKeeps_command hv (keepsOwner_write h)

/-- A hard reset may touch every block. -/
theorem keeps_all (s t : State) : keeps [.fp, .rt, .tr, .ad, .ec, .ps, .lu, .vd, .cm, .clock] s t := by
  intro b hb
  cases b <;> simp at hb

theorem touches_setParam (snd : Sender) (ident : Byte) (v : ValueField) :
    touches (.setParam snd ident v) = .fp :: (match Param.ofIdent ident with
      | none => []
      | some q => paramTouches q) := by
  simp only [touches]
  cases Param.ofIdent ident <;> rfl

theorem nextKeeps_overBandIf (b : Bool) (p : Phaser) (s : State) :
    nextKeeps seqBlocks s (.next (if b then overBandEvent p s else s)) := by
  refine nextKeeps_next ?_
  split
  · exact (local_overBandEvent p s).frame.keeps
  · exact .refl _ s

/-- The issuer of a well-formed framed command is valid. -/
theorem valid_of_wellFormed {i : Instr} {snd : Sender} (hs : i.sender = some snd) (h : i.wellFormed = true) :
    snd.valid = true := by
  unfold Instr.wellFormed at h
  rw [hs, Bool.and_eq_true] at h
  exact h.1

theorem exec_nextKeeps (i : Instr) (s : State) (h : i.wellFormed = true) : nextKeeps (touches i) s (exec i s) := by
  have valid (snd : Sender) (hs : i.sender = some snd) : snd.valid = true := valid_of_wellFormed hs h
  cases i with
  | powerOn hot | resetPin hot | vddUndervoltageReset hot => exact nextKeeps_next (keeps_all s _)
  | transactionStart => exact nextKeeps_next (keeps_fp s _)
  | transactionEnd sdi => exact nextKeeps_next (keeps_csRise _ s)
  | nop snd | list snd | readEngine snd => exact nextKeeps_command (valid snd rfl) fun s => .refl _ s
  | post snd key cf => exact nextKeeps_command (valid snd rfl) (keepsOwner_slots (writesSlots_ownPost snd key cf))
  | change snd x k cf => exact nextKeeps_command (valid snd rfl) (keepsOwner_slots (writesSlots_ownChange snd x k cf))
  | retire snd x => exact nextKeeps_command (valid snd rfl) (keepsOwner_slots (writesSlots_ownRetire snd x))
  | renew snd x => exact nextKeeps_command (valid snd rfl) (keepsOwner_slots (writesSlots_ownRenew x))
  | renewClass snd b => exact nextKeeps_command (valid snd rfl) (keepsOwner_slots (writesSlots_ownRenewClass b))
  | apply snd sel => exact nextKeeps_command (valid snd rfl) (keepsOwner_apply sel)
  | find snd key => exact nextKeeps_command (valid snd rfl) (keepsOwner_reads (reads_ownFind key))
  | readRecord snd x => exact nextKeeps_command (valid snd rfl) (keepsOwner_reads (reads_ownReadRecord x))
  | readPhaser snd p => exact nextKeeps_command (valid snd rfl) (keepsOwner_reads (reads_ownReadPhaser p))
  | resolve snd p => exact nextKeeps_command (valid snd rfl) (keepsOwner_reads (reads_ownResolve p))
  | getParam snd ident => exact nextKeeps_command (valid snd rfl) (keepsOwner_reads (reads_ownGetParam ident))
  | reportConditions snd o t b => exact nextKeeps_command (valid snd rfl) (keepsOwner_report o t b)
  | enablePhaser snd p e => exact nextKeeps_command (valid snd rfl) (keepsOwner_enable p e)
  | clearFault snd p => exact nextKeeps_command (valid snd rfl) (keepsOwner_clear p)
  | readEvents snd g => exact nextKeeps_command (valid snd rfl) (keepsOwner_readEvents g)
  | setEventEnables snd g e on => exact nextKeeps_command (valid snd rfl) (keepsOwner_setEnables g e on)
  | resetDevice snd => exact nextKeeps_command (valid snd rfl) fun s => keeps_softReset s
  | setParam snd ident v =>
    rw [touches_setParam]
    exact nextKeeps_command (valid snd rfl) (keepsOwner_setParam ident v)
  | setApplyMode snd g v => exact nextKeeps_write (valid snd rfl) (keepsWrite_applyMode g v)
  | setMarkAngle snd g v => exact nextKeeps_write (valid snd rfl) (keepsWrite_ok fun s => keeps_setConfig g _ s)
  | setAuthorityWindow snd p b v => exact nextKeeps_write (valid snd rfl) (keepsWrite_authority p b v)
  | setCrankGeometry snd w v => exact nextKeeps_write (valid snd rfl) (keepsWrite_crank w v)
  | setSyncCam snd v => exact nextKeeps_write (valid snd rfl) (keepsWrite_syncCam v)
  | setToothList snd c n a => exact nextKeeps_write (valid snd rfl) (keepsWrite_toothList c n a)
  | setCamPolarity snd c v => exact nextKeeps_write (valid snd rfl) (keepsWrite_polarity c v)
  | setWindowMargin snd v => exact nextKeeps_write (valid snd rfl) (keepsWrite_margin v)
  | setCamLostCount snd v => exact nextKeeps_write (valid snd rfl) (keepsWrite_ok fun s => keeps_ec s _)
  | setReleaseDuty snd v => exact nextKeeps_write (valid snd rfl) (keepsWrite_releaseDuty v)
  | setReleaseThresholds snd w v => exact nextKeeps_write (valid snd rfl) (keepsWrite_threshold w v)
  | setTrackFaultTime snd w v => exact nextKeeps_write (valid snd rfl) (keepsWrite_time w v)
  | setIntegratorLimit snd p v => exact nextKeeps_write (valid snd rfl) (keepsWrite_ok fun s => keeps_lu s _)
  | setDutyLimit snd p b v => exact nextKeeps_write (valid snd rfl) (keepsWrite_dutyLimit p b v)
  | setPwmFrequency snd v => exact nextKeeps_write (valid snd rfl) (keepsWrite_ok fun s => keeps_vd s _)
  | timeBaseAdvance =>
    rw [exec_timeBase]
    exact nextKeeps_next ((keeps_advance s).mono (by decide))
  | expiry j => exact nextKeeps_next (keeps_expireSlot s j)
  | recompute p => exact nextKeeps_next (frame_takeRecompute p s).keeps
  | crankTooth r n st o => exact nextKeeps_next (keeps_crankTransition s r n st o)
  | controlStep p => exact nextKeeps_next (local_takeDelivered p s).frame.keeps
  | camEdge c r n st => exact nextKeeps_next (keeps_camTransition s c r n st)
  | stopTimerExpiry => exact nextKeeps_next (keeps_stopEngine s)
  | syncDepartureHandling => exact nextKeeps_next (keeps_handleDeparture s)
  | freshnessTimerExpiry => exact nextKeeps_next (keeps_goStale s)
  | releaseIntervalExpiry p => exact nextKeeps_next (local_endRelease p s).frame.keeps
  | returnTimeoutExpiry p => exact nextKeeps_next (local_endReturn p s).frame.keeps
  | latchIntervalExpiry p => exact nextKeeps_next (local_endLatch p s).frame.keeps
  | overBandTrackTime p => exact nextKeeps_overBandIf _ p s
  | overBandFaultTime p => exact nextKeeps_overBandIf _ p s
  | periodStart p => exact nextKeeps_next (driver_periodStartAt p s).keeps
  | endOfOnTime p => exact nextKeeps_next (keeps_vd s _)
  | periodEnd p seen => exact nextKeeps_next (driver_periodEndAt p s seen).keeps
  | overcurrent p => exact nextKeeps_next (driver_overcurrentAt p s).keeps
  | thermalHoldSet p =>
    exact nextKeeps_next (driver_thermalHold p s (x := { (s.channel p).cut _ with hold := true }) (cut_commanded _ _)).keeps
  | thermalHoldClear p =>
    exact nextKeeps_next (driver_thermalHold p s (x := { s.channel p with hold := false }) rfl).keeps
  | driverConditionFault p d => exact nextKeeps_next (local_takeDriverFault p d s).frame.keeps

/-- Settles O59, command by command. -/
theorem commandsTouchOnlyTheirBlocks : Obligations.CommandsTouchOnlyTheirBlocks :=
  fun i s t h ht => exec_nextKeeps i s h t ht

end Sys2Proof.Machine
end

section
/-! ## The elapsed time of a control step (R133) -/

namespace Sys2Proof.Machine

open Sys2Proof

/-- A step age of 17 takes the cap, whatever the counter shows. -/
theorem elapsed_saturated (last : Option Tick) (now : Tick) : elapsed (some 17) last now = 16000 := if_pos rfl

/-- Below the age of 17 the counter difference counts, at 8 ticks to the microsecond. -/
theorem elapsed_counted {age : Nat} (h : age ≤ 16) (t0 now : Tick) :
    elapsed (some age) (some t0) now = min 16000 ((now - t0).toNat / 8) := by
  have hage : (some age : Option Nat) ≠ some 17 := fun he => by
    have := Option.some.inj he
    omega
  exact if_neg hage

section Step
variable (l : Loop) (target : Int) (slew battery : Nat) (now : Tick) (phase : Int)

@[simp] theorem loopStep_lastStep : (loopStep l target slew battery now phase).1.lastStep = some now := rfl

@[simp] theorem loopStep_stepAge : (loopStep l target slew battery now phase).1.stepAge = some 0 := rfl

end Step

/-- Settles O39: the two rows of R133's table by the step age, and the two fields that the step restarts. -/
theorem elapsedTimeIsCappedByAgeAndByTicks : Obligations.ElapsedTimeIsCappedByAgeAndByTicks := by
  unfold Obligations.ElapsedTimeIsCappedByAgeAndByTicks
  exact ⟨elapsed_saturated, fun age t0 now hage => elapsed_counted hage t0 now, fun l target slew battery now phase =>
    ⟨loopStep_lastStep l target slew battery now phase, loopStep_stepAge l target slew battery now phase⟩⟩

end Sys2Proof.Machine
end

section
/-! ## The shared operations of the Valve Drivers: places in a period, cuts, declarations, the thermal hold (R149 to R158) -/

namespace Sys2Proof.Machine

open Sys2Proof

/-! ### Lengths and due events (R150, R151) -/

theorem periodLength_eq (f : Nat) : periodLength f = (2 * 8000000 + f) / (2 * f) := roundDiv_toNat 8000000 f

theorem onTime_eq (duty length : Nat) : onTime duty length = (2 * (duty * length) + 10000) / 20000 :=
  roundDiv_toNat (duty * length) 10000

theorem startDue_iff (c : Channel) (now : Tick) :
    c.startDue now = true ↔ c.running = false ∧ (now - c.start).toNat < 8388608 := by
  rw [Channel.startDue, Bool.and_eq_true, Bool.not_eq_true', decide_eq_true_iff, tickDiff]

theorem offDue_iff (c : Channel) (now : Tick) :
    c.offDue now = true ↔ c.running = true ∧ c.on = true ∧ onTime c.active c.length < c.length ∧
      onTime c.active c.length ≤ (now - c.start).toNat := by
  rw [Channel.offDue, Bool.and_eq_true, Bool.and_eq_true, decide_eq_true_iff, tickDiff, and_assoc]

theorem endDue_iff (c : Channel) (now : Tick) :
    c.endDue now = true ↔ c.running = true ∧ c.length ≤ (now - c.start).toNat := by
  rw [Channel.endDue, Bool.and_eq_true, decide_eq_true_iff, tickDiff]

@[simp] theorem setChannel_same (s : State) (p : Phaser) : s.setChannel p (s.channel p) = s := by
  rw [State.setChannel, State.channel, quad_set_get]

@[simp] theorem setChannel_setChannel (s : State) (p : Phaser) (x y : Channel) :
    (s.setChannel p x).setChannel p y = s.setChannel p y := by
  simp [State.setChannel]

/-! ### An output switched OFF within its period (R151, R153, R157, R158) -/

/-- The channel `d` is `c`, with its output possibly switched OFF at some place: an output OFF stays OFF, and all but the
output and its place is kept. -/
structure Channel.Shortened (c d : Channel) : Prop where
  off : c.on = false → d.on = false
  rest : d = { c with on := d.on, offAt := d.offAt }

section Shortened
variable {c d e : Channel}

theorem Channel.Shortened.refl (c : Channel) : c.Shortened c := ⟨id, rfl⟩

theorem Channel.Shortened.trans (a : c.Shortened d) (b : d.Shortened e) : c.Shortened e :=
  ⟨b.off ∘ a.off, b.rest.trans (by rw [a.rest])⟩

/-- A field other than the output and its place is kept. -/
theorem Channel.Shortened.keeps {α : Type} (h : c.Shortened d) (f : Channel → α)
    (hf : ∀ b n, f { c with on := b, offAt := n } = f c := by intros; rfl) : f d = f c := by
  rw [h.rest, hf]

/-- A period start sets the output and its place anew, so a cut just before it leaves no trace (R151). -/
theorem Channel.Shortened.begin (h : c.Shortened d) (length duty : Nat) : d.begin length duty = c.begin length duty := by
  rw [h.rest]
  rfl

theorem cut_off {position : Nat} (h : c.on = false) : c.cut position = c := by simp [Channel.cut, h]

/-- The place of a cut is at the latest the end of the scheduled on-time (R151, R155). -/
theorem cut_eq (c : Channel) (position : Nat) :
    c.cut position =
      { c with on := false, offAt := if c.on then min position (onTime c.active c.length) else c.offAt } := by
  cases c with | mk _ _ _ _ _ on => cases on <;> rfl

theorem shortened_cut (c : Channel) (position : Nat) : c.Shortened (c.cut position) := by
  rw [cut_eq]
  exact ⟨fun _ => rfl, rfl⟩

theorem shortened_endOn (c : Channel) (now : Tick) : c.Shortened (c.endOn now) := by
  unfold Channel.endOn
  split
  · exact ⟨fun _ => rfl, rfl⟩
  · exact .refl c

end Shortened

/-! ### A driver condition declared (R158) -/

theorem driverSet_has_add (x : DriverSet) (d e : DriverCause) : (x.add d).has e = (x.has e || decide (e = d)) := by
  cases d <;> cases e <;> simp [DriverSet.add, DriverSet.has]

section Declared
variable (p : Phaser) (d : DriverCause) (s : State)

theorem declareDriver_stands (e : PhCond) :
    (declareDriver p d s).stands p e = (s.stands p e || decide (e = driverCond d)) := by
  unfold declareDriver
  split
  next h => by_cases he : e = driverCond d <;> simp [he, h]
  next h => by_cases he : e = driverCond d <;> simp [drive_stands, he]

theorem declareDriver_has (e : DriverCause) :
    ((declareDriver p d s).phaser p).declared.has e =
      ((s.phaser p).declared.has e || (!s.stands p (driverCond d) && decide (e = d))) := by
  unfold declareDriver
  split
  next h => simp [h]
  next h => simp [driverSet_has_add, h]

theorem declareDriver_channel :
    (declareDriver p d s).channel p =
      if s.stands p (driverCond d) then s.channel p else (s.channel p).cut ((s.channel p).position s.counter) := by
  unfold declareDriver
  split <;> simp

theorem shortened_declareDriver : (s.channel p).Shortened ((declareDriver p d s).channel p) := by
  rw [declareDriver_channel]
  split
  · exact .refl _
  · exact shortened_cut _ _

theorem declareDriver_senses : (declareDriver p d s).vd.senses = s.vd.senses := by
  unfold declareDriver
  split <;> simp

/-- A declaration made now is owed to the Sequencer. -/
theorem declareDriver_owed (h : s.stands p (driverCond d) = false) :
    ((declareDriver p d s).phaser p).declared.has d = true := by
  simp [declareDriver_has, h]

/-- An output whose condition is declared now is OFF at once. -/
theorem declareDriver_switchesOff (h : s.stands p (driverCond d) = false) :
    ((declareDriver p d s).channel p).on = false := by
  simp [declareDriver_channel, h, cut_eq]

end Declared

/-! ### DRV_HOT and the thermal hold (R157, R159) -/

section Hold
variable {p : Phaser} {s : State}

theorem followHold_suspended (h : (s.channel p).suspended = true) : followHold p s = s := if_pos h

theorem followHold_set (h : (s.channel p).suspended = false) (hold : (s.channel p).hold = true) :
    followHold p s = declareDriver p .drvHot s := by
  simp [followHold, h, hold]

theorem followHold_clear (h : (s.channel p).suspended = false) (hold : (s.channel p).hold = false) :
    followHold p s = s.drive p .drvHot false := by
  simp [followHold, h, hold, clearDriver, driverCond]

variable (p s)

theorem shortened_followHold : (s.channel p).Shortened ((followHold p s).channel p) := by
  unfold followHold
  split
  · exact .refl _
  · split
    · exact shortened_declareDriver p _ s
    · exact .refl _

theorem followHold_channel_off (h : (s.channel p).on = false) : (followHold p s).channel p = s.channel p := by
  unfold followHold
  split
  · rfl
  · split
    · rw [declareDriver_channel, cut_off h, ite_self]
    · rfl

theorem followHold_drvHot :
    (followHold p s).stands p .drvHot =
      if (s.channel p).suspended then s.stands p .drvHot else (s.channel p).hold := by
  cases h : (s.channel p).suspended with
  | true => rw [followHold_suspended h]; rfl
  | false =>
    cases hold : (s.channel p).hold with
    | true => simp [followHold_set h hold, declareDriver_stands, driverCond]
    | false => simp [followHold_clear h hold, drive_stands]

theorem followHold_stands {e : PhCond} (he : e ≠ .drvHot) : (followHold p s).stands p e = s.stands p e := by
  unfold followHold
  split
  · rfl
  · split
    · simp [declareDriver_stands, driverCond, he]
    · simp [clearDriver, driverCond, drive_stands, he]

/-- The declaration of DRV_HOT is owed where the hold stands and the condition did not (R158). -/
theorem followHold_owed (h : (s.channel p).suspended = false) (hold : (s.channel p).hold = true)
    (hclear : s.stands p .drvHot = false) : ((followHold p s).phaser p).declared.drvHot = true := by
  rw [followHold_set h hold]
  exact declareDriver_owed p .drvHot s hclear

end Hold

end Sys2Proof.Machine
end

section
/-! ## Period starts and the end of the on-time (R150 to R152, R157) -/

namespace Sys2Proof.Machine

open Sys2Proof

section Start
variable (p : Phaser) (s : State)

/-- The duty taken once DRV_HOT has followed the hold: 0 under the hold or a driver condition (R151, R157, R159). -/
theorem followHold_dutyTaken :
    (followHold p s).dutyTaken p =
      if (s.channel p).hold || s.stands p .drvShort || s.stands p .drvOpen ||
          ((s.channel p).suspended && s.stands p .drvHot) then 0
      else (s.channel p).commanded := by
  have hc := shortened_followHold p s
  rw [State.dutyTaken, State.driverStands, hc.keeps Channel.hold, hc.keeps Channel.commanded, followHold_drvHot,
    followHold_stands p s (by decide), followHold_stands p s (by decide)]
  cases (s.channel p).suspended <;> cases (s.channel p).hold <;> simp

variable {p s}

theorem periodStartAt_notDue (h : ¬ ((s.channel p).running = false ∧ (s.counter - (s.channel p).start).toNat < 8388608)) :
    periodStartAt p s = s :=
  if_neg fun hdue => h ((startDue_iff _ _).mp hdue)

theorem periodStartAt_due (h : (s.channel p).running = false ∧ (s.counter - (s.channel p).start).toNat < 8388608) :
    periodStartAt p s = (followHold p s).setChannel p
      ((s.channel p).begin (periodLength s.vd.frequency) ((followHold p s).dutyTaken p)) := by
  have hfrequency : (followHold p s).vd.frequency = s.vd.frequency := (local_followHold p s).frame.frequency
  rw [periodStartAt, if_pos ((startDue_iff _ _).mpr h)]
  dsimp only
  rw [(shortened_followHold p s).begin, hfrequency]

theorem endOn_due {c : Channel} {now : Tick} (h : c.offDue now = true) :
    c.endOn now = { c with on := false, offAt := onTime c.active c.length } := if_pos h

theorem endOn_notDue {c : Channel} {now : Tick} (h : ¬ c.offDue now = true) : c.endOn now = c := if_neg h

end Start

/-- Settles O41: a start that is due follows the hold first and begins the period with the duty that leaves. -/
theorem periodStartTakesTheDuty : Obligations.PeriodStartTakesTheDuty := by
  intro p s c L held duty on due off offDue
  have hoff : c.offDue s.counter = true ↔ offDue := by rw [offDue_iff, onTime_eq]
  have hend : exec (.endOfOnTime p) s = .next (s.setChannel p (c.endOn s.counter)) := rfl
  have hstart : exec (.periodStart p) s = .next (periodStartAt p s) := rfl
  rw [hend, hstart]
  refine ⟨fun h => ?_, fun h => ⟨periodStartAt p s, rfl, local_periodStartAt p s, ?_⟩, fun h => ?_, fun h => ?_⟩
  · rw [periodStartAt_notDue h]
  · have hon : onTime duty L = on := onTime_eq duty L
    rw [periodStartAt_due h, followHold_dutyTaken, periodLength_eq, setChannel_channel_self]
    refine ⟨rfl, rfl, rfl, rfl, rfl, rfl, ?_, rfl, fun ha => ?_, fun hs => ?_, followHold_owed p s⟩
    · rw [← hon]
      exact decide_eq_true_iff
    · rw [setChannel_stands, followHold_drvHot, if_neg (Bool.eq_false_iff.mp ha)]
    · rw [setChannel_stands, followHold_drvHot, if_pos hs]
  · rw [endOn_due (hoff.mpr h), onTime_eq]
  · rw [endOn_notDue (mt hoff.mp h), setChannel_same]

end Sys2Proof.Machine
end

section
/-! ## An overcurrent and the thermal hold (R150, R151, R153, R155, R157 to R159) -/

namespace Sys2Proof.Machine

open Sys2Proof

theorem position_eq (c : Channel) (now : Tick) : c.position now = min c.length (now - c.start).toNat := rfl

/-! ### An overcurrent (R153) -/

section Overcurrent
variable {p : Phaser} {s : State} {c : Channel}

theorem overcurrent_off {now : Tick} (h : c.on = false) : c.overcurrent now = c := by simp [Channel.overcurrent, h]

/-- An overcurrent cuts an output that is ON and marks the period. -/
theorem overcurrent_eq (c : Channel) (now : Tick) :
    c.overcurrent now =
      { c with
        on := false
        offAt := if c.on then min (c.position now) (onTime c.active c.length) else c.offAt
        ocPeriod := c.on || c.ocPeriod } := by
  cases h : c.on with
  | false => rw [overcurrent_off h, if_neg (by decide), Bool.false_or, ← h]
  | true =>
    rw [Channel.overcurrent, if_pos h, cut_eq, h]
    rfl

theorem overcurrentAt_off (h : (s.channel p).on = false) : overcurrentAt p s = s := by simp [overcurrentAt, h]

/-- With the output ON the period start, where one is owed, is taken first (R150, log 31). -/
theorem overcurrentAt_on (h : (s.channel p).on = true) :
    overcurrentAt p s = (periodStartAt p s).setChannel p (((periodStartAt p s).channel p).overcurrent s.counter) := by
  rw [overcurrentAt, if_pos h]
  dsimp only
  rw [(local_periodStartAt p s).frame.counter]

end Overcurrent

/-! ### The two events of the thermal hold (R157, R159) -/

/-- The state that a thermal hold sets up before DRV_HOT follows it: the output OFF, and the hold in force. -/
def State.held (s : State) (p : Phaser) : State :=
  s.setChannel p { (s.channel p).cut ((s.channel p).position s.counter) with hold := true }

section Hold
variable (p : Phaser) (s : State)

theorem held_channel :
    (s.held p).channel p =
      { s.channel p with
        on := false
        offAt := if (s.channel p).on then
            min ((s.channel p).position s.counter) (onTime (s.channel p).active (s.channel p).length)
          else (s.channel p).offAt
        hold := true } := by
  rw [State.held, setChannel_channel_self, cut_eq]

theorem driver_held : DriverMove p s (s.held p) :=
  driver_setChannel (x := { (s.channel p).cut ((s.channel p).position s.counter) with hold := true }) (cut_commanded _ _)

/-- The state in which a hold has been lifted, before DRV_HOT follows. -/
def State.lifted (s : State) (p : Phaser) : State := s.setChannel p { s.channel p with hold := false }

/-- A hold lifted acts on the output's hold and on DRV_HOT, and on nothing else. -/
theorem followHold_lifted :
    followHold p (s.lifted p) =
      if (s.channel p).suspended then s.lifted p else (s.lifted p).drive p .drvHot false := by
  have hc : (s.lifted p).channel p = { s.channel p with hold := false } := setChannel_channel_self s p _
  split
  next h => exact followHold_suspended (by rw [hc, h])
  next h => exact followHold_clear (by rw [hc]; exact Bool.eq_false_iff.mpr h) (by rw [hc])

end Hold

/-- Settles O43: an overcurrent by the output and by whether a period runs; the hold's events by the diagnostics. -/
theorem overcurrentAndThermalHoldSwitchTheOutputOff : Obligations.OvercurrentAndThermalHoldSwitchTheOutputOff := by
  refine ⟨fun p s => ?_, fun p s => ?_⟩
  · intro c place
    have hexec : exec (.overcurrent p) s = .next (overcurrentAt p s) := rfl
    have hcut {x : Channel} (h : x.on = true) :
        x.overcurrent s.counter = { x with on := false, offAt := place x, ocPeriod := true } := by
      rw [overcurrent_eq, onTime_eq, position_eq, h]
      rfl
    rw [hexec]
    refine ⟨fun hrun hon => ?_, fun hrun hon hdue => ?_, fun hoff => ?_⟩
    · have hnot : ¬ (c.running = false ∧ (s.counter - c.start).toNat < 8388608) := fun h =>
        absurd (hrun.symm.trans h.1) (by decide)
      rw [overcurrentAt_on hon, periodStartAt_notDue hnot, hcut hon]
    · have hstarted := periodStartAt_due (p := p) ⟨hrun, hdue⟩
      refine ⟨overcurrentAt p s, rfl, local_overcurrentAt p s, ?_, ?_, ?_, periodStartAt p s, rfl, fun hoff => ?_,
        fun hon' => ?_⟩ <;> rw [overcurrentAt_on hon]
      · rw [setChannel_channel_self, overcurrent_eq]
      · rw [setChannel_channel_self, overcurrent_eq, hstarted, setChannel_channel_self]
        rfl
      · rw [setChannel_channel_self, overcurrent_eq, hstarted, setChannel_channel_self]
        rfl
      · rw [overcurrent_off hoff, setChannel_same]
      · rw [hcut hon']
    · rw [overcurrentAt_off hoff]
  · intro c place
    have hset : exec (.thermalHoldSet p) s = .next (followHold p (s.held p)) := rfl
    have hclear : exec (.thermalHoldClear p) s = .next (followHold p (s.lifted p)) := rfl
    have hheld := held_channel p s
    have hchannel := (followHold_channel_off p _ (by rw [hheld])).trans hheld
    have hlifted := followHold_lifted p s
    have hmove := (driver_held p s).trans (driver_followHold p (s.held p))
    rw [hset, hclear]
    refine ⟨⟨_, rfl, hmove.seq, ?_, ?_, ?_, ?_, hmove.commanded, hmove.state, fun ha => ⟨?_, fun hcold => ?_⟩,
      fun hsus => ?_⟩, ⟨_, rfl, ?_, ?_, ?_, fun ha => ?_, fun hsus => ?_, fun q hq => ?_⟩⟩
    · rw [hchannel]
    · rw [hchannel]
    · rw [hchannel, onTime_eq, position_eq]
    · rw [hchannel]
    · rw [followHold_drvHot, hheld, if_neg (Bool.eq_false_iff.mp ha)]
    · exact followHold_owed p _ (by rw [hheld]; exact ha) (by rw [hheld]) hcold
    · rw [followHold_suspended (by rw [hheld]; exact hsus)]
      exact ⟨rfl, rfl⟩
    · rw [hlifted]
      split <;> rfl
    · rw [hlifted]
      split <;> rfl
    · rw [hlifted]
      split <;> exact setChannel_channel_self s p _
    · rw [hlifted, if_neg (Bool.eq_false_iff.mp ha), drive_stands, if_pos ⟨rfl, rfl⟩]
    · rw [hlifted, if_pos hsus]
      rfl
    · have hlocal := (local_setChannel p _ s).trans (local_followHold p (s.lifted p))
      exact ⟨hlocal.channel q hq, hlocal.phGroup q hq⟩

end Sys2Proof.Machine
end

section
/-! ## A period end: the overcurrent count and the open-load check (R150, R153, R155, R156, R158, R159) -/

namespace Sys2Proof.Machine

open Sys2Proof

/-! ### The overcurrent count (R153) -/

/-- The overcurrent count that a period end reaches, before a count of 3 is taken: one more after a marked period, 0 after
one that conducted without an overcurrent. -/
def Channel.ocReached (c : Channel) : Nat :=
  if c.ocPeriod then c.ocCount + 1 else if c.conducted then 0 else c.ocCount

theorem judgeOvercurrent_eq (c : Channel) : c.judgeOvercurrent = { c with ocCount := c.ocReached } := by
  unfold Channel.judgeOvercurrent Channel.ocReached
  split
  · rfl
  · split <;> rfl

/-- Setting the overcurrent count leaves how the output was cut. -/
theorem Channel.Shortened.recounted {c d : Channel} (h : c.Shortened d) (n : Nat) :
    { c with ocCount := n }.Shortened { d with ocCount := n } :=
  ⟨h.off, congrArg (fun x : Channel => { x with ocCount := n }) h.rest⟩

section Short
variable (p : Phaser) (s : State)

theorem judgeShort_eq :
    judgeShort p s =
      if 3 ≤ (s.channel p).ocReached then
        declareDriver p .drvShort (s.setChannel p { s.channel p with ocCount := 0 })
      else s.setChannel p { s.channel p with ocCount := (s.channel p).ocReached } := by
  rw [judgeShort, judgeOvercurrent_eq]

theorem judgeShort_stands (e : PhCond) :
    (judgeShort p s).stands p e =
      (s.stands p e || (decide (3 ≤ (s.channel p).ocReached) && decide (e = .drvShort))) := by
  rw [judgeShort_eq]
  split
  next h =>
    rw [declareDriver_stands, decide_eq_true h, Bool.true_and]
    rfl
  next h => simp [h]

theorem shortened_judgeShort :
    { s.channel p with ocCount := if 3 ≤ (s.channel p).ocReached then 0 else (s.channel p).ocReached }.Shortened
      ((judgeShort p s).channel p) := by
  rw [judgeShort_eq]
  split
  · have h := shortened_declareDriver p .drvShort (s.setChannel p { s.channel p with ocCount := 0 })
    rwa [setChannel_channel_self] at h
  · rw [setChannel_channel_self]
    exact .refl _

/-- A declaration that waits is kept. -/
theorem judgeShort_has {d : DriverCause} (h : (s.phaser p).declared.has d = true) :
    ((judgeShort p s).phaser p).declared.has d = true := by
  rw [judgeShort_eq]
  split <;> simp [declareDriver_has, h]

theorem judgeShort_declares (h : 3 ≤ (s.channel p).ocReached) (hclear : s.stands p .drvShort = false) :
    ((judgeShort p s).phaser p).declared.drvShort = true ∧ ((judgeShort p s).channel p).on = false := by
  rw [judgeShort_eq, if_pos h]
  exact ⟨declareDriver_owed p .drvShort _ hclear, declareDriver_switchesOff p .drvShort _ hclear⟩

theorem judgeShort_senses : (judgeShort p s).vd.senses = s.vd.senses := by
  rw [judgeShort_eq]
  split
  · exact declareDriver_senses p _ _
  · rfl

end Short

/-! ### The open-load check (R155, R156) -/

/-- The channel after its open-load check, where one is made. -/
def Channel.loadJudged (c : Channel) (seen : Bool) : Channel := if c.checked then c.judgeOpenLoad seen else c

theorem loadJudged_unchecked {c : Channel} (seen : Bool) (h : c.checked = false) : c.loadJudged seen = c := by
  rw [Channel.loadJudged, h]
  rfl

theorem loadJudged_passed {c : Channel} (h : c.checked = true) :
    c.loadJudged true = { c with openFail := 0, openPass := min 4 (c.openPass + 1) } := if_pos h

theorem loadJudged_failed {c : Channel} (h : c.checked = true) :
    c.loadJudged false = { c with openFail := min 4 (c.openFail + 1), openPass := 0 } := if_pos h

/-- An open-load check acts on its two counts only. -/
theorem loadJudged_rest (c : Channel) (seen : Bool) :
    c.loadJudged seen = { c with openFail := (c.loadJudged seen).openFail, openPass := (c.loadJudged seen).openPass } := by
  cases h : c.checked with
  | false => rw [loadJudged_unchecked seen h]
  | true =>
    cases seen with
    | true => rw [loadJudged_passed h]
    | false => rw [loadJudged_failed h]

theorem bump_reaches (limit n : Nat) : bump limit n = limit ↔ limit ≤ n + 1 := by
  unfold bump
  omega

section Open
variable (p : Phaser) (s : State)

theorem judgeOpen_unchecked (seen : Bool) (h : (s.channel p).checked = false) : judgeOpen p seen s = s := by
  simp [judgeOpen, h]

/-- A passing check counts, and the fourth in a row clears DRV_OPEN (R156). -/
theorem judgeOpen_passed (h : (s.channel p).checked = true) :
    judgeOpen p true s =
      if 4 ≤ (s.channel p).openPass + 1 then
        (s.setChannel p ((s.channel p).judgeOpenLoad true)).drive p .drvOpen false
      else s.setChannel p ((s.channel p).judgeOpenLoad true) := by
  simp [judgeOpen, h, Channel.judgeOpenLoad, bump_reaches, clearDriver, driverCond]

/-- A failing check counts, and the fourth in a row declares DRV_OPEN (R155). -/
theorem judgeOpen_failed (h : (s.channel p).checked = true) :
    judgeOpen p false s =
      if 4 ≤ (s.channel p).openFail + 1 then
        declareDriver p .drvOpen (s.setChannel p ((s.channel p).judgeOpenLoad false))
      else s.setChannel p ((s.channel p).judgeOpenLoad false) := by
  simp [judgeOpen, h, Channel.judgeOpenLoad, bump_reaches]

theorem judgeOpen_passed_drvOpen (h : (s.channel p).checked = true) :
    (judgeOpen p true s).stands p .drvOpen =
      (s.stands p .drvOpen && decide ((s.channel p).openPass + 1 < 4)) := by
  rw [judgeOpen_passed p s h]
  split
  next hpass => simp [drive_stands, Nat.not_lt.mpr hpass]
  next hpass => simp [Nat.lt_of_not_le hpass]

theorem judgeOpen_failed_drvOpen (h : (s.channel p).checked = true) :
    (judgeOpen p false s).stands p .drvOpen =
      (s.stands p .drvOpen || decide (4 ≤ (s.channel p).openFail + 1)) := by
  rw [judgeOpen_failed p s h]
  split
  next hfail => simp [declareDriver_stands, driverCond, hfail]
  next hfail => simp [hfail]

theorem judgeOpen_stands (seen : Bool) {e : PhCond} (he : e ≠ .drvOpen) :
    (judgeOpen p seen s).stands p e = s.stands p e := by
  cases h : (s.channel p).checked with
  | false => rw [judgeOpen_unchecked p s seen h]
  | true =>
    cases seen with
    | true =>
      rw [judgeOpen_passed p s h]
      split <;> simp [drive_stands, he]
    | false =>
      rw [judgeOpen_failed p s h]
      split <;> simp [declareDriver_stands, driverCond, he]

theorem shortened_judgeOpen (seen : Bool) :
    ((s.channel p).loadJudged seen).Shortened ((judgeOpen p seen s).channel p) := by
  cases h : (s.channel p).checked with
  | false =>
    rw [judgeOpen_unchecked p s seen h, loadJudged_unchecked seen h]
    exact .refl _
  | true =>
    rw [Channel.loadJudged, if_pos h]
    cases seen with
    | true =>
      rw [judgeOpen_passed p s h]
      split <;> simp [Channel.Shortened.refl]
    | false =>
      rw [judgeOpen_failed p s h]
      split
      · have hd := shortened_declareDriver p .drvOpen (s.setChannel p ((s.channel p).judgeOpenLoad false))
        rwa [setChannel_channel_self] at hd
      · rw [setChannel_channel_self]
        exact .refl _

theorem judgeOpen_declares (h : (s.channel p).checked = true) (hfail : 3 ≤ (s.channel p).openFail)
    (hclear : s.stands p .drvOpen = false) :
    ((judgeOpen p false s).phaser p).declared.drvOpen = true ∧ ((judgeOpen p false s).channel p).on = false := by
  rw [judgeOpen_failed p s h, if_pos (Nat.succ_le_succ hfail)]
  exact ⟨declareDriver_owed p .drvOpen _ hclear, declareDriver_switchesOff p .drvOpen _ hclear⟩

theorem judgeOpen_senses (seen : Bool) : (judgeOpen p seen s).vd.senses = s.vd.senses := by
  cases h : (s.channel p).checked with
  | false => rw [judgeOpen_unchecked p s seen h]
  | true =>
    cases seen with
    | true =>
      rw [judgeOpen_passed p s h]
      split <;> rfl
    | false =>
      rw [judgeOpen_failed p s h]
      split
      · exact declareDriver_senses p _ _
      · rfl

end Open

/-! ### Both judgements (R153, R155) -/

/-- What the diagnostics judge at a period end while they are ACTIVE. -/
def judged (p : Phaser) (seen : Bool) (s : State) : State := judgeShort p (judgeOpen p seen s)

section Judged
variable (p : Phaser) (seen : Bool) (s : State)

/-- The open-load check leaves what the overcurrent count is judged by. -/
theorem judgeOpen_ocReached : ((judgeOpen p seen s).channel p).ocReached = (s.channel p).ocReached := by
  rw [(shortened_judgeOpen p s seen).keeps Channel.ocReached, loadJudged_rest]
  rfl

/-- The channel after both judgements: the open-load counts, the overcurrent count, and the output possibly OFF. -/
theorem shortened_judged :
    { (s.channel p).loadJudged seen with
      ocCount := if 3 ≤ (s.channel p).ocReached then 0 else (s.channel p).ocReached }.Shortened
      ((judged p seen s).channel p) := by
  have hopen := shortened_judgeOpen p s seen
  have hshort := shortened_judgeShort p (judgeOpen p seen s)
  rw [judgeOpen_ocReached] at hshort
  exact (hopen.recounted _).trans hshort

theorem judged_drvShort :
    (judged p seen s).stands p .drvShort = (s.stands p .drvShort || decide (3 ≤ (s.channel p).ocReached)) := by
  rw [judged, judgeShort_stands, judgeOpen_ocReached, judgeOpen_stands p s seen (by decide)]
  simp

theorem judged_drvOpen : (judged p seen s).stands p .drvOpen = (judgeOpen p seen s).stands p .drvOpen := by
  simp [judged, judgeShort_stands]

/-- A count below 3 is kept (R153). -/
theorem judged_below (h : ¬ 3 ≤ (s.channel p).ocReached) :
    ((judged p seen s).channel p).ocCount = (s.channel p).ocReached ∧
    (judged p seen s).stands p .drvShort = s.stands p .drvShort := by
  rw [(shortened_judged p seen s).keeps Channel.ocCount, judged_drvShort, decide_eq_false h, Bool.or_false]
  exact ⟨if_neg h, rfl⟩

/-- A count of 3 is set to 0, and DRV_SHORT stands (R153). -/
theorem judged_third (h : 3 ≤ (s.channel p).ocReached) :
    ((judged p seen s).channel p).ocCount = 0 ∧ (judged p seen s).stands p .drvShort = true := by
  rw [(shortened_judged p seen s).keeps Channel.ocCount, judged_drvShort, decide_eq_true h, Bool.or_true]
  exact ⟨if_pos h, rfl⟩

theorem judged_unchecked (h : (s.channel p).checked = false) :
    ((judged p seen s).channel p).openFail = (s.channel p).openFail ∧
    ((judged p seen s).channel p).openPass = (s.channel p).openPass ∧
    (judged p seen s).stands p .drvOpen = s.stands p .drvOpen := by
  have hchannel := shortened_judged p seen s
  rw [loadJudged_unchecked seen h] at hchannel
  rw [judged_drvOpen, judgeOpen_unchecked p s seen h]
  exact ⟨hchannel.keeps Channel.openFail, hchannel.keeps Channel.openPass, rfl⟩

theorem judged_passed (h : (s.channel p).checked = true) :
    ((judged p true s).channel p).openFail = 0 ∧
    ((judged p true s).channel p).openPass = min 4 ((s.channel p).openPass + 1) ∧
    (judged p true s).stands p .drvOpen = (s.stands p .drvOpen && decide ((s.channel p).openPass + 1 < 4)) := by
  have hchannel := shortened_judged p true s
  rw [loadJudged_passed h] at hchannel
  rw [judged_drvOpen, judgeOpen_passed_drvOpen p s h]
  exact ⟨hchannel.keeps Channel.openFail, hchannel.keeps Channel.openPass, rfl⟩

theorem judged_failed (h : (s.channel p).checked = true) :
    ((judged p false s).channel p).openPass = 0 ∧
    ((judged p false s).channel p).openFail = min 4 ((s.channel p).openFail + 1) ∧
    (judged p false s).stands p .drvOpen = (s.stands p .drvOpen || decide (4 ≤ (s.channel p).openFail + 1)) := by
  have hchannel := shortened_judged p false s
  rw [loadJudged_failed h] at hchannel
  rw [judged_drvOpen, judgeOpen_failed_drvOpen p s h]
  exact ⟨hchannel.keeps Channel.openPass, hchannel.keeps Channel.openFail, rfl⟩

theorem judged_declares_drvShort (h : 3 ≤ (s.channel p).ocReached) (hclear : s.stands p .drvShort = false) :
    ((judged p seen s).phaser p).declared.drvShort = true ∧ ((judged p seen s).channel p).on = false :=
  judgeShort_declares p _ (by rwa [judgeOpen_ocReached]) (by rwa [judgeOpen_stands p s seen (by decide)])

theorem judged_declares_drvOpen (h : (s.channel p).checked = true) (hfail : 3 ≤ (s.channel p).openFail)
    (hclear : s.stands p .drvOpen = false) :
    ((judged p false s).phaser p).declared.drvOpen = true ∧ ((judged p false s).channel p).on = false := by
  obtain ⟨howed, hoff⟩ := judgeOpen_declares p s h hfail hclear
  exact ⟨judgeShort_has p _ (d := .drvOpen) howed, (shortened_judgeShort p _).off hoff⟩

theorem judged_senses : (judged p seen s).vd.senses = s.vd.senses :=
  (judgeShort_senses p _).trans (judgeOpen_senses p s seen)

end Judged

/-! ### The event (R150, R159) -/

/-- The state at a period end before the diagnostics judge: the scheduled on-time is over, and the end is counted (R151). -/
def State.ended (s : State) (p : Phaser) : State := (s.setChannel p ((s.channel p).endOn s.counter)).countSense

section Ended
variable (p : Phaser) (seen : Bool) (s : State)

theorem ended_channel : (s.ended p).channel p = (s.channel p).endOn s.counter := setChannel_channel_self s p _

theorem shortened_ended : (s.channel p).Shortened ((s.ended p).channel p) := by
  rw [ended_channel]
  exact shortened_endOn _ _

variable {p seen s}

/-- The place since which the output has been OFF at the end (R155, log 31). -/
theorem ended_offSince
    (h : (s.channel p).running = true ∧ (s.channel p).length ≤ (s.counter - (s.channel p).start).toNat) :
    let c := s.channel p
    ((s.ended p).channel p).offSince =
      if c.on then (if onTime c.active c.length < c.length then onTime c.active c.length else c.length) else c.offAt := by
  intro c
  obtain ⟨hrun, hend⟩ := h
  rw [ended_channel]
  by_cases hdue : c.on = true ∧ onTime c.active c.length < c.length
  · obtain ⟨hon, hlt⟩ := hdue
    rw [endOn_due ((offDue_iff _ _).mpr ⟨hrun, hon, hlt, hlt.le.trans hend⟩), if_pos hon, if_pos hlt]
    rfl
  · rw [endOn_notDue fun hd => ?_, Channel.offSince]
    · split
      next hon => rw [if_neg fun hlt => hdue ⟨hon, hlt⟩]
      next => rfl
    · obtain ⟨-, hon, hlt, -⟩ := (offDue_iff _ _).mp hd
      exact hdue ⟨hon, hlt⟩

theorem periodEndAt_notDue
    (h : ¬ ((s.channel p).running = true ∧ (s.channel p).length ≤ (s.counter - (s.channel p).start).toNat)) :
    periodEndAt p seen s = s :=
  if_neg fun hdue => h ((endDue_iff _ _).mp hdue)

/-- The state after the diagnostics of a period end: SUSPENDED, they judge nothing (R159). -/
def periodJudged (p : Phaser) (seen : Bool) (s : State) : State :=
  if (s.channel p).suspended then s.ended p else judged p seen (s.ended p)

theorem periodEndAt_due
    (h : (s.channel p).running = true ∧ (s.channel p).length ≤ (s.counter - (s.channel p).start).toNat) :
    periodEndAt p seen s =
      (periodJudged p seen s).setChannel p ((periodJudged p seen s).channel p).finish := by
  have hsus : ((s.ended p).channel p).suspended = (s.channel p).suspended := (shortened_ended p s).keeps Channel.suspended
  rw [periodEndAt, if_pos ((endDue_iff _ _).mpr h), periodJudged, ← hsus]
  rfl

variable (p seen s)

theorem periodJudged_senses : (periodJudged p seen s).vd.senses = s.vd.senses + 1 := by
  unfold periodJudged
  split
  · rfl
  · exact judged_senses p seen _

/-- The judgements act on the output, its place and the counts; any other field of the channel is kept. -/
theorem periodJudged_keeps {α : Type} (f : Channel → α)
    (hf : ∀ (x : Channel) b n k i j,
      f { x with on := b, offAt := n, ocCount := k, openFail := i, openPass := j } = f x := by intros; rfl) :
    f ((periodJudged p seen s).channel p) = f (s.channel p) := by
  have hended := (shortened_ended p s).keeps f fun b n => hf _ b n _ _ _
  unfold periodJudged
  split
  · exact hended
  · rw [(shortened_judged p seen _).keeps f fun b n => hf _ b n _ _ _, loadJudged_rest, ← hended]
    exact hf ((s.ended p).channel p) _ _ _ _ _

end Ended

theorem ocReached_marked {c : Channel} (h : c.ocPeriod = true) : c.ocReached = c.ocCount + 1 := if_pos h

theorem ocReached_unmarked {c : Channel} (h : c.ocPeriod = false) :
    c.ocReached = if c.conducted then 0 else c.ocCount := by
  simp [Channel.ocReached, h]

/-- Settles O42: the two judgements of an ACTIVE output, on the channel whose scheduled on-time is over. -/
theorem periodEndJudgesTheDiagnostics : Obligations.PeriodEndJudgesTheDiagnostics := by
  intro p seen s c onFor offSince checked due
  have hexec : exec (.periodEnd p seen) s = .next (periodEndAt p seen s) := rfl
  rw [hexec]
  refine ⟨fun h => by rw [periodEndAt_notDue h], fun h => ?_⟩
  have hmove := driver_periodEndAt p s seen
  refine ⟨_, rfl, hmove.seq, ?_⟩
  rw [hmove.state, hmove.commanded, periodEndAt_due h, setChannel_channel_self]
  have hended := shortened_ended p s
  refine ⟨rfl, ?_, periodJudged_senses p seen s, rfl, periodJudged_keeps p seen s Channel.active, rfl, fun hsus => ?_,
    fun hact => ?_⟩
  · exact periodJudged_keeps p seen s fun x => x.start + BitVec.ofNat 24 x.length
  · rw [periodJudged, if_pos hsus]
    exact ⟨rfl, hended.keeps Channel.ocCount, hended.keeps Channel.openFail, hended.keeps Channel.openPass⟩
  · rw [periodJudged, if_neg (Bool.eq_false_iff.mp hact)]
    have hreached : ((s.ended p).channel p).ocReached = c.ocReached := hended.keeps Channel.ocReached
    have hfail : ((s.ended p).channel p).openFail = c.openFail := hended.keeps Channel.openFail
    have hpass : ((s.ended p).channel p).openPass = c.openPass := hended.keeps Channel.openPass
    have hchecked : ((s.ended p).channel p).checked = true ↔ checked := by
      rw [Channel.checked, decide_eq_true_iff, ended_offSince h, hended.keeps Channel.length, onTime_eq]
    have hbelow := judged_below p seen (s.ended p)
    have hthird := judged_third p seen (s.ended p)
    have hdeclares := judged_declares_drvShort p seen (s.ended p)
    rw [hreached] at hbelow hthird hdeclares
    refine ⟨fun hmark hlow => ?_, fun hmark htwo => ?_, fun hmark hlow => ?_, fun hnot => ?_, fun hyes hseen => ?_,
      fun hyes hseen => ?_⟩
    · rw [ocReached_marked hmark] at hbelow
      exact hbelow (by omega)
    · have hthree : 3 ≤ c.ocReached := by rw [ocReached_marked hmark, htwo]
      obtain ⟨hcount, hstands⟩ := hthird hthree
      exact ⟨hcount, hstands, hdeclares hthree⟩
    · rw [ocReached_unmarked hmark] at hbelow
      exact hbelow (by split <;> omega)
    · rw [← hfail, ← hpass]
      exact judged_unchecked p seen _ (Bool.eq_false_iff.mpr (mt hchecked.mp hnot))
    · subst hseen
      rw [← hpass]
      exact judged_passed p _ (hchecked.mpr hyes)
    · subst hseen
      rw [← hfail]
      obtain ⟨hpassed, hfailed, hopen⟩ := judged_failed p _ (hchecked.mpr hyes)
      exact ⟨hpassed, hfailed, hopen, fun hclear hthree =>
        judged_declares_drvOpen p _ (hchecked.mpr hyes) hthree hclear⟩

end Sys2Proof.Machine
end

section
/-! ## The summaries and ATTN (R167) -/

namespace Sys2Proof.Machine

open Sys2Proof

/-! ### Latched events and their enables -/

/-- The bit of each level condition of a phaser group, in the status byte and in the enables (10.8, Event sets). -/
def phCondBits : List (PhCond × Nat) :=
  [(.camLost, 0), (.trackErr, 1), (.releaseHeld, 2), (.limited, 3), (.faulted, 4), (.drvOpen, 5), (.drvShort, 6),
   (.drvHot, 7)]

/-- The event of a phaser group whose enable is at bit `k` (10.8) is latched. -/
def PhGroup.latchedAt (g : PhGroup) (k : Nat) : Prop :=
  (∃ e, (e, k) ∈ phCondBits ∧ (g.conds.get e).latch ≠ none) ∨
  (k = 8 ∧ g.expired ≠ none) ∨ (k = 9 ∧ g.overrun ≠ none) ∨ (k = 10 ∧ g.reject ≠ none)

/-- The event of DEV whose enable is at bit `k` (10.8) is latched. -/
def DevGroup.latchedAt (d : DevGroup) (k : Nat) : Prop :=
  (k = 0 ∧ d.cycleSync.latch ≠ none) ∨ (k = 1 ∧ d.engineStopped.latch ≠ none) ∨
  (k = 2 ∧ d.condStale.latch ≠ none) ∨ (k = 3 ∧ d.syncDoubt ≠ none) ∨ (k = 4 ∧ d.resetOccurred ≠ none) ∨
  (k = 5 ∧ d.frameError ≠ none)

theorem phLatched_bit (g : PhGroup) (k : Nat) : g.latched.getD k false = true ↔ g.latchedAt k := by
  unfold PhGroup.latched PhGroup.latchedAt phCondBits
  match k with
  | 0 | 1 | 2 | 3 | 4 | 5 | 6 | 7 | 8 | 9 | 10 => simp [PhConds.get, Option.isSome_iff_ne_none]
  | n + 11 => simp

theorem devLatched_bit (d : DevGroup) (k : Nat) : d.latched.getD k false = true ↔ d.latchedAt k := by
  unfold DevGroup.latched DevGroup.latchedAt
  match k with
  | 0 | 1 | 2 | 3 | 4 | 5 => simp [Option.isSome_iff_ne_none]
  | n + 6 => simp

theorem someEnabled_iff (latched : List Bool) (enables : Half) (n : Nat) :
    someEnabled latched enables n = true ↔ ∃ k, latched.getD k false = true ∧ enables.getLsbD (n + k) = true := by
  induction latched generalizing n with
  | nil => simp [someEnabled]
  | cons l rest ih =>
    rw [someEnabled, Bool.or_eq_true, Bool.and_eq_true, ih]
    constructor
    · rintro (⟨hl, hn⟩ | ⟨k, hk, hn⟩)
      · exact ⟨0, hl, hn⟩
      · exact ⟨k + 1, hk, by rwa [Nat.add_comm k, ← Nat.add_assoc]⟩
    · rintro ⟨k, hk, hn⟩
      cases k with
      | zero => exact .inl ⟨hk, hn⟩
      | succ k => exact .inr ⟨k, hk, by rwa [Nat.add_assoc, Nat.add_comm 1]⟩

theorem phSummary_iff (g : PhGroup) : g.summary = true ↔ ∃ k, g.latchedAt k ∧ g.enables.getLsbD k = true := by
  simp only [PhGroup.summary, someEnabled_iff, phLatched_bit, Nat.zero_add]

theorem devSummary_iff (d : DevGroup) : d.summary = true ↔ ∃ k, d.latchedAt k ∧ d.enables.getLsbD k = true := by
  simp only [DevGroup.summary, someEnabled_iff, devLatched_bit, Nat.zero_add]

theorem phaser_mem_list (p : Phaser) : p ∈ Phaser.list := by
  cases p <;> decide

/-- ATTN is some group's summary under its group enable. -/
theorem attn_iff_summary (s : State) :
    s.attn = true ↔ (∃ p, (s.phGroup p).groupEnable = true ∧ (s.phGroup p).summary = true) ∨
      s.cm.dev.groupEnable = true ∧ s.cm.dev.summary = true := by
  simp only [State.attn, Bool.or_eq_true, List.any_eq_true, phaser_mem_list, true_and, Bool.and_eq_true, and_comm]

/-- Settles O45: each summary by its latched and enabled events, and ATTN by the summaries. -/
theorem attnFollowsLatchedEnabledEvents : Obligations.AttnFollowsLatchedEnabledEvents := by
  refine ⟨phSummary_iff, devSummary_iff, fun s => (attn_iff_summary s).trans (or_congr ?_ ?_)⟩
  · refine exists_congr fun p => ?_
    rw [phSummary_iff, ← exists_and_left]
    exact exists_congr fun k => and_congr_right' and_comm
  · rw [devSummary_iff, ← exists_and_left]
    exact exists_congr fun k => and_congr_right' and_comm

end Sys2Proof.Machine
end

section
/-! ## READ_EVENTS and SET_EVENT_ENABLES (R163, R168, R170, 10.8) -/

namespace Sys2Proof.Machine

open Sys2Proof

/-! ### Deleting the latch records (R168) -/

theorem phConds_get_map (f : Cond → Cond) (c : PhConds) (e : PhCond) : (c.map f).get e = f (c.get e) := by
  cases e <;> rfl

theorem phUnlatched_conds (g : PhGroup) (e : PhCond) : g.unlatched.conds.get e = (g.conds.get e).unlatched :=
  phConds_get_map _ _ _

theorem phUnlatched_summary (g : PhGroup) : g.unlatched.summary = false := rfl

theorem devUnlatched_summary (d : DevGroup) : d.unlatched.summary = false := rfl

/-! ### The operands (R168, R170) -/

theorem readGroup_none {b : Byte} (h : 5 ≤ b.toNat) : readGroup b = none := by
  have hdev : b ≠ 4#8 := by bv_omega
  rw [readGroup, if_neg hdev, (phaserOfByte_none b).mpr (by omega)]
  rfl

theorem readGroup_of_index {b : Byte} {p : Phaser} (h : b.toNat = p.index) : readGroup b = some (some p) := by
  have hdev : b ≠ 4#8 := by
    rintro rfl
    cases p <;> cases h
  rw [readGroup, if_neg hdev, phaserOfByte_of_index h]
  rfl

theorem readGroup_dev : readGroup 4#8 = some none := if_pos rfl

theorem exists_index {n : Nat} (h : n ≤ 3) : ∃ p : Phaser, n = p.index := by
  match n with
  | 0 => exact ⟨.fi, rfl⟩
  | 1 => exact ⟨.fe, rfl⟩
  | 2 => exact ⟨.ri, rfl⟩
  | 3 => exact ⟨.re, rfl⟩

theorem index_toNat (p : Phaser) : (BitVec.ofNat 8 p.index).toNat = p.index := by
  cases p <;> rfl

/-- A word has no bit from `n` up exactly if its number is below 2 to the `n`. -/
theorem half_high_clear (e : Half) (n : Nat) : e &&& (BitVec.allOnes 16 <<< n) = 0#16 ↔ e.toNat < 2 ^ n := by
  constructor
  · intro h
    refine Nat.lt_pow_two_of_testBit _ fun i hi => ?_
    by_cases hw : i < 16
    · have hbit : (e &&& (BitVec.allOnes 16 <<< n)).getLsbD i = false := by rw [h, BitVec.getLsbD_zero]
      have hmask : i - n < 16 := by omega
      simp only [BitVec.getLsbD_and, BitVec.getLsbD_shiftLeft, BitVec.getLsbD_allOnes, hw, hmask, Nat.not_lt.mpr hi,
        decide_true, decide_false, Bool.not_false, Bool.and_true] at hbit
      exact hbit
    · exact BitVec.getLsbD_of_ge e i (by omega)
  · intro h
    refine BitVec.eq_of_getLsbD_eq fun i hi => ?_
    by_cases hn : i < n
    · simp [hn]
    · have hbit : e.getLsbD i = false :=
        Nat.testBit_lt_two_pow (h.trans_le (Nat.pow_le_pow_right (by omega) (by omega)))
      simp [hbit]

theorem validEnables_phaser (e : Half) : validEnables true e = decide (e.toNat < 2048) := by
  have hmask : 0xF800#16 = BitVec.allOnes 16 <<< 11 := by decide
  rw [validEnables, if_pos rfl, Bool.beq_eq_decide_eq, hmask]
  exact decide_eq_decide.mpr (half_high_clear e 11)

theorem validEnables_dev (e : Half) : validEnables false e = decide (e.toNat < 64) := by
  have hmask : 0xFFC0#16 = BitVec.allOnes 16 <<< 6 := by decide
  rw [validEnables, if_neg Bool.false_ne_true, Bool.beq_eq_decide_eq, hmask]
  exact decide_eq_decide.mpr (half_high_clear e 6)

/-! ### The readouts by their fields (10.8) -/

/-- The fields of a phaser group's event readout. -/
def State.phEventFields (s : State) (p : Phaser) : List (List Byte) :=
  let g := s.phGroup p
  let c := g.conds
  [[c.statusByte], c.camLost.readout, c.trackErr.readout, c.releaseHeld.readout, c.limited.readout, c.faulted.readout,
   c.drvOpen.readout, c.drvShort.readout, c.drvHot.readout,
   eventReadout g.expired ++ eventReadout g.overrun ++ eventReadout g.reject, g.carried,
   s.enableBytes g.enables g.groupEnable]

/-- The fields of DEV's event readout. -/
def State.devEventFields (s : State) : List (List Byte) :=
  let d := s.cm.dev
  [[d.statusByte],
   d.cycleSync.readout ++ d.engineStopped.readout ++ d.condStale.readout ++ eventReadout d.syncDoubt ++
     eventReadout d.resetOccurred ++ eventReadout d.frameError,
   [d.carried.getD 0 0#8], [d.carried.getD 1 0#8], s.enableBytes d.enables d.groupEnable]

theorem phEvents_eq (s : State) (p : Phaser) : s.phEvents p = (s.phEventFields p).flatten := by
  simp [State.phEvents, State.phEventFields, PhGroup.events]

theorem devEvents_eq (s : State) : s.devEvents = s.devEventFields.flatten := by
  simp [State.devEvents, State.devEventFields, DevGroup.events, DevGroup.carried]

theorem condReadout_length (c : Cond) : c.readout.length = 2 := by
  unfold Cond.readout
  split <;> rfl

theorem eventReadout_length {α : Type} (l : Option (PureLatch α)) : (eventReadout l).length = 2 := by
  cases l <;> rfl

theorem carried_length (g : PhGroup) : g.carried.length = 2 := by
  unfold PhGroup.carried
  split <;> rfl

theorem phEventFields_lengths (s : State) (p : Phaser) :
    (s.phEventFields p).map List.length = [1, 2, 2, 2, 2, 2, 2, 2, 2, 6, 2, 5] := by
  simp [State.phEventFields, condReadout_length, eventReadout_length, carried_length, State.enableBytes, halfBytes]

theorem devEventFields_lengths (s : State) : s.devEventFields.map List.length = [1, 12, 1, 1, 5] := by
  simp [State.devEventFields, condReadout_length, eventReadout_length, State.enableBytes, halfBytes]

/-- The record of the condition at bit `k` stands at bytes 1 + 2 k and 2 + 2 k. -/
theorem phEvents_record (s : State) (p : Phaser) {e : PhCond} {k : Nat} (h : (e, k) ∈ phCondBits) :
    ((s.phEventFields p).flatten.drop (1 + 2 * k)).take 2 = ((s.phGroup p).conds.get e).readout := by
  have hfield : (([1, 2, 2, 2, 2, 2, 2, 2, 2, 6, 2, 5].take (k + 1)).sum = 1 + 2 * k) ∧
      [1, 2, 2, 2, 2, 2, 2, 2, 2, 6, 2, 5][k + 1]? = some 2 ∧
      (s.phEventFields p)[k + 1]? = some ((s.phGroup p).conds.get e).readout := by
    simp only [phCondBits, List.mem_cons, Prod.mk.injEq, List.not_mem_nil, or_false] at h
    rcases h with ⟨rfl, rfl⟩ | ⟨rfl, rfl⟩ | ⟨rfl, rfl⟩ | ⟨rfl, rfl⟩ | ⟨rfl, rfl⟩ | ⟨rfl, rfl⟩ | ⟨rfl, rfl⟩ | ⟨rfl, rfl⟩ <;>
      exact ⟨rfl, rfl, rfl⟩
  obtain ⟨hplace, hsize, hrecord⟩ := hfield
  exact field_slice (phEventFields_lengths s p) hplace hsize hrecord

/-- A byte of one flag per group: bit g for group g, DEV at bit 4 (R168). -/
theorem groupFlags_bits (f : Phaser → Bool) (d : Bool) :
    (∀ p : Phaser, (byteOfFlags (Phaser.list.map f ++ [d])).getLsbD p.index = f p) ∧
      (byteOfFlags (Phaser.list.map f ++ [d])).getLsbD 4 = d ∧ (byteOfFlags (Phaser.list.map f ++ [d])).toNat < 32 := by
  refine ⟨fun p => ?_, byteOfFlags_bit _ (by decide), byteOfFlags_lt _⟩
  cases p <;> exact byteOfFlags_bit _ (by decide)

theorem summaryByte_bits (s : State) :
    (∀ p : Phaser, s.summaryByte.getLsbD p.index = (s.phGroup p).summary) ∧
      s.summaryByte.getLsbD 4 = s.cm.dev.summary ∧ s.summaryByte.toNat < 32 :=
  groupFlags_bits _ _

theorem groupEnableByte_bits (s : State) :
    (∀ p : Phaser, s.groupEnableByte.getLsbD p.index = (s.phGroup p).groupEnable) ∧
      s.groupEnableByte.getLsbD 4 = s.cm.dev.groupEnable ∧ s.groupEnableByte.toNat < 32 :=
  groupFlags_bits _ _

/-- The end of an event readout: enables, group enable, the five summaries and the five group enables (R168). -/
theorem enableBytes_read (s : State) (enables : Half) (on : Bool) :
    (s.enableBytes enables on).take 3 = [hiByte enables, loByte enables, flagByte on] ∧
      (s.enableBytes enables on).length = 5 ∧
      (∀ p : Phaser, ((s.enableBytes enables on).getD 3 0#8).getLsbD p.index = (s.phGroup p).summary ∧
        ((s.enableBytes enables on).getD 4 0#8).getLsbD p.index = (s.phGroup p).groupEnable) ∧
      ((s.enableBytes enables on).getD 3 0#8).getLsbD 4 = s.cm.dev.summary ∧
      ((s.enableBytes enables on).getD 4 0#8).getLsbD 4 = s.cm.dev.groupEnable ∧
      ((s.enableBytes enables on).getD 3 0#8).toNat < 32 ∧ ((s.enableBytes enables on).getD 4 0#8).toNat < 32 := by
  obtain ⟨hsum, hsumDev, hsumLow⟩ := summaryByte_bits s
  obtain ⟨hon, honDev, honLow⟩ := groupEnableByte_bits s
  exact ⟨rfl, rfl, fun p => ⟨hsum p, hon p⟩, hsumDev, honDev, hsumLow, honLow⟩

theorem devStatusByte_bits (d : DevGroup) :
    d.statusByte.toNat < 8 ∧ d.statusByte.getLsbD 0 = d.cycleSync.declared ∧
      d.statusByte.getLsbD 1 = d.engineStopped.declared ∧ d.statusByte.getLsbD 2 = d.condStale.declared :=
  ⟨byteOfFlags_lt _, byteOfFlags_bit _ (by decide), byteOfFlags_bit _ (by decide), byteOfFlags_bit _ (by decide)⟩

/-! ### The two commands -/

theorem ownReadEvents_phaser {b : Byte} {p : Phaser} (h : b.toNat = p.index) (s : State) :
    ownReadEvents b s = (s.setPhGroup p (s.phGroup p).unlatched, ⟨.ok, (s.phEventFields p).flatten⟩) := by
  simp only [ownReadEvents, readGroup_of_index h, Reply.yes, phEvents_eq]

theorem ownReadEvents_dev (s : State) :
    ownReadEvents 4#8 s = (s.setDev s.cm.dev.unlatched, ⟨.ok, s.devEventFields.flatten⟩) :=
  congrArg (fun a => (s.setDev s.cm.dev.unlatched, Reply.yes a)) (devEvents_eq s)

theorem ownReadEvents_refused {b : Byte} (h : 5 ≤ b.toNat) (s : State) : ownReadEvents b s = (s, ⟨.badField, []⟩) := by
  simp only [ownReadEvents, readGroup_none h, Reply.no]

theorem ownSetEnables_phaser {b ge : Byte} {e : Half} {p : Phaser} (hb : b.toNat = p.index) (hge : ge.toNat ≤ 1)
    (he : e.toNat < 2048) (s : State) :
    ownSetEnables b e ge s =
      (s.setPhGroup p { s.phGroup p with enables := e, groupEnable := ge == 1#8 }, ⟨.ok, [hiByte e, loByte e, ge]⟩) := by
  simp only [ownSetEnables, readGroup_of_index hb, readFlag_of_le_one hge, validEnables_phaser, decide_eq_true he, if_true,
    flagByte_of_le_one hge, Reply.yes, halfBytes, List.cons_append, List.nil_append]

theorem ownSetEnables_dev {ge : Byte} {e : Half} (hge : ge.toNat ≤ 1) (he : e.toNat < 64) (s : State) :
    ownSetEnables 4#8 e ge s =
      (s.setDev { s.cm.dev with enables := e, groupEnable := ge == 1#8 }, ⟨.ok, [hiByte e, loByte e, ge]⟩) := by
  simp only [ownSetEnables, readGroup_dev, readFlag_of_le_one hge, validEnables_dev, decide_eq_true he, if_true,
    flagByte_of_le_one hge, Reply.yes, halfBytes, List.cons_append, List.nil_append]

theorem ownSetEnables_unread {b ge : Byte} (h : readGroup b = none ∨ readFlag ge = none) (e : Half) (s : State) :
    ownSetEnables b e ge s = (s, ⟨.badField, []⟩) := by
  rcases h with hgroup | hflag
  · simp only [ownSetEnables, hgroup, Reply.no]
  · rcases hgroup : readGroup b with _ | _ | _ <;> simp only [ownSetEnables, hgroup, hflag, Reply.no]

theorem ownSetEnables_phaser_unlisted {b ge : Byte} {e : Half} {p : Phaser} (hb : b.toNat = p.index) (hge : ge.toNat ≤ 1)
    (he : 2048 ≤ e.toNat) (s : State) : ownSetEnables b e ge s = (s, ⟨.badField, []⟩) := by
  simp only [ownSetEnables, readGroup_of_index hb, readFlag_of_le_one hge, validEnables_phaser,
    decide_eq_false (Nat.not_lt.mpr he), Bool.false_eq_true, if_false, Reply.no]

theorem ownSetEnables_dev_unlisted {ge : Byte} {e : Half} (hge : ge.toNat ≤ 1) (he : 64 ≤ e.toNat) (s : State) :
    ownSetEnables 4#8 e ge s = (s, ⟨.badField, []⟩) := by
  simp only [ownSetEnables, readGroup_dev, readFlag_of_le_one hge, validEnables_dev, decide_eq_false (Nat.not_lt.mpr he),
    Bool.false_eq_true, if_false, Reply.no]

/-- The refusals of SET_EVENT_ENABLES: a group index, a group enable, or an enable bit outside its range (R170). -/
theorem ownSetEnables_refused {b ge : Byte} {e : Half}
    (h : 5 ≤ b.toNat ∨ 2 ≤ ge.toNat ∨ (b.toNat ≤ 3 ∧ 2048 ≤ e.toNat) ∨ (b.toNat = 4 ∧ 64 ≤ e.toNat)) (s : State) :
    ownSetEnables b e ge s = (s, ⟨.badField, []⟩) := by
  by_cases hge : 2 ≤ ge.toNat
  · exact ownSetEnables_unread (.inr ((readFlag_none ge).mpr hge)) e s
  · have hflag : ge.toNat ≤ 1 := by omega
    rcases h with hb | hge' | ⟨hb, he⟩ | ⟨hb, he⟩
    · exact ownSetEnables_unread (.inl (readGroup_none hb)) e s
    · exact absurd hge' hge
    · obtain ⟨p, hp⟩ := exists_index hb
      exact ownSetEnables_phaser_unlisted hp hflag he s
    · obtain rfl : b = 4#8 := BitVec.eq_of_toNat_eq hb
      exact ownSetEnables_dev_unlisted hflag he s

/-- Settles O44: each readout is the list of its fields, and each clause reads one of them; the latch records of the group are
deleted after the capture; SET_EVENT_ENABLES by the operands that are read. -/
theorem eventsAreReadAndEnabled : Obligations.EventsAreReadAndEnabled := by
  unfold Obligations.EventsAreReadAndEnabled
  intro level pure flag tail
  have hlevel (c : Cond) : c.readout = level c := by
    obtain ⟨_, _ | _⟩ := c <;> rfl
  have hpure {α : Type} (l : Option (PureLatch α)) : eventReadout l = pure (l.map fun x => x.count) := by
    cases l <;> rfl
  refine ⟨fun snd s => ⟨fun b hb ht => next_of_taken ht (ownReadEvents_refused hb s), ?_, ?_⟩, fun snd b e ge s ht =>
    ⟨fun h => next_of_taken ht (ownSetEnables_refused h s),
      fun p hb hge he => next_of_taken ht (ownSetEnables_phaser hb hge he s), fun hb hge he => ?_⟩⟩
  · intro p b g c ht
    have hl := phEventFields_lengths s p
    have hstatus : (s.phEventFields p).flatten.getD 0 0#8 = c.statusByte := field_byte hl (i := 0) rfl rfl rfl
    have hhandle : ((s.phEventFields p).flatten.drop 23).take 2 = g.carried := field_slice hl (i := 10) rfl rfl rfl
    have hself : (s.setPhGroup p g.unlatched).phGroup p = g.unlatched := setPhGroup_phGroup_self s p _
    refine ⟨_, _, next_of_taken ht (ownReadEvents_phaser (index_toNat p) s), fields_length hl, ?_⟩
    rw [hself]
    refine ⟨fun e => ?_, rfl, rfl, rfl, rfl, rfl, phUnlatched_summary g, rfl, fun e k he => ⟨?_, ?_⟩, ?_, fun hn => ?_,
      fun l hn => ?_, ?_⟩
    · rw [State.stands, hself, phUnlatched_conds]
      exact ⟨rfl, rfl⟩
    · rw [hstatus]
      exact statusByte_bit c he
    · exact (phEvents_record s p he).trans (hlevel _)
    · rw [← hpure, ← hpure, ← hpure]
      exact field_slice hl (i := 9) rfl rfl rfl
    · rw [hhandle, PhGroup.carried, hn]
    · rw [hhandle, PhGroup.carried, hn]
      rfl
    · rw [field_last hl (i := 11) (k := 25) rfl rfl]
      exact enableBytes_read s _ _
  · intro d ht
    have hl := devEventFields_lengths s
    have hstatus : s.devEventFields.flatten.getD 0 0#8 = d.statusByte := field_byte hl (i := 0) rfl rfl rfl
    have hkind : s.devEventFields.flatten.getD 13 0#8 = d.carried.getD 0 0#8 := field_byte hl (i := 2) rfl rfl rfl
    have herror : s.devEventFields.flatten.getD 14 0#8 = d.carried.getD 1 0#8 := field_byte hl (i := 3) rfl rfl rfl
    have hlatched {l : PureLatch Status} (hn : d.frameError = some l) :
        s.devEventFields.flatten.getD 14 0#8 = l.value.byte := by
      rw [herror, DevGroup.carried, hn]
      rfl
    obtain ⟨hlow, hcycle, hstopped, hstale⟩ := devStatusByte_bits d
    rw [← hstatus] at hlow hcycle hstopped hstale
    refine ⟨_, _, next_of_taken ht (ownReadEvents_dev s), fields_length hl, rfl, devUnlatched_summary d, hlow, hcycle,
      hstopped, hstale, ?_, ?_, fun hn => ?_, fun l hn =>
      ⟨fun hv => (hlatched hn).trans (congrArg Status.byte hv), fun hv => (hlatched hn).trans (congrArg Status.byte hv)⟩, ?_⟩
    · rw [← hlevel, ← hlevel, ← hlevel, ← hpure, ← hpure, ← hpure]
      exact field_slice hl (i := 1) rfl rfl rfl
    · rw [hkind, DevGroup.carried]
      obtain _ | ⟨_, _ | _ | _⟩ := d.resetOccurred <;> rfl
    · rw [herror, DevGroup.carried, hn]
      rfl
    · rw [field_last hl (i := 4) (k := 15) rfl rfl]
      exact enableBytes_read s _ _
  · obtain rfl : b = 4#8 := BitVec.eq_of_toNat_eq hb
    exact next_of_taken ht (ownSetEnables_dev hge he s)

end Sys2Proof.Machine
end

section
/-! ## The queue under the operations of the blocks (R177, log 1): no block writes the commands that wait -/

namespace Sys2Proof.Machine

open Sys2Proof

theorem foldl_pending {α : Type} {f : State → α → State} (h : ∀ s a, (f s a).pending = s.pending) (l : List α)
    (s : State) : (l.foldl f s).pending = s.pending := by
  induction l generalizing s with
  | nil => rfl
  | cons a l ih => rw [List.foldl_cons, ih, h]

section Operations
variable (s : State)

/-! ### Evaluations, recomputes, departures (R48, R107, R108, R124) -/

@[simp] theorem evaluateAll_pending : (evaluateAll s).pending = s.pending := (frame_evaluateAll s).pending

@[simp] theorem evaluateIf_pending (b : Bool) : (evaluateIf b s).pending = s.pending := by
  cases b
  · rfl
  · exact evaluateAll_pending s

@[simp] theorem recomputePhaser_pending (p : Phaser) : (recomputePhaser p s).pending = s.pending :=
  (local_targetHandled p _ _).frame.pending.trans (local_overBandEvent p s).frame.pending

@[simp] theorem takeRecompute_pending (p : Phaser) : (takeRecompute p s).pending = s.pending := by
  unfold takeRecompute
  split
  · rfl
  · exact recomputePhaser_pending _ p

@[simp] theorem settle_pending (who : Asker → Bool) (p : Phaser) : (settle who p s).pending = s.pending := by
  unfold settle
  split
  · exact foldl_pending (fun s _ => takeRecompute_pending s p) _ s
  · rfl

@[simp] theorem settleGroup_pending (who : Asker → Bool) (g : Group) : (settleGroup who g s).pending = s.pending := by
  cases g <;> simp [settleGroup]

@[simp] theorem handleDeparture_pending : (handleDeparture s).pending = s.pending := by
  obtain ⟨t, ht, hhandled⟩ := frame_handleDeparture s
  rw [hhandled]
  exact ht.pending

@[simp] theorem goStale_pending : (goStale s).pending = s.pending := by
  by_cases h : s.ps.cond.timer = some 0
  · rw [goStale_taken h]
    exact evaluateAll_pending _
  · rw [goStale_kept h]

/-! ### The Request Table (R24, R32 to R36) -/

@[simp] theorem askAll_pending (who : Asker) (c : Coverage) (t : Slots) : (askAll who c t s).pending = s.pending := by
  rw [askAll_frame]

@[simp] theorem applyGroups_pending (who : Asker) (c : Coverage) : (applyGroups who c s).pending = s.pending := by
  obtain ⟨front, rear⟩ := c
  cases front <;> cases rear <;> simp [applyGroups]

@[simp] theorem expireSlot_pending (i : Fin 24) : (expireSlot i s).pending = s.pending := by
  unfold expireSlot
  split
  · rfl
  · split
    · exact settleGroup_pending s _ _
    · rfl

/-! ### Edge Capture (R66, R74, R87 to R97) -/

@[simp] theorem associateEdge_pending (c : Phaser) (edge : Nat) : (associateEdge c edge s).pending = s.pending := by
  unfold associateEdge
  dsimp only
  split
  · rfl
  · exact (local_deliver c _ _).frame.pending

@[simp] theorem testWindowEnd_pending (c : Phaser) (prev now k : Nat) :
    (testWindowEnd c prev now k s).pending = s.pending := by
  have missed : (missTooth c s).pending = s.pending := by
    unfold missTooth
    dsimp only
    split
    · exact (local_camLostDeclared c _).frame.pending
    · rfl
  unfold testWindowEnd
  split
  · split
    · rfl
    · exact missed
  · rfl

@[simp] theorem completeCam_pending (b : Bracket) (t1 : Tick) (span : Nat) (c : Phaser) :
    (completeCam b t1 span c s).pending = s.pending :=
  foldl_pending (fun s _ => associateEdge_pending s c _) _ _

@[simp] theorem testCam_pending (prev now : Nat) (c : Phaser) : (testCam prev now c s).pending = s.pending :=
  foldl_pending (fun s k => testWindowEnd_pending s c prev now k) _ s

@[simp] theorem captureTooth_pending (t : Tick) (angle span : Nat) :
    (captureTooth t angle span s).pending = s.pending := by
  cases h : s.ec.bracket with
  | none =>
    rw [captureTooth_first h]
    rfl
  | some b =>
    have bracketed (u : State) (x : Option Bracket) : (u.setBracket x).pending = u.pending := rfl
    rw [captureTooth_next h]
    simp [testWindowEnds, bracketed, completeEdges]

@[simp] theorem camTransition_pending (c : Phaser) (rising : Bool) (held : Nat) (stamp : Tick) :
    (camTransition c rising held stamp s).pending = s.pending := by
  have queued (u : State) : (queueEdge c stamp u).pending = u.pending := by
    unfold queueEdge
    dsimp only
    split <;> rfl
  have taken (u : State) : (takeEdge c stamp u).pending = u.pending := by
    unfold takeEdge
    dsimp only
    split
    · exact queued _
    · rfl
  unfold camTransition
  dsimp only
  split
  · exact taken _
  · rfl

/-! ### The Angle Decoder (R37, R39, R66 to R79) -/

@[simp] theorem toothPart_pending (t : Tick) (prev : Nat) (changed : Bool) (o : ToothOrder) (x : ToothPart) :
    (toothPart t prev changed o s x).pending = s.pending := by
  have applied (g : Group) : (markApply g prev s.ad.angle s).pending = s.pending := by
    unfold markApply
    split
    · exact applyGroups_pending s _ _
    · rfl
  cases x with
  | front =>
    dsimp only [toothPart]
    split
    · rw [settleGroup_pending, applied]
    · exact applied .front
  | rear =>
    dsimp only [toothPart]
    split
    · rw [settleGroup_pending, applied]
    · exact applied .rear
  | edges => exact captureTooth_pending s _ _ _
  | evaluation => exact evaluateIf_pending s changed

@[simp] theorem handTooth_pending (t : Tick) (prev : Nat) (changed : Bool) (o : ToothOrder) :
    (handTooth t prev changed o s).pending = s.pending := by
  unfold handTooth
  rw [foldl_pending fun s x => toothPart_pending s t prev changed o x, settleGroup_pending, settleGroup_pending]

@[simp] theorem crankTooth_pending (t : Tick) (o : ToothOrder) : (crankTooth t o s).pending = s.pending := by
  have stored : (s.stored t).pending = s.pending := handleDeparture_pending s
  rw [crankTooth_stored, State.handedOn]
  split
  · rw [handTooth_pending, stored]
  · rw [evaluateIf_pending]
    exact stored
  · rw [evaluateAll_pending]
    exact stored
  · rw [evaluateIf_pending, stored]

@[simp] theorem crankTransition_pending (rising : Bool) (held : Nat) (stamp : Tick) (o : ToothOrder) :
    (crankTransition rising held stamp o s).pending = s.pending := by
  unfold crankTransition
  dsimp only
  split
  · exact crankTooth_pending _ stamp o
  · rfl

@[simp] theorem stopEngine_pending : (stopEngine s).pending = s.pending := by
  unfold stopEngine
  split
  · dsimp only
    split <;> rfl
  · rfl

/-! ### The time base (R8) -/

@[simp] theorem takeRunOut_pending : (takeRunOut s).pending = s.pending := by
  unfold takeRunOut
  rw [stopEngine_pending, goStale_pending, foldl_pending fun s p => (local_takeTimers p s).frame.pending,
    foldl_pending fun s i => expireSlot_pending s i]

end Operations

/-! ### Parameter writes (R181) -/

/-- A write that is stored leaves the queue. -/
def writeKeepsQueue (write : State → Except Status State) : Prop := ∀ s t, write s = .ok t → t.pending = s.pending

theorem writeKeepsQueue_ok {f : State → State} (h : ∀ s, (f s).pending = s.pending) :
    writeKeepsQueue fun s => .ok (f s) := by
  intro s t ht
  rw [← Except.ok.inj ht]
  exact h s

theorem writeKeepsQueue_whenStopped {write : State → Except Status State} (h : writeKeepsQueue write) :
    writeKeepsQueue fun s => whenStopped s (write s) := by
  intro s t ht
  simp only [whenStopped] at ht
  split at ht
  · exact h s t ht
  · cases ht

theorem setConfig_pending (g : Group) (x : ApplyConfig) (s : State) : (s.setConfig g x).pending = s.pending := by
  cases g <;> rfl

theorem handRelease_pending (s : State) (p : Phaser) : (handRelease s p).pending = s.pending := by
  unfold handRelease
  split <;> rfl

theorem writeKeepsQueue_applyMode (g : Group) (v : Byte) : writeKeepsQueue (writeApplyMode g v) := by
  intro s t ht
  unfold writeApplyMode at ht
  split at ht <;> cases ht
  exact setConfig_pending g _ s

theorem writeKeepsQueue_authority (p : Phaser) (b : Bound) (v : Half) : writeKeepsQueue (writeAuthority p b v) := by
  intro s t ht
  obtain ⟨w, -, rfl⟩ := writeAuthority_ok ht
  exact recomputePhaser_pending _ p

theorem writeKeepsQueue_crank (w : CrankParam) (v : Byte) : writeKeepsQueue (writeCrank w v) := by
  unfold writeCrank
  refine writeKeepsQueue_whenStopped fun s t ht => ?_
  split at ht <;> split at ht <;> cases ht <;> rfl

theorem writeKeepsQueue_syncCam (v : Byte) : writeKeepsQueue (writeSyncCam v) := by
  unfold writeSyncCam
  refine writeKeepsQueue_whenStopped fun s t ht => ?_
  split at ht
  · split at ht <;> cases ht
    rfl
  · cases ht

theorem writeKeepsQueue_toothList (c : Phaser) (count : Byte) (a : AngleField) :
    writeKeepsQueue (writeToothList c count a) := by
  unfold writeToothList
  refine writeKeepsQueue_whenStopped fun s t ht => ?_
  dsimp only at ht
  split at ht
  · split at ht
    · split at ht <;> cases ht
      rfl
    · cases ht
  · cases ht

theorem writeKeepsQueue_polarity (c : Phaser) (v : Byte) : writeKeepsQueue (writePolarity c v) := by
  unfold writePolarity
  refine writeKeepsQueue_whenStopped fun s t ht => ?_
  split at ht <;> cases ht
  rfl

theorem writeKeepsQueue_margin (v : Half) : writeKeepsQueue (writeMargin v) := by
  intro s t ht
  unfold writeMargin at ht
  split at ht <;> cases ht
  rfl

theorem writeKeepsQueue_releaseDuty (v : Half) : writeKeepsQueue (writeReleaseDuty v) :=
  writeKeepsQueue_ok fun _ => foldl_pending handRelease_pending _ _

theorem writeKeepsQueue_threshold (w : ThresholdParam) (v : Half) : writeKeepsQueue (writeThreshold w v) :=
  writeKeepsQueue_ok fun _ => evaluateAll_pending _

theorem writeKeepsQueue_time (w : TimeParam) (v : Half) : writeKeepsQueue (writeTime w v) := by
  intro s t ht
  unfold writeTime at ht
  split at ht <;> cases ht
  rfl

theorem writeKeepsQueue_dutyLimit (p : Phaser) (b : Bound) (v : Half) : writeKeepsQueue (writeDutyLimit p b v) := by
  intro s t ht
  cases b <;> simp only [writeDutyLimit] at ht <;> split at ht <;> cases ht <;> rfl

theorem writeKeepsQueue_writeParam (q : Param) (v : ValueField) : writeKeepsQueue (writeParam q v) := by
  cases q with
  | applyMode g => exact writeKeepsQueue_applyMode g v.b0
  | markAngle g => exact writeKeepsQueue_ok fun s => setConfig_pending g _ s
  | authority b p => exact writeKeepsQueue_authority p b v.half
  | crank w => exact writeKeepsQueue_crank w v.b0
  | syncCam => exact writeKeepsQueue_syncCam v.b0
  | toothList c => exact writeKeepsQueue_toothList c v.b0 v.angles
  | camPolarity c => exact writeKeepsQueue_polarity c v.b0
  | windowMargin => exact writeKeepsQueue_margin v.half
  | releaseDuty => exact writeKeepsQueue_releaseDuty v.half
  | threshold w => exact writeKeepsQueue_threshold w v.half
  | time w => exact writeKeepsQueue_time w v.half
  | dutyLimit b p => exact writeKeepsQueue_dutyLimit p b v.half
  | _ => exact writeKeepsQueue_ok fun _ => rfl

/-! ### The owners' commands -/

/-- What an owner does with a command leaves the queue. -/
def ownerKeepsQueue (owner : State → State × Reply) : Prop := ∀ s, (owner s).1.pending = s.pending

theorem ownerKeepsQueue_reads {owner : State → State × Reply} (h : reads owner) : ownerKeepsQueue owner :=
  fun s => congrArg State.pending (h s)

theorem ownerKeepsQueue_slots {owner : State → State × Reply} (h : writesSlots owner) : ownerKeepsQueue owner := by
  intro s
  obtain hs | ⟨x, hs⟩ := h s
  · rw [hs]
  · rw [hs]
    rfl

theorem ownerKeepsQueue_write {q : Param} {write : State → Except Status State} (h : writeKeepsQueue write) :
    ownerKeepsQueue (ownWrite q write) := by
  intro s
  unfold ownWrite answer
  cases hw : write s with
  | error st => rfl
  | ok t => exact h s t hw

theorem ownerKeepsQueue_setParam (ident : Byte) (v : ValueField) : ownerKeepsQueue (ownSetParam ident v) := by
  intro s
  unfold ownSetParam
  split
  · rfl
  · exact ownerKeepsQueue_write (writeKeepsQueue_writeParam _ v) s

theorem ownerKeepsQueue_apply (sel : Byte) : ownerKeepsQueue (ownApply sel) := by
  intro s
  unfold ownApply
  split
  · rfl
  · exact applyGroups_pending s _ _

theorem ownerKeepsQueue_report (oil : Byte) (temperature battery : Half) :
    ownerKeepsQueue (ownReport oil temperature battery) := by
  intro s
  unfold ownReport
  split
  · rfl
  · exact evaluateAll_pending _

theorem ownerKeepsQueue_enable (phaser setting : Byte) : ownerKeepsQueue (ownEnable phaser setting) := by
  intro s
  unfold ownEnable
  split
  · dsimp only
    split
    · exact (local_enable _ s).frame.pending
    · exact (local_disable _ s).frame.pending
  · rfl

theorem ownerKeepsQueue_clear (phaser : Byte) : ownerKeepsQueue (ownClear phaser) := by
  intro s
  unfold ownClear
  split
  · rfl
  · split
    · split
      · rfl
      · exact (local_clearFaulted _ s).frame.pending
    · rfl

theorem ownerKeepsQueue_readEvents (group : Byte) : ownerKeepsQueue (ownReadEvents group) := by
  intro s
  unfold ownReadEvents
  split <;> rfl

theorem ownerKeepsQueue_setEnables (group : Byte) (enables : Half) (on : Byte) :
    ownerKeepsQueue (ownSetEnables group enables on) := by
  intro s
  unfold ownSetEnables
  split
  · split <;> rfl
  · split <;> rfl
  · rfl

/-! ### The port (R177, R178) -/

theorem takeCommand_pending {owner : State → State × Reply} (h : ownerKeepsQueue owner) (i : Instr) (c : Command)
    (snd : Sender) (s : State) : (takeCommand i c snd owner s).pending = s.pending := by
  obtain hi | ⟨hr, -⟩ | ⟨ht, -⟩ := takeCommand_cases i c snd owner s
  · rw [hi]
  · rw [hr]
    rfl
  · rw [ht]
    exact h s

theorem csRise_pending (bytes : List Byte) (s : State) : (csRise bytes s).pending = s.pending := by
  have ended (u : State) : (endFrame bytes u).pending = u.pending := by
    unfold endFrame
    split <;> rfl
  unfold csRise
  split
  · exact ended _
  · rfl
  · rfl
  · rfl

end Sys2Proof.Machine
end

section
/-! ## Every command completes and leaves the queue; a framed command that is not taken (R176 to R178, log 10) -/

namespace Sys2Proof.Machine

open Sys2Proof

/-- A framed command is taken by an owner that leaves the queue, and it is answered with the code of its frame. -/
structure Framed (i : Instr) (snd : Sender) (c : Command) (owner : State → State × Reply) : Prop where
  exec : ∀ s, exec i s = .next (takeCommand i c snd owner s)
  frame : ∃ rest, encodeFrame i = some (c.code :: rest)
  queue : ownerKeepsQueue owner

theorem Framed.ofWrite {i : Instr} {snd : Sender} {q : Param} {write : State → Except Status State}
    (exec : ∀ s, Machine.exec i s = .next (takeCommand i .setParam snd (ownWrite q write) s))
    (frame : ∃ rest, encodeFrame i = some (Command.setParam.code :: rest)) (h : writeKeepsQueue write) :
    Framed i snd .setParam (ownWrite q write) := ⟨exec, frame, ownerKeepsQueue_write h⟩

/-- Every command with a sender is taken in this way, from row to row of 10.8. -/
theorem framed_of_sender {i : Instr} {snd : Sender} (h : i.sender = some snd) :
    ∃ c owner, Framed i snd c owner := by
  cases i with
  | nop | list | readEngine => cases h; exact ⟨_, _, fun _ => rfl, ⟨_, rfl⟩, fun _ => rfl⟩
  | post _ key cf => cases h; exact ⟨_, _, fun _ => rfl, ⟨_, rfl⟩, ownerKeepsQueue_slots (writesSlots_ownPost _ key cf)⟩
  | change _ x k cf =>
    cases h; exact ⟨_, _, fun _ => rfl, ⟨_, rfl⟩, ownerKeepsQueue_slots (writesSlots_ownChange _ x k cf)⟩
  | retire _ x => cases h; exact ⟨_, _, fun _ => rfl, ⟨_, rfl⟩, ownerKeepsQueue_slots (writesSlots_ownRetire _ x)⟩
  | renew _ x => cases h; exact ⟨_, _, fun _ => rfl, ⟨_, rfl⟩, ownerKeepsQueue_slots (writesSlots_ownRenew x)⟩
  | renewClass _ b => cases h; exact ⟨_, _, fun _ => rfl, ⟨_, rfl⟩, ownerKeepsQueue_slots (writesSlots_ownRenewClass b)⟩
  | apply _ sel => cases h; exact ⟨_, _, fun _ => rfl, ⟨_, rfl⟩, ownerKeepsQueue_apply sel⟩
  | find _ key => cases h; exact ⟨_, _, fun _ => rfl, ⟨_, rfl⟩, ownerKeepsQueue_reads (reads_ownFind key)⟩
  | readRecord _ x => cases h; exact ⟨_, _, fun _ => rfl, ⟨_, rfl⟩, ownerKeepsQueue_reads (reads_ownReadRecord x)⟩
  | readPhaser _ p => cases h; exact ⟨_, _, fun _ => rfl, ⟨_, rfl⟩, ownerKeepsQueue_reads (reads_ownReadPhaser p)⟩
  | resolve _ p => cases h; exact ⟨_, _, fun _ => rfl, ⟨_, rfl⟩, ownerKeepsQueue_reads (reads_ownResolve p)⟩
  | reportConditions _ o t b => cases h; exact ⟨_, _, fun _ => rfl, ⟨_, rfl⟩, ownerKeepsQueue_report o t b⟩
  | enablePhaser _ p e => cases h; exact ⟨_, _, fun _ => rfl, ⟨_, rfl⟩, ownerKeepsQueue_enable p e⟩
  | clearFault _ p => cases h; exact ⟨_, _, fun _ => rfl, ⟨_, rfl⟩, ownerKeepsQueue_clear p⟩
  | readEvents _ g => cases h; exact ⟨_, _, fun _ => rfl, ⟨_, rfl⟩, ownerKeepsQueue_readEvents g⟩
  | setEventEnables _ g e on => cases h; exact ⟨_, _, fun _ => rfl, ⟨_, rfl⟩, ownerKeepsQueue_setEnables g e on⟩
  | resetDevice => cases h; exact ⟨_, _, fun _ => rfl, ⟨_, rfl⟩, fun _ => rfl⟩
  | getParam _ b => cases h; exact ⟨_, _, fun _ => rfl, ⟨_, rfl⟩, ownerKeepsQueue_reads (reads_ownGetParam b)⟩
  | setParam _ b v => cases h; exact ⟨_, _, fun _ => rfl, ⟨_, rfl⟩, ownerKeepsQueue_setParam b v⟩
  | setApplyMode _ g v => cases h; exact ⟨_, _, .ofWrite (fun _ => rfl) ⟨_, rfl⟩ (writeKeepsQueue_applyMode g v)⟩
  | setAuthorityWindow _ p b v =>
    cases h; exact ⟨_, _, .ofWrite (fun _ => rfl) ⟨_, rfl⟩ (writeKeepsQueue_authority p b v)⟩
  | setCrankGeometry _ w v => cases h; exact ⟨_, _, .ofWrite (fun _ => rfl) ⟨_, rfl⟩ (writeKeepsQueue_crank w v)⟩
  | setSyncCam _ v => cases h; exact ⟨_, _, .ofWrite (fun _ => rfl) ⟨_, rfl⟩ (writeKeepsQueue_syncCam v)⟩
  | setToothList _ c n a => cases h; exact ⟨_, _, .ofWrite (fun _ => rfl) ⟨_, rfl⟩ (writeKeepsQueue_toothList c n a)⟩
  | setCamPolarity _ c v => cases h; exact ⟨_, _, .ofWrite (fun _ => rfl) ⟨_, rfl⟩ (writeKeepsQueue_polarity c v)⟩
  | setWindowMargin _ v => cases h; exact ⟨_, _, .ofWrite (fun _ => rfl) ⟨_, rfl⟩ (writeKeepsQueue_margin v)⟩
  | setReleaseDuty _ v => cases h; exact ⟨_, _, .ofWrite (fun _ => rfl) ⟨_, rfl⟩ (writeKeepsQueue_releaseDuty v)⟩
  | setReleaseThresholds _ w v =>
    cases h; exact ⟨_, _, .ofWrite (fun _ => rfl) ⟨_, rfl⟩ (writeKeepsQueue_threshold w v)⟩
  | setTrackFaultTime _ w v => cases h; exact ⟨_, _, .ofWrite (fun _ => rfl) ⟨_, rfl⟩ (writeKeepsQueue_time w v)⟩
  | setDutyLimit _ p b v => cases h; exact ⟨_, _, .ofWrite (fun _ => rfl) ⟨_, rfl⟩ (writeKeepsQueue_dutyLimit p b v)⟩
  | setMarkAngle _ g =>
    cases h; exact ⟨_, _, .ofWrite (fun _ => rfl) ⟨_, rfl⟩ (writeKeepsQueue_ok fun s => setConfig_pending g _ s)⟩
  | setCamLostCount | setIntegratorLimit | setPwmFrequency =>
    cases h; exact ⟨_, _, .ofWrite (fun _ => rfl) ⟨_, rfl⟩ (writeKeepsQueue_ok fun _ => rfl)⟩
  | _ => cases h

theorem overBandIf_pending (b : Bool) (p : Phaser) (s : State) :
    (if b then overBandEvent p s else s).pending = s.pending := by
  split
  · exact (local_overBandEvent p s).frame.pending
  · rfl

theorem after_of_exec {i : Instr} {s t : State} (h : exec i s = .next t) : s.after i = t :=
  Host.Outcome.next.inj ((exec_after i s).symm.trans h)

theorem advanced_pending (u : State) : u.advanced.pending = u.pending := rfl

/-- An event, which no frame carries, leaves the queue. -/
theorem after_pending_of_event {i : Instr} (h : i.sender = none) (s : State) : (s.after i).pending = s.pending := by
  cases i with
  | powerOn | resetPin | vddUndervoltageReset | transactionStart | endOfOnTime => rfl
  | transactionEnd sdi => exact csRise_pending _ s
  | timeBaseAdvance => rw [after_of_exec (exec_timeBase s), advanced_pending, takeRunOut_pending]
  | expiry j => exact expireSlot_pending s j
  | recompute p => exact takeRecompute_pending s p
  | crankTooth r n st o => exact crankTransition_pending s r n st o
  | controlStep p => exact (local_takeDelivered p s).frame.pending
  | camEdge c r n st => exact camTransition_pending s c r n st
  | stopTimerExpiry => exact stopEngine_pending s
  | syncDepartureHandling => exact handleDeparture_pending s
  | freshnessTimerExpiry => exact goStale_pending s
  | releaseIntervalExpiry p => exact (local_endRelease p s).frame.pending
  | returnTimeoutExpiry p => exact (local_endReturn p s).frame.pending
  | latchIntervalExpiry p => exact (local_endLatch p s).frame.pending
  | overBandTrackTime p | overBandFaultTime p => exact overBandIf_pending _ p s
  | periodStart p => exact (local_periodStartAt p s).frame.pending
  | periodEnd p seen => exact (local_periodEndAt p seen s).frame.pending
  | overcurrent p => exact (local_overcurrentAt p s).frame.pending
  | thermalHoldSet p | thermalHoldClear p => exact (local_followHold p _).frame.pending
  | driverConditionFault p d => exact (local_takeDriverFault p d s).frame.pending
  | _ => cases h

theorem after_pending (i : Instr) (s : State) : (s.after i).pending = s.pending := by
  cases hs : i.sender with
  | none => exact after_pending_of_event hs s
  | some snd =>
    obtain ⟨c, owner, h⟩ := framed_of_sender hs
    rw [after_of_exec (h.exec s)]
    exact takeCommand_pending h.queue i c snd s

/-- A frame that is refused writes the port's slot and latches FRAME_ERROR in DEV (R165, R178). -/
theorem rejectFrame_eq (s : State) (st : Status) (code byte1 : Byte) :
    rejectFrame s st code byte1 = { s with fp := { s.fp with slot := some ⟨st, code, byte1, []⟩, work := none } }.setDev
      { s.cm.dev with frameError := latchEvent s.cm.dev.frameError st } := rfl

/-- Settles O3: events by their frames, framed commands by what taking a command can do. -/
theorem everyCommandCompletesAndKeepsTheQueue : Obligations.EveryCommandCompletesAndKeepsTheQueue := by
  refine ⟨fun i s => ⟨s.after i, exec_after i s, after_pending i s⟩, fun i snd s hs => ?_⟩
  obtain ⟨c, owner, h⟩ := framed_of_sender hs
  obtain ⟨tail, htail⟩ := h.frame
  refine ⟨fun j hj hne => ?_, fun code rest hw hv hframe => ?_⟩
  · rw [h.exec, takeCommand_ignored c owner hj hne]
  · obtain ⟨rfl, -⟩ := List.cons.inj (Option.some.inj (htail.symm.trans hframe))
    rw [h.exec, takeCommand_badIssuer c owner hw hv, rejectFrame_eq]
    cases s.cm.dev.frameError <;> rfl

end Sys2Proof.Machine
end

section
/-! ## The frame check (R175, R178) -/

namespace Sys2Proof.Machine

open Sys2Proof

/-! ### Codes and payloads (10.8) -/

theorem command_listed (c : Command) : c ∈ Command.all := by cases c <;> decide

theorem code_injective {c d : Command} (h : c.code = d.code) : c = d := by
  have hnodup : (Command.all.map Command.code).Nodup := by decide
  exact List.inj_on_of_nodup_map hnodup (command_listed c) (command_listed d) h

theorem code_of_ofCode {b : Byte} {c : Command} (h : Command.ofCode b = some c) : c.code = b := by
  simpa using List.find?_some h

theorem ofCode_code (c : Command) : Command.ofCode c.code = some c := by
  cases h : Command.ofCode c.code with
  | none => exact absurd (List.find?_eq_none.mp h c (command_listed c)) (by simp)
  | some d => rw [code_injective (code_of_ofCode h)]

theorem ofCode_unlisted {b : Byte} (h : ∀ c : Command, c.code ≠ b) : Command.ofCode b = none := by
  cases hb : Command.ofCode b with
  | none => rfl
  | some c => exact absurd (code_of_ofCode hb) (h c)

/-- A payload of the command's length is read, whatever its bytes are (R178: no check is made on them). -/
theorem decodePayload_isSome (c : Command) (snd : Sender) {payload : List Byte}
    (h : payload.length = c.payloadLength) : ∃ i, decodePayload c snd payload = some i := by
  obtain ⟨f, rfl⟩ : ∃ f : Fin c.payloadLength → Byte, payload = List.ofFn f :=
    ⟨fun k => payload.get (k.cast h.symm), List.ext_get (by simp [h]) (by simp)⟩
  cases c <;> exact ⟨_, rfl⟩

/-! ### The check, clause by clause -/

/-- The byte after the payload is the CRC of all before it: the fourth check of a frame that starts with the code of `c`
(R178). -/
def crcMatches (c : Command) (rest : List Byte) : Prop :=
  rest.getD (c.payloadLength + 1) 0 = crc8 (c.code :: rest.getD 0 0 :: (rest.drop 1).take c.payloadLength)

section Checks
variable {c : Command} {rest : List Byte}

theorem checkFrame_short (h : rest.length < c.payloadLength + 2) : checkFrame (c.code :: rest) = .bad .badFrame := by
  simp only [checkFrame, ofCode_code, if_pos h]

/-- The CRC covers the code, byte 1 and the payload (R175). -/
theorem take_frame (h : c.payloadLength + 2 ≤ rest.length) :
    (c.code :: rest).take (c.payloadLength + 2) =
      c.code :: rest.getD 0 0 :: (rest.drop 1).take c.payloadLength := by
  cases rest with
  | nil => simp at h
  | cons b rest => rfl

/-- A frame that is long enough passes the CRC check where its byte after the payload is the CRC. -/
theorem crcMatches_iff (h : c.payloadLength + 2 ≤ rest.length) : crcMatches c rest ↔
    (c.code :: rest)[c.payloadLength + 2]? = some (crc8 ((c.code :: rest).take (c.payloadLength + 2))) := by
  have hlt : c.payloadLength + 1 < rest.length := h
  rw [crcMatches, take_frame h, List.getElem?_cons_succ, List.getD_eq_getElem _ _ hlt, List.getElem?_eq_getElem hlt,
    Option.some_inj]

theorem checkFrame_badCrc (h : c.payloadLength + 2 ≤ rest.length) (hcrc : ¬ crcMatches c rest) :
    checkFrame (c.code :: rest) = .bad .badFrame := by
  simp only [checkFrame, ofCode_code, if_neg (Nat.not_lt.mpr h)]
  exact if_neg hcrc

theorem checkFrame_badIssuer (h : c.payloadLength + 2 ≤ rest.length) (hcrc : crcMatches c rest)
    (hv : (Sender.ofByte (rest.getD 0 0)).valid = false) : checkFrame (c.code :: rest) = .bad .badFrame := by
  simp only [checkFrame, ofCode_code, if_neg (Nat.not_lt.mpr h)]
  exact (if_pos hcrc).trans (if_neg (Bool.eq_false_iff.mp hv))

theorem checkFrame_good (h : c.payloadLength + 2 ≤ rest.length) (hcrc : crcMatches c rest)
    (hv : (Sender.ofByte (rest.getD 0 0)).valid = true) {i : Instr}
    (hi : decodePayload c (Sender.ofByte (rest.getD 0 0)) ((rest.drop 1).take c.payloadLength) = some i) :
    checkFrame (c.code :: rest) = .good i := by
  simp only [checkFrame, ofCode_code, if_neg (Nat.not_lt.mpr h)]
  refine (if_pos hcrc).trans ((if_pos hv).trans ?_)
  rw [hi]

end Checks

/-- Settles O7: each clause is one branch of the check. -/
theorem frameChecksDecideInOrder : Obligations.FrameChecksDecideInOrder := by
  refine ⟨rfl, fun code rest => ⟨fun h => ?_, fun c hc => ?_⟩⟩
  · simp only [checkFrame, ofCode_unlisted h]
  · subst hc
    have long (h : c.payloadLength + 3 ≤ (c.code :: rest).length) : c.payloadLength + 2 ≤ rest.length :=
      Nat.le_of_succ_le_succ h
    refine ⟨fun h => checkFrame_short (Nat.lt_of_succ_lt_succ h), fun h hcrc => ?_, fun h hcrc hv => ?_,
      fun h hcrc hv => ?_⟩
    · exact checkFrame_badCrc (long h) fun hm => hcrc ((crcMatches_iff (long h)).mp hm)
    · exact checkFrame_badIssuer (long h) ((crcMatches_iff (long h)).mpr hcrc) hv
    · have hpayload : ((rest.drop 1).take c.payloadLength).length = c.payloadLength := by
        have hlong := long h
        rw [List.length_take, List.length_drop]
        omega
      obtain ⟨i, hi⟩ := decodePayload_isSome c (Sender.ofByte (rest.getD 0 0#8)) hpayload
      exact ⟨i, checkFrame_good (long h) ((crcMatches_iff (long h)).mpr hcrc) hv hi⟩

end Sys2Proof.Machine
end

section
/-! ## Decode of encode: every framed command is read back from its frame (R175, R178, R180, R181) -/

namespace Sys2Proof.Machine

open Sys2Proof

/-! ### Fields from their bytes (R175, R180, R181) -/

theorem ofByte_byte (snd : Sender) : Sender.ofByte snd.byte = snd := by
  obtain ⟨rank, tag⟩ := snd
  simp only [Sender.ofByte, Sender.byte, Sender.mk.injEq]
  exact ⟨BitVec.extractLsb'_append_eq_left, BitVec.extractLsb'_append_eq_right⟩

theorem mkHalf_bytes (h : Half) : mkHalf (hiByte h) (loByte h) = h :=
  (BitVec.extractLsb'_append_extractLsb'_eq_extractLsb' rfl).trans BitVec.extractLsb'_eq_self

/-- The low bits of a narrower field sent in a byte are the field. -/
theorem lowBits_setWidth {w : Nat} (hw : w ≤ 8) (x : BitVec w) : (x.setWidth 8).extractLsb' 0 w = x := by
  apply BitVec.eq_of_toNat_eq
  rw [BitVec.extractLsb'_toNat, BitVec.toNat_setWidth, Nat.shiftRight_zero,
    Nat.mod_mod_of_dvd _ (Nat.pow_dvd_pow 2 hw), Nat.mod_eq_of_lt x.isLt]

theorem handle_ofBytes (h : Handle) : Handle.ofBytes (h.slot.setWidth 8) (h.gen.setWidth 8) = h := by
  rw [Handle.ofBytes, lowBits_setWidth (by decide), lowBits_setWidth (by decide)]

theorem half_ofHalf (h : Half) : (ValueField.ofHalf h).half = h := mkHalf_bytes h

theorem angles_ofList (count : Byte) (a : AngleField) : (ValueField.ofList count a).angles = a := by
  simp only [ValueField.angles, ValueField.ofList, mkHalf_bytes]

/-! ### A frame and whatever follows it -/

/-- A frame made by R175 passes all five checks of R178. -/
theorem checkFrame_mkFrame {c : Command} {snd : Sender} {payload : List Byte} {i : Instr} (hv : snd.valid = true)
    (hlen : payload.length = c.payloadLength) (hi : decodePayload c snd payload = some i) (extra : List Byte) :
    checkFrame (mkFrame c snd payload ++ extra) = .good i := by
  generalize hcrc : crc8 (c.code :: snd.byte :: payload) = crc
  have hframe : mkFrame c snd payload ++ extra = c.code :: snd.byte :: (payload ++ crc :: extra) := by
    simp [mkFrame, hcrc]
  have htake : (payload ++ crc :: extra).take c.payloadLength = payload := by rw [← hlen, List.take_left]
  have hissuer : Sender.ofByte snd.byte = snd := ofByte_byte snd
  rw [hframe]
  refine checkFrame_good ?_ ?_ (hissuer.symm ▸ hv) ?_
  · simp [hlen]
  · change (payload ++ crc :: extra).getD c.payloadLength 0 =
      crc8 (c.code :: snd.byte :: (payload ++ crc :: extra).take c.payloadLength)
    rw [htake, hcrc, ← hlen]
    simp
  · change decodePayload c (Sender.ofByte snd.byte) ((payload ++ crc :: extra).take c.payloadLength) = some i
    rw [hissuer, htake, hi]

/-- The frame of a parameter write is read as the parameter's row (R181). -/
theorem checkFrame_paramFrame {snd : Sender} (hv : snd.valid = true) (q : Param) (v : ValueField) (extra : List Byte) :
    checkFrame (paramFrame snd q v ++ extra) = .good (decodeSetParam snd q.ident v) :=
  checkFrame_mkFrame hv rfl rfl extra

/-- A write by the row SET_PARAM, whose identifier no other row has. -/
theorem decodeSetParam_generic {ident : Byte} (h : genericIdent ident = true) (snd : Sender) (v : ValueField) :
    decodeSetParam snd ident v = .setParam snd ident v := by
  unfold genericIdent at h
  unfold decodeSetParam
  cases hq : Param.ofIdent ident with
  | none => rfl
  | some q =>
    rw [hq] at h
    cases q with
    | stopTime | firingOffset | homeBand | releaseInterval | returnTimeout | latchInterval | trackBand | freshnessTime
    | kp | ki | nd => rfl
    | _ => cases h

/-- What the frame check makes of a well-formed command's frame, row by row of 10.8. -/
theorem checkFrame_encodeFrame {i : Instr} {bytes : List Byte} (hwf : i.wellFormed = true)
    (h : encodeFrame i = some bytes) (extra : List Byte) : checkFrame (bytes ++ extra) = .good i := by
  have valid (snd : Sender) (hs : i.sender = some snd) : snd.valid = true := valid_of_wellFormed hs hwf
  cases i with
  | nop snd | list snd | readEngine snd | resetDevice snd | renewClass snd | apply snd | find snd | readPhaser snd
  | resolve snd | enablePhaser snd | clearFault snd | readEvents snd | getParam snd =>
    cases h
    exact checkFrame_mkFrame (valid snd rfl) rfl rfl extra
  | post snd | change snd | retire snd | renew snd | readRecord snd | reportConditions snd | setEventEnables snd =>
    cases h
    refine checkFrame_mkFrame (valid snd rfl) rfl ?_ extra
    simp [decodePayload, ContentField.bytes, Handle.bytes, handle_ofBytes, halfBytes, mkHalf_bytes]
  | setParam snd ident v =>
    cases h
    refine checkFrame_mkFrame (valid snd rfl) rfl ?_ extra
    have hgeneric : genericIdent ident = true := (Bool.and_eq_true_iff.mp hwf).2
    exact congrArg some (decodeSetParam_generic hgeneric snd v)
  | setApplyMode snd | setCrankGeometry snd | setSyncCam snd | setCamPolarity snd =>
    cases h
    rw [checkFrame_paramFrame (valid snd rfl), decodeSetParam, ofIdent_ident]
    rfl
  | setToothList snd c count a =>
    cases h
    rw [checkFrame_paramFrame (valid snd rfl), decodeSetParam, ofIdent_ident]
    simp only [angles_ofList]
    rfl
  | setMarkAngle snd | setAuthorityWindow snd | setWindowMargin snd | setCamLostCount snd | setReleaseDuty snd
  | setReleaseThresholds snd | setTrackFaultTime snd | setIntegratorLimit snd | setDutyLimit snd
  | setPwmFrequency snd =>
    cases h
    rw [checkFrame_paramFrame (valid snd rfl), decodeSetParam, ofIdent_ident]
    simp only [half_ofHalf]
  | _ => cases h

/-- Settles O8, row by row. -/
theorem frameDecodeUndoesEncode : Obligations.FrameDecodeUndoesEncode :=
  fun _ _ extra hwf h => checkFrame_encodeFrame hwf h extra

end Sys2Proof.Machine
end

section
/-! ## The edges of CS, the front of the queue, NOP and the layout of a response (R174 to R180, R184) -/

namespace Sys2Proof.Machine

open Sys2Proof

/-- Settles O1: `step` on a queue that is not empty is `exec` of its front, by definition. -/
theorem stepRunsTheFrontCommand : Obligations.StepRunsTheFrontCommand := fun _ _ _ => rfl

/-! ### The CS fall (R176) -/

section Fall
variable {f : Port}

theorem csFall_ready (ht : f.transaction = .idle) (hw : f.work = none) :
    f.csFall = { f with transaction := .active true (f.slot.getD notReady), slot := none } := by
  simp [Port.csFall, ht, Port.ready, hw]

theorem csFall_busy (ht : f.transaction = .idle) {i : Instr} (hw : f.work = some i) :
    f.csFall = { f with transaction := .active false notReady } := by
  simp [Port.csFall, ht, Port.ready, hw]

theorem csFall_low (ht : f.transaction ≠ .idle) : f.csFall = f := by
  unfold Port.csFall
  split
  · exact absurd ‹_› ht
  · rfl

end Fall

/-! ### The CS rise (R177, R178, R184) -/

section Rise
variable {s : State}

theorem csRise_idle (ht : s.fp.transaction = .idle) (bytes : List Byte) : csRise bytes s = s := by
  rw [csRise, ht]

/-- A transaction begun BUSY, or abandoned by a reset, ends without a frame. -/
theorem csRise_ignored {sdo : Response} (ht : s.fp.transaction = .active false sdo ∨ s.fp.transaction = .abandoned)
    (bytes : List Byte) : csRise bytes s = { s with fp := { s.fp with transaction := .idle } } := by
  obtain ht | ht := ht <;> rw [csRise, ht]

theorem csRise_ready {sdo : Response} (ht : s.fp.transaction = .active true sdo) (bytes : List Byte) :
    csRise bytes s = endFrame bytes { s with fp := { s.fp with transaction := .idle } } := by
  rw [csRise, ht]

theorem endFrame_good {bytes : List Byte} {i : Instr} (h : checkFrame bytes = .good i) (u : State) :
    endFrame bytes u = { u with fp := { u.fp with work := some i } } := by
  rw [endFrame, h]

theorem endFrame_bad {bytes : List Byte} {st : Status} (h : checkFrame bytes = .bad st) (u : State) :
    endFrame bytes u = rejectFrame u st (bytes.getD 0 0#8) (bytes.getD 1 0#8) := by
  rw [endFrame, h]

end Rise

theorem exec_fall {s : State} {f : Port} (h : s.fp.csFall = f) :
    exec .transactionStart s = .next { s with fp := f } := by
  rw [← h]
  rfl

theorem exec_rise {sdi : List Bool} {s t : State} (h : csRise (bytesOfBits sdi) s = t) :
    exec (.transactionEnd sdi) s = .next t := by
  rw [← h]
  rfl

/-- Settles O6, edge by edge. -/
theorem transactionEdgesFollowReadiness : Obligations.TransactionEdgesFollowReadiness := by
  refine ⟨fun s ht => ?_, fun sdi s =>
    ⟨fun ht => exec_fall (csFall_low ht), fun ht => exec_rise (csRise_idle ht _)⟩,
    fun sdi s => ⟨fun sdo i ht hc => ?_, fun sdo st ht hc => ?_, fun sdo ht => exec_rise (csRise_ignored ht _)⟩⟩
  · have ready {x : Option Response} (hw : s.fp.work = none) (hs : s.fp.slot = x) : exec .transactionStart s =
        .next { s with fp := { s.fp with transaction := .active true (x.getD notReady), slot := none } } := by
      rw [exec_fall (csFall_ready ht hw), hs]
    exact ⟨fun r hw hs => ready hw hs, fun hw hs => ready hw hs, fun i hw => exec_fall (csFall_busy ht hw)⟩
  · exact exec_rise ((csRise_ready ht _).trans (endFrame_good hc _))
  · rw [exec_rise ((csRise_ready ht _).trans (endFrame_bad hc _)), rejectFrame_eq]
    cases s.cm.dev.frameError <;> rfl

/-! ### The frame of a response (R176, R179) -/

section Layout
variable (r : Response)

/-- The bytes of a response before its CRC. -/
def Response.body : List Byte := r.status.byte :: r.code :: r.byte1 :: BitVec.ofNat 8 r.payload.length :: r.payload

theorem response_frame_eq : r.frame = r.body ++ [crc8 r.body] := rfl

theorem response_body_length : r.body.length = 4 + r.payload.length := Nat.add_comm _ 4

theorem response_frame_length : r.frame.length = 5 + r.payload.length := by
  rw [response_frame_eq, List.length_append, response_body_length, List.length_singleton]
  omega

theorem response_frame_take : r.frame.take (4 + r.payload.length) = r.body := by
  rw [response_frame_eq, ← response_body_length, List.take_left]

theorem sdoByte_payload {k : Nat} (h : k < r.payload.length) : r.sdoByte (4 + k) = r.payload[k] := by
  have hlt : k < (r.payload ++ [crc8 r.body]).length := by
    rw [List.length_append]
    omega
  have hskip : r.sdoByte (4 + k) = (r.payload ++ [crc8 r.body]).getD k 0#8 := by
    rw [Nat.add_comm]
    rfl
  rw [hskip, List.getD_eq_getElem _ _ hlt, List.getElem_append_left h]

theorem sdoByte_crc : r.sdoByte (4 + r.payload.length) = crc8 r.body := by
  rw [Response.sdoByte, response_frame_eq, ← response_body_length]
  simp

theorem sdoByte_after {k : Nat} (h : 5 + r.payload.length ≤ k) : r.sdoByte k = 0#8 :=
  List.getD_eq_default _ _ ((response_frame_length r).trans_le h)

end Layout

/-- Settles O9: NOP's owner changes nothing; a response's frame is its four leading bytes, its payload and its CRC. -/
theorem nopIsAnsweredOkAndResponsesAreFramed : Obligations.NopIsAnsweredOkAndResponsesAreFramed := by
  refine ⟨fun snd s ht => ?_, fun r hr => ⟨response_frame_length r, rfl, ?_, fun k hk => sdoByte_payload r hk, ?_,
    fun k hk => sdoByte_after r hk⟩⟩
  · exact congrArg Host.Outcome.next (takeCommand_taken .nop _ ht)
  · have hbyte : r.sdoByte 3 = BitVec.ofNat 8 r.payload.length := rfl
    rw [hbyte, BitVec.toNat_ofNat, Nat.mod_eq_of_lt hr]
  · rw [sdoByte_crc, response_frame_take]

end Sys2Proof.Machine
end
